-- ==== Sys2Proof/Word.lean ====
section
/-! DEFINITION. The byte of the serial line and the big-endian words made of bytes (00_scope.md 1.3.5). -/

namespace Sys2Proof

/-- One byte of the serial line (11 R172: 8 data bits). -/
abbrev Byte := BitVec 8

/-- `n` bytes of a number, the most significant byte first (00_scope.md 1.3.5). -/
def bigEndian : Nat → Nat → List Byte
  | 0, _ => []
  | n + 1, x => BitVec.ofNat 8 (x / 256 ^ n) :: bigEndian n x

/-- The number that a run of bytes spells, the most significant byte first. -/
def fromBigEndian (bs : List Byte) : Nat :=
  bs.foldl (fun acc b => acc * 256 + b.toNat) 0

end Sys2Proof
end

