-- ==== Sys2Proof/Config.lean ====
section
/-! DEFINITION. The values the manual leaves open, as constants that nothing in Lean can evaluate. -/

namespace Sys2Proof.Config

/-- What a mark byte other than 0 and 1 in a request means. 11 R172 gives a mark the bytes 0 and 1
only. A free value (log 9). -/
opaque oddMark : Nat → Bool

/-- The result code of an ALLOCATION QUERY whose selector code is none of the three of 04 R65. A free
value (log 10). -/
opaque selectorResult : Nat → Nat

end Sys2Proof.Config
end

