-- ==== Sys2Proof/Syntax.lean ====
section
/-! DEFINITION. The commands: one constructor of `Instr` per row of spec/opcode_table.json, with the
fields that 11 R172 and R182 give the row's request, and the request bodies the receive queue holds. -/

namespace Sys2Proof

/-- The two directions of gas: into storage and out of it. Where the manual has a third value (NONE,
HOLD) the model writes `none` of `Option Dir`. -/
inductive Dir where
  | inject
  | withdraw
  deriving DecidableEq, Repr

/-- The two adsorption beds of a dryer train (09 R144). -/
inductive Bed where
  | a
  | b
  deriving DecidableEq, Repr

/-- Fresh limit and hold limit of one point class, in seconds (02 R21). -/
structure Limit where
  fresh : Nat
  hold : Nat
  deriving DecidableEq, Repr

/-- The limits of the six point classes, in the order of 01 R6. -/
structure ClassLimits where
  meter : Limit
  cv : Limit
  pressure : Limit
  flow : Limit
  feedback : Limit
  water : Limit
  deriving DecidableEq, Repr

/-- The 19 settings of CONFIGURE STATION, in the order of 01 R6. -/
structure Settings where
  mode : Nat
  lead : Nat
  warnLevel : Nat
  defaultCv : Nat
  gridMargin : Nat
  tolerance : Nat
  statusInterval : Nat
  limits : ClassLimits
  deriving DecidableEq, Repr

/-- The four rights fields of CONFIGURE SHIPPER (04 R51). -/
structure Rights where
  space : Nat
  injection : Nat
  withdrawal : Nat
  imbalanceLimit : Nat
  deriving DecidableEq, Repr

/-- The nine configuration fields of a cavern (07 R102). -/
structure CavernConfig where
  pressureMin : Nat
  pressureMax : Nat
  warnMargin : Nat
  maxRamp : Nat
  injectionLimit : Nat
  withdrawalLimit : Nat
  settleTime : Nat
  maxReversals : Nat
  travelTime : Nat
  deriving DecidableEq, Repr

/-- The eight configuration fields of CONFIGURE UNIT, each present or absent (08 R126). -/
structure UnitFields where
  capacity : Option Nat
  minFlow : Option Nat
  startsPerHour : Option Nat
  minRun : Option Nat
  minStop : Option Nat
  startTimeout : Option Nat
  tripLimit : Option Nat
  stopBand : Option Nat
  deriving DecidableEq, Repr

/-- The ten configuration fields of CONFIGURE TRAIN, each present or absent (09 R145). -/
structure TrainFields where
  capacity : Option Nat
  bedCapacity : Option Nat
  switchPoint : Option Nat
  derate : Option Nat
  heatingTime : Option Nat
  coolingTime : Option Nat
  regenRate : Option Nat
  outletSpec : Option Nat
  designInlet : Option Nat
  offspecDelay : Option Nat
  deriving DecidableEq, Repr

/-- The body of a request: its kind (11 R182) and its fields. An action or a selector is the code it
travels as. `malformed` is a request of a known kind that fails the form check of 11 R174, `unknown` a
request of an unknown kind. -/
inductive ReqBody where
  | setClock (gasDay second : Nat)
  | stationCommand (action : Nat)
  | stationStatus
  | configureStation (f : Settings)
  | sample (pairs : List (Nat × Nat))
  | pointQuery (first count : Nat)
  | configureShipper (n action : Nat) (r : Rights)
  | loadBalance (n inventory : Nat)
  | transfer (source target amount hour : Nat)
  | accountQuery (n : Nat) (clear : Bool)
  | allocationQuery (selector number : Nat)
  | nominate (n first span direction quantity : Nat)
  | nominationQuery (n first : Nat)
  | planQuery
  | configureCavern (j action : Nat) (f : CavernConfig) (invAction : Nat) (value : Int)
  | cavernMode (j action : Nat)
  | cavernQuery (j : Nat)
  | configureUnit (k action : Nat) (f : UnitFields)
  | unitMode (k action : Nat)
  | unitQuery (k : Nat)
  | configureTrain (t action : Nat) (f : TrainFields)
  | trainMode (t action : Nat)
  | trainQuery (t : Nat)
  | orderQuery (first count : Nat)
  | alertQuery
  | alertControl (enableSet enableClear pendingClear : Nat)
  | linkStatus
  | linkReset
  | malformed (kind : Nat)
  | unknown (kind : Nat)
  deriving DecidableEq, Repr

/-- A request as the receive queue of SLK holds it: the host's tag and the body (11 R172, R174). -/
structure Request where
  tag : Nat
  body : ReqBody
  deriving DecidableEq, Repr

/-- The commands of the block, one per row of spec/opcode_table.json. Caverns, units and trains are
numbered from 1 (00_scope.md 1.3.3). -/
inductive Instr where
  /-- POWER_ON_OR_RESET: whether the stored CRC-32 agrees, whether TRIP_N is sensed active, and the straps. -/
  | powerOnOrReset (crcAgrees tripActive bsel1 bsel0 : Bool)
  | resetAsserted
  | tripNAssertion
  | tripNRelease
  | secondEvent
  | minuteEvent
  | hourBoundary
  | hourCloseBegin
  | hourCloseComplete
  | planEvaluationBegin
  | planEvaluationComplete
  | snapshotWriteBegin
  /-- SNAPSHOT_WRITE_COMPLETE: whether the verify of 01 R16 passes. -/
  | snapshotWriteComplete (verifyPasses : Bool)
  | settleTimerExpiry (cavern : Nat)
  | valveFault (cavern : Nat)
  | minRunExpiry (unit : Nat)
  | minStopExpiry (unit : Nat)
  | timeoutExpiry (unit : Nat)
  | startListEntryDrop (unit : Nat)
  | heatingExpiry
  | coolingExpiry (train : Nat)
  | offspecEntry (train : Nat)
  | offspecRecovery (train : Nat)
  | statusCountdownExpiry
  /-- FRAME_RECEIVED: the byte that completes the frame (the low byte of the check). -/
  | frameReceived (last : Byte)
  | parserTimeout
  | recordSent
  | unknownKind (tag kind : Nat)
  | setClock (tag gasDay second : Nat)
  | stationCommandStart (tag : Nat)
  | stationCommandPark (tag : Nat)
  | stationCommandTrip (tag : Nat)
  | stationCommandResume (tag : Nat)
  | stationStatus (tag : Nat)
  | configureStation (tag : Nat) (f : Settings)
  | sample (tag : Nat) (pairs : List (Nat × Nat))
  | pointQuery (tag first count : Nat)
  | configureShipperOpen (tag n : Nat) (r : Rights)
  | configureShipperSet (tag n : Nat) (r : Rights)
  | configureShipperSuspend (tag n : Nat)
  | configureShipperReactivate (tag n : Nat)
  | configureShipperClose (tag n : Nat)
  | loadBalance (tag n inventory : Nat)
  | transfer (tag source target amount hour : Nat)
  | accountQuery (tag n : Nat) (clear : Bool)
  | allocationQuery (tag selector number : Nat)
  | nominate (tag n first span direction quantity : Nat)
  | nominationQuery (tag n first : Nat)
  | planQuery (tag : Nat)
  | configureCavern (tag j : Nat) (f : CavernConfig) (invAction : Nat) (value : Int)
  | deconfigureCavern (tag j : Nat)
  | cavernModeInService (tag j : Nat)
  | cavernModeOutOfService (tag j : Nat)
  | abandonSettle (tag j : Nat)
  | cavernQuery (tag j : Nat)
  | configureUnit (tag k : Nat) (f : UnitFields)
  | deconfigureUnit (tag k : Nat)
  | unitModeAvailable (tag k : Nat)
  | unitModeUnavailable (tag k : Nat)
  | unitModeRelease (tag k : Nat)
  | unitQuery (tag k : Nat)
  | configureTrain (tag t : Nat) (f : TrainFields)
  | deconfigureTrain (tag t : Nat)
  | trainModeInService (tag t : Nat)
  | trainModeOutOfService (tag t : Nat)
  | switchBeds (tag t : Nat)
  | trainQuery (tag t : Nat)
  | orderQuery (tag first count : Nat)
  | alertQuery (tag : Nat)
  | alertControl (tag enableSet enableClear pendingClear : Nat)
  | linkStatus (tag : Nat)
  | linkReset (tag : Nat)
  | byteReceived (b : Byte)
  deriving DecidableEq, Repr

end Sys2Proof
end

