-- ==== Sys2Proof/Decode.lean ====
section
/-! DEFINITION. Reading requests from their bytes, and writing them: the request kinds of 11 R182, the form check of 11 R174
with the field sizes that 11 R172 gives, and `decodeTableWord` (spec/opcode_table.json gives no row any
bits, so no word spells a command). -/

namespace Sys2Proof

/-- The request codes of 11 R182. -/
def requestKinds : List Nat :=
  [0x01, 0x02, 0x03, 0x04, 0x05, 0x06, 0x08, 0x09, 0x0A, 0x0B, 0x0C, 0x10, 0x11, 0x14, 0x18, 0x19,
   0x1A, 0x1C, 0x1D, 0x1E, 0x20, 0x21, 0x22, 0x28, 0x29, 0x2A, 0x2C, 0x2D]

/-- The kind code of a request body (11 R182). -/
def ReqBody.kind : ReqBody → Nat
  | .setClock .. => 0x01
  | .stationCommand .. => 0x02
  | .stationStatus => 0x03
  | .configureStation .. => 0x04
  | .sample .. => 0x05
  | .pointQuery .. => 0x06
  | .configureShipper .. => 0x08
  | .loadBalance .. => 0x09
  | .transfer .. => 0x0A
  | .accountQuery .. => 0x0B
  | .allocationQuery .. => 0x0C
  | .nominate .. => 0x10
  | .nominationQuery .. => 0x11
  | .planQuery => 0x14
  | .configureCavern .. => 0x18
  | .cavernMode .. => 0x19
  | .cavernQuery .. => 0x1A
  | .configureUnit .. => 0x1C
  | .unitMode .. => 0x1D
  | .unitQuery .. => 0x1E
  | .configureTrain .. => 0x20
  | .trainMode .. => 0x21
  | .trainQuery .. => 0x22
  | .orderQuery .. => 0x28
  | .alertQuery => 0x29
  | .alertControl .. => 0x2A
  | .linkStatus => 0x2C
  | .linkReset => 0x2D
  | .malformed k => k
  | .unknown k => k

/-- Cut FIELDS into numbers of the given sizes in bytes; `none` where the length is not exactly theirs
(the form check of 11 R174). -/
def fieldValues : List Nat → List Byte → Option (List Nat)
  | [], [] => some []
  | [], _ :: _ => none
  | w :: ws, bs =>
    if bs.length < w then none
    else (fieldValues ws (bs.drop w)).map (fun vs => fromBigEndian (bs.take w) :: vs)

/-- A mark: 0 clear, 1 set (11 R172); any other byte is a free value (log 9). -/
def markOf (b : Nat) : Bool :=
  if b = 0 then false else if b = 1 then true else Config.oddMark b

/-- An optional part: a present mark and the part (11 R172). -/
def optionalOf (mark value : Nat) : Option Nat :=
  if markOf mark then some value else none

/-- A signed number: 8 bytes, two's complement (11 R172). -/
def signedOf (x : Nat) : Int :=
  if x < 2 ^ 63 then (x : Int) else (x : Int) - 2 ^ 64

/-- The (point, value) pairs of a SAMPLE, 5 bytes each (11 R182); `none` where the length is no whole
number of pairs. -/
def samplePairs : List Byte → Option (List (Nat × Nat))
  | [] => some []
  | p :: a :: b :: c :: d :: rest =>
    (samplePairs rest).map (fun ps => (p.toNat, fromBigEndian [a, b, c, d]) :: ps)
  | _ => none

/-- The sizes of the FIELDS of a request kind of one fixed length (11 R172 applied to the fields the
kind's rule lists). -/
def fieldSizes : Nat → List Nat
  | 0x01 => [2, 4]
  | 0x02 => [1]
  | 0x04 => [1, 1, 1, 2, 2, 1, 2, 2, 2, 2, 2, 2, 2, 2, 2, 2, 2, 2, 2]
  | 0x06 => [1, 1]
  | 0x08 => [1, 1, 8, 4, 4, 4]
  | 0x09 => [1, 8]
  | 0x0A => [1, 1, 4, 4]
  | 0x0B => [1, 1]
  | 0x0C => [1, 1]
  | 0x10 => [1, 4, 1, 1, 4]
  | 0x11 => [1, 1]
  | 0x18 => [1, 1, 2, 2, 2, 2, 4, 4, 2, 1, 2, 1, 8]
  | 0x19 => [1, 1]
  | 0x1A => [1]
  | 0x1C => [1, 1, 1, 4, 1, 4, 1, 1, 1, 2, 1, 2, 1, 2, 1, 1, 1, 1]
  | 0x1D => [1, 1]
  | 0x1E => [1]
  | 0x20 => [1, 1, 1, 4, 1, 2, 1, 1, 1, 1, 1, 2, 1, 2, 1, 2, 1, 2, 1, 2, 1, 2]
  | 0x21 => [1, 1]
  | 0x22 => [1]
  | 0x28 => [1, 1]
  | 0x2A => [4, 4, 4]
  | _ => []

/-- The body that a request kind and its field values spell. A list of another length than the kind's
is malformed. -/
def bodyOf (kind : Nat) (vs : List Nat) : ReqBody :=
  match kind, vs with
  | 0x01, [d, s] => .setClock d s
  | 0x02, [a] => .stationCommand a
  | 0x03, [] => .stationStatus
  | 0x04, [m, l, w, cv, g, t, i, mf, mh, cf, ch, pf, ph, ff, fh, bf, bh, wf, wh] =>
    .configureStation
      { mode := m, lead := l, warnLevel := w, defaultCv := cv, gridMargin := g, tolerance := t,
        statusInterval := i,
        limits := { meter := ⟨mf, mh⟩, cv := ⟨cf, ch⟩, pressure := ⟨pf, ph⟩, flow := ⟨ff, fh⟩,
                    feedback := ⟨bf, bh⟩, water := ⟨wf, wh⟩ } }
  | 0x06, [f, c] => .pointQuery f c
  | 0x08, [n, a, s, i, w, l] => .configureShipper n a ⟨s, i, w, l⟩
  | 0x09, [n, x] => .loadBalance n x
  | 0x0A, [s, t, a, h] => .transfer s t a h
  | 0x0B, [n, c] => .accountQuery n (markOf c)
  | 0x0C, [s, n] => .allocationQuery s n
  | 0x10, [n, f, s, d, q] => .nominate n f s d q
  | 0x11, [n, f] => .nominationQuery n f
  | 0x14, [] => .planQuery
  | 0x18, [j, a, mn, mx, wm, mr, il, wl, st, rv, tt, ia, v] =>
    .configureCavern j a
      { pressureMin := mn, pressureMax := mx, warnMargin := wm, maxRamp := mr, injectionLimit := il,
        withdrawalLimit := wl, settleTime := st, maxReversals := rv, travelTime := tt } ia (signedOf v)
  | 0x19, [j, a] => .cavernMode j a
  | 0x1A, [j] => .cavernQuery j
  | 0x1C, [k, a, m1, c, m2, mf, m3, sh, m4, mr, m5, ms, m6, st, m7, tl, m8, sb] =>
    .configureUnit k a
      { capacity := optionalOf m1 c, minFlow := optionalOf m2 mf, startsPerHour := optionalOf m3 sh,
        minRun := optionalOf m4 mr, minStop := optionalOf m5 ms, startTimeout := optionalOf m6 st,
        tripLimit := optionalOf m7 tl, stopBand := optionalOf m8 sb }
  | 0x1D, [k, a] => .unitMode k a
  | 0x1E, [k] => .unitQuery k
  | 0x20, [t, a, m1, c, m2, bc, m3, sp, m4, dr, m5, ht, m6, ct, m7, rr, m8, os, m9, di, m10, od] =>
    .configureTrain t a
      { capacity := optionalOf m1 c, bedCapacity := optionalOf m2 bc, switchPoint := optionalOf m3 sp,
        derate := optionalOf m4 dr, heatingTime := optionalOf m5 ht, coolingTime := optionalOf m6 ct,
        regenRate := optionalOf m7 rr, outletSpec := optionalOf m8 os, designInlet := optionalOf m9 di,
        offspecDelay := optionalOf m10 od }
  | 0x21, [t, a] => .trainMode t a
  | 0x22, [t] => .trainQuery t
  | 0x28, [f, c] => .orderQuery f c
  | 0x29, [] => .alertQuery
  | 0x2A, [s, c, p] => .alertControl s c p
  | 0x2C, [] => .linkStatus
  | 0x2D, [] => .linkReset
  | k, _ => .malformed k

/-- The request that a checked frame's KIND, TAG and FIELDS spell (11 R174: unknown kinds, then the form
check, then dispatch). -/
def decodeRequest (kind tag : Byte) (fields : List Byte) : Request :=
  let k := kind.toNat
  { tag := tag.toNat
    body :=
      if requestKinds.contains k = false then .unknown k
      else if k = 0x05 then
        match samplePairs fields with
        | some ps => if 1 ≤ ps.length ∧ ps.length ≤ 16 then .sample ps else .malformed k
        | none => .malformed k
      else
        match fieldValues (fieldSizes k) fields with
        | some vs => bodyOf k vs
        | none => .malformed k }

/-! ### Writing requests -/

/-- An optional part: its present mark, then the part, which is zero where it is absent (11 R172). -/
def optionalBytes (size : Nat) (o : Option Nat) : List Byte :=
  bigEndian 1 (if o.isSome then 1 else 0) ++ bigEndian size (o.getD 0)

/-- Fresh and hold limit (01 R6). -/
def Limit.bytes (l : Limit) : List Byte := bigEndian 2 l.fresh ++ bigEndian 2 l.hold

/-- FIELDS of a request, in the order its rule lists them and the sizes of 11 R172. -/
def ReqBody.bytes : ReqBody → List Byte
  | .setClock d t => bigEndian 2 d ++ bigEndian 4 t
  | .stationCommand a => bigEndian 1 a
  | .stationStatus => []
  | .configureStation f =>
    bigEndian 1 f.mode ++ bigEndian 1 f.lead ++ bigEndian 1 f.warnLevel ++ bigEndian 2 f.defaultCv ++
    bigEndian 2 f.gridMargin ++ bigEndian 1 f.tolerance ++ bigEndian 2 f.statusInterval ++
    f.limits.meter.bytes ++ f.limits.cv.bytes ++ f.limits.pressure.bytes ++ f.limits.flow.bytes ++
    f.limits.feedback.bytes ++ f.limits.water.bytes
  | .sample ps => ps.flatMap (fun p => bigEndian 1 p.1 ++ bigEndian 4 p.2)
  | .pointQuery f c => bigEndian 1 f ++ bigEndian 1 c
  | .configureShipper n a r =>
    bigEndian 1 n ++ bigEndian 1 a ++ bigEndian 8 r.space ++ bigEndian 4 r.injection ++
    bigEndian 4 r.withdrawal ++ bigEndian 4 r.imbalanceLimit
  | .loadBalance n x => bigEndian 1 n ++ bigEndian 8 x
  | .transfer s t a h => bigEndian 1 s ++ bigEndian 1 t ++ bigEndian 4 a ++ bigEndian 4 h
  | .accountQuery n c => bigEndian 1 n ++ bigEndian 1 (if c then 1 else 0)
  | .allocationQuery s n => bigEndian 1 s ++ bigEndian 1 n
  | .nominate n f s d q =>
    bigEndian 1 n ++ bigEndian 4 f ++ bigEndian 1 s ++ bigEndian 1 d ++ bigEndian 4 q
  | .nominationQuery n f => bigEndian 1 n ++ bigEndian 1 f
  | .planQuery => []
  | .configureCavern j a f ia v =>
    bigEndian 1 j ++ bigEndian 1 a ++ bigEndian 2 f.pressureMin ++ bigEndian 2 f.pressureMax ++
    bigEndian 2 f.warnMargin ++ bigEndian 2 f.maxRamp ++ bigEndian 4 f.injectionLimit ++
    bigEndian 4 f.withdrawalLimit ++ bigEndian 2 f.settleTime ++ bigEndian 1 f.maxReversals ++
    bigEndian 2 f.travelTime ++ bigEndian 1 ia ++ bigEndian 8 (v % 2 ^ 64).toNat
  | .cavernMode j a => bigEndian 1 j ++ bigEndian 1 a
  | .cavernQuery j => bigEndian 1 j
  | .configureUnit k a f =>
    bigEndian 1 k ++ bigEndian 1 a ++ optionalBytes 4 f.capacity ++ optionalBytes 4 f.minFlow ++
    optionalBytes 1 f.startsPerHour ++ optionalBytes 2 f.minRun ++ optionalBytes 2 f.minStop ++
    optionalBytes 2 f.startTimeout ++ optionalBytes 1 f.tripLimit ++ optionalBytes 1 f.stopBand
  | .unitMode k a => bigEndian 1 k ++ bigEndian 1 a
  | .unitQuery k => bigEndian 1 k
  | .configureTrain t a f =>
    bigEndian 1 t ++ bigEndian 1 a ++ optionalBytes 4 f.capacity ++ optionalBytes 2 f.bedCapacity ++
    optionalBytes 1 f.switchPoint ++ optionalBytes 1 f.derate ++ optionalBytes 2 f.heatingTime ++
    optionalBytes 2 f.coolingTime ++ optionalBytes 2 f.regenRate ++ optionalBytes 2 f.outletSpec ++
    optionalBytes 2 f.designInlet ++ optionalBytes 2 f.offspecDelay
  | .trainMode t a => bigEndian 1 t ++ bigEndian 1 a
  | .trainQuery t => bigEndian 1 t
  | .orderQuery f c => bigEndian 1 f ++ bigEndian 1 c
  | .alertQuery => []
  | .alertControl s c p => bigEndian 4 s ++ bigEndian 4 c ++ bigEndian 4 p
  | .linkStatus => []
  | .linkReset => []
  | .malformed _ => []
  | .unknown _ => []

/-- The command a word spells by the bits of spec/opcode_table.json: the table gives no row any bits. -/
def decodeTableWord (_nbits _w : Nat) : Option Instr := none

end Sys2Proof
end

