-- ==== Sys2Proof/Machine/State.lean ====
section
/-! DEFINITION. The state of the SC480, block by block (00_scope.md 1.1), and its state after reset. Every
field is plain data. A field marked "model's own" is no register of the spec; INVENTORY.md lists each. -/

namespace Sys2Proof.Machine

/-- No rule of the spec stops the part, so there is no fault: a bad request is refused in its reply, a bad
frame is tallied, and a failing plant is an alert. -/
inductive Fault where
  deriving DecidableEq, Repr

/-- Why a command has no meaning. -/
inductive Refusal where
  /-- Raised by `exec` alone, for a row that has no meaning yet; safe: the machine stops. -/
  | notModelled (mnemonic : String)
  deriving DecidableEq, Repr

/-! ### CLK: the station clock (01 R1 to R4) -/

structure Clock where
  valid : Bool
  gasDay : Nat
  second : Nat
  stationSeconds : Nat
  trimSum : Int
  /-- model's own: the last second event brought a minute event that has not run yet (R2, log 1) -/
  minuteDue : Bool
  /-- model's own: the last second event brought an hour boundary that has not run yet (R2, log 1) -/
  boundaryDue : Bool
  deriving DecidableEq, Repr

/-! ### STS: the station state and the trip pin (01 R5 to R12) -/

inductive StationState where
  | blank
  | parked
  | running
  | tripped
  deriving DecidableEq, Repr

structure Station where
  state : StationState
  tripActive : Bool
  /-- RESET_N is asserted, or power is absent (R14; log 7) -/
  inReset : Bool
  deriving DecidableEq, Repr

/-! ### SMT: the sample table (02 R19) -/

inductive Quality where
  | never
  | good
  | held
  | stale
  deriving DecidableEq, Repr

structure Point where
  value : Nat
  age : Nat
  quality : Quality
  clamped : Bool
  deriving DecidableEq, Repr

/-! ### MTU: the metering unit (03 R33) -/

/-- An accumulator in Wh with its per-second remainder in 1/12,960 Wh. -/
structure Acc where
  wh : Nat
  q : Nat
  deriving DecidableEq, Repr

structure Meter where
  injection : Acc
  withdrawal : Acc
  use : Acc
  fuel : Acc
  regen : Acc
  estimated : Nat
  cvDefault : Nat
  deriving DecidableEq, Repr

/-! ### ACT: the account table (04 R47, R59, R60, R62) -/

inductive AccountState where
  | vacant
  | active
  | suspended
  deriving DecidableEq, Repr

inductive ConfState where
  | provisional
  | confirmed
  | curtailed
  deriving DecidableEq, Repr

/-- A confirmation; direction NONE is `none`. -/
structure Confirmation where
  hour : Nat
  dir : Option Dir
  nominated : Nat
  confirmed : Nat
  state : ConfState
  deriving DecidableEq, Repr

structure AllocLine where
  hour : Nat
  confirmed : Int
  deviationShare : Int
  useShare : Nat
  guardAdjustment : Int
  allocated : Int
  transferNet : Int
  deriving DecidableEq, Repr

/-- A throughput counter with its wrap count (R57). -/
structure Counter where
  count : Nat
  epoch : Nat
  deriving DecidableEq, Repr

structure Account where
  state : AccountState
  rights : Rights
  inventory : Nat
  imbalance : Int
  saturated : Bool
  injected : Counter
  withdrawn : Counter
  useCharged : Counter
  overruns : Nat
  current : Option Confirmation
  next : Option Confirmation
  line : Option AllocLine
  deriving DecidableEq, Repr

structure Transfer where
  source : Nat
  target : Nat
  amount : Nat
  hour : Nat
  deriving DecidableEq, Repr

structure Accounts where
  /-- the records of shippers 1..16; those above P are VACANT -/
  accounts : List Account
  station : Int
  transfers : List Transfer
  deriving DecidableEq, Repr

/-! ### NST: the nomination store (05 R66, R68) -/

structure NomEntry where
  first : Nat
  span : Nat
  dir : Dir
  quantity : Nat
  deriving DecidableEq, Repr

structure Partition where
  entries : List NomEntry
  /-- the warning mark: DISARMED is `true` (11 R172 sends ARMED as 0) -/
  disarmed : Bool
  deriving DecidableEq, Repr

/-! ### PLU: the plan unit (06 R83, R84, R87) -/

inductive Limiting where
  | none
  | caverns
  | compression
  | drying
  | stationState
  deriving DecidableEq, Repr

/-- The plan record; direction HOLD is `none`. -/
structure PlanRecord where
  hour : Nat
  revision : Nat
  dir : Option Dir
  net : Int
  target : Nat
  capability : Nat
  cavernCap : Nat
  compressionCap : Nat
  dryerCap : Nat
  required : Bool
  limiting : Limiting
  curtailed : Nat
  eDone : Nat
  sLeft : Nat
  deriving DecidableEq, Repr

/-- What an evaluation takes of one shipper at its begin (R87). -/
structure EvalShipper where
  state : AccountState
  rights : Rights
  inventory : Nat
  current : Option Confirmation
  nomNow : Option (Dir × Nat)
  nomNext : Option (Dir × Nat)
  /-- the account has not been closed since the begin, so the completion may write to it (R97) -/
  writable : Bool
  deriving DecidableEq, Repr

/-- The figures a plan evaluation takes at its begin (R87). -/
structure Evaluation where
  hour : Nat
  sLeft : Nat
  cv : Nat
  eDone : Int
  station : StationState
  shippers : List EvalShipper
  cavernInject : Nat
  cavernWithdraw : Nat
  compression : Nat
  required : Bool
  dryer : Nat
  record : Option PlanRecord
  deriving DecidableEq, Repr

structure Planner where
  record : Option PlanRecord
  due : Bool
  /-- the evaluation in flight: the mark is set while this is present -/
  eval : Option Evaluation
  deriving DecidableEq, Repr

/-! ### CVC: the cavern controller (07 R102) -/

inductive CavernState where
  | offline
  | idle
  | injecting
  | withdrawing
  | settling
  | fault
  deriving DecidableEq, Repr

structure Cavern where
  config : CavernConfig
  state : CavernState
  lastDir : Option Dir
  reversals : Nat
  settle : Option Nat
  disagreement : Nat
  full : Bool
  empty : Bool
  /-- the ramp-alert mark: DISARMED is `true` -/
  rampDisarmed : Bool
  setPoint : Nat
  refInject : Nat
  refWithdraw : Nat
  /-- the present caps, as last formed (R117, R118, R124) -/
  capInject : Nat
  capWithdraw : Nat
  volInject : Nat
  volWithdraw : Nat
  qInject : Nat
  qWithdraw : Nat
  booked : Int
  /-- oldest first; an absent mark is `none` (R106) -/
  ring : List (Option Nat)
  /-- model's own: the valve watch passed its limit at the last second event (R114, log 1) -/
  faultDue : Bool
  deriving DecidableEq, Repr

/-! ### CDU: the compressor duty unit (08 R125, R129) -/

structure UnitConfig where
  capacity : Nat
  minFlow : Nat
  startsPerHour : Nat
  minRun : Nat
  minStop : Nat
  startTimeout : Nat
  tripLimit : Nat
  stopBand : Nat
  deriving DecidableEq, Repr

inductive UnitState where
  | unavailable
  | ready
  | resting
  | starting
  | running
  | stopping
  | tripped
  | lockedOut
  deriving DecidableEq, Repr

/-- A compressor unit. A countdown that is not running is `none`; one that has reached 0 and whose expiry
has not run yet is `some 0` (log 1). -/
structure Compressor where
  config : UnitConfig
  state : UnitState
  runSeconds : Nat
  startList : List Nat
  minRun : Option Nat
  minStop : Option Nat
  timeout : Option Nat
  trips : Nat
  load : Nat
  deriving DecidableEq, Repr

structure Duty where
  units : List (Option Compressor)
  required : Bool
  deriving DecidableEq, Repr

/-! ### DRC: the drying controller (09 R144) -/

structure TrainConfig where
  capacity : Nat
  bedCapacity : Nat
  switchPoint : Nat
  derate : Nat
  heatingTime : Nat
  coolingTime : Nat
  regenRate : Nat
  outletSpec : Nat
  designInlet : Nat
  offspecDelay : Nat
  deriving DecidableEq, Repr

inductive TrainState where
  | offline
  | standby
  | online
  | offspec
  deriving DecidableEq, Repr

inductive BedState where
  | adsorbing
  | spent
  | heating
  | cooling
  | ready
  deriving DecidableEq, Repr

structure BedRecord where
  state : BedState
  loading : Nat
  deriving DecidableEq, Repr

inductive Condition where
  | normal
  | derated
  | breakthrough
  deriving DecidableEq, Repr

inductive RegenOutcome where
  | completed
  | aborted
  deriving DecidableEq, Repr

/-- The outcome of a train's last heating (R151). -/
structure LastRegen where
  bed : Bed
  volume : Nat
  outcome : RegenOutcome
  deriving DecidableEq, Repr

structure Train where
  config : TrainConfig
  state : TrainState
  bedA : BedRecord
  bedB : BedRecord
  remainder : Nat
  cooling : Option Nat
  aboveSpec : Nat
  inSpec : Nat
  condition : Condition
  lastRegen : Option LastRegen
  /-- the planning capacity as last formed (R153) -/
  planCap : Nat
  deriving DecidableEq, Repr

structure Drying where
  trains : List (Option Train)
  queue : List (Nat × Bed)
  heating : Option (Nat × Bed)
  heatingTimer : Option Nat
  rate : Nat
  volume : Nat
  gasRemainder : Nat
  /-- model's own: the switch test of the last second event waits for its expiries (R149, log 22) -/
  switchDue : Bool
  deriving DecidableEq, Repr

/-! ### HCU: the hour close unit (10 R157, R158, R169) -/

/-- What MTU and CVC hand over at an hour boundary (03 R43, 07 R122); one volume pair per cavern
configured at the boundary. -/
structure HandOver where
  hour : Nat
  injection : Nat
  withdrawal : Nat
  use : Nat
  fuel : Nat
  regen : Nat
  estimated : Nat
  cvDefault : Nat
  volumes : List (Option (Nat × Nat))
  deriving DecidableEq, Repr

/-- What a close takes of one included shipper (R158). -/
structure CloseShipper where
  state : AccountState
  inventory : Nat
  confirmation : Option Confirmation
  space : Nat
  deriving DecidableEq, Repr

/-- The figures a close takes at its begin (R158). -/
structure CloseFigures where
  hand : HandOver
  shippers : List (Option CloseShipper)
  transfers : List Transfer
  tolerance : Nat
  first : Bool
  deriving DecidableEq, Repr

structure CavernLine where
  volume : Int
  posting : Int
  balancing : Bool
  deriving DecidableEq, Repr

/-- The hour-close record (R169). -/
structure CloseRecord where
  hour : Nat
  first : Bool
  hand : HandOver
  net : Int
  deviation : Int
  residue : Int
  guardTotal : Int
  stationChange : Int
  shippers : List (Option AllocLine)
  caverns : List (Option CavernLine)
  deriving DecidableEq, Repr

structure Closer where
  /-- the close in flight: the mark is set while this is present. The closing hour is `hand.hour` of these figures,
  and none between closes: the model's choice (10 R157, log 43) -/
  close : Option CloseFigures
  /-- the waiting hand-overs, oldest first (log 20) -/
  handOvers : List HandOver
  firstClose : Bool
  lastClosed : Option Nat
  record : Option CloseRecord
  deriving DecidableEq, Repr

/-! ### ORI and ALS: the order image and the alert set (11 R176, R178) -/

inductive Valve where
  | shut
  | inject
  | withdraw
  deriving DecidableEq, Repr

inductive Run where
  | start
  | stop
  deriving DecidableEq, Repr

inductive TrainMode where
  | online
  | standby
  | offline
  deriving DecidableEq, Repr

/-- The regeneration step of a train entry, HEAT and COOL with the bed named (09 R147). -/
inductive RegenStep where
  | none
  | heat (bed : Bed)
  | cool (bed : Bed)
  deriving DecidableEq, Repr

inductive Isolation where
  | open
  | isolate
  deriving DecidableEq, Repr

inductive OrderValue where
  | valve (v : Valve)
  | rate (n : Nat)
  | run (r : Run)
  | load (n : Nat)
  | train (mode : TrainMode) (inLine : Bed) (step : RegenStep)
  | isolation (i : Isolation)
  deriving DecidableEq, Repr

structure OrderEntry where
  value : OrderValue
  second : Nat
  unsent : Bool
  deriving DecidableEq, Repr

structure AlertRecord where
  pending : Bool
  enabled : Bool
  count : Nat
  object : Nat
  second : Nat
  deriving DecidableEq, Repr

/-! ### SLK: the station link (11 R173 to R175, R180) -/

/-- One field of a record: an unsigned number of 1, 2, 4 or 8 bytes, or a signed one of 8 (11 R172). -/
inductive Item where
  | u8 (n : Nat)
  | u16 (n : Nat)
  | u32 (n : Nat)
  | u64 (n : Nat)
  | i64 (x : Int)
  deriving DecidableEq, Repr

/-- A reply or a report: its kind, its tag and its fields in order (11 R172). -/
structure Record where
  kind : Nat
  tag : Nat
  fields : List Item
  deriving DecidableEq, Repr

/-- The frame parser (R173). `kept` holds LENGTH and the bytes after it, in the order received. -/
inductive Parser where
  | hunt
  | length
  | body (count : Nat) (kept : List Byte)
  | check1 (kept : List Byte)
  | check2 (kept : List Byte) (high : Byte)
  deriving DecidableEq, Repr

structure Link where
  rx : List Request
  tx : List Record
  parser : Parser
  lengthTally : Nat
  crcTally : Nat
  timeoutTally : Nat
  overrunTally : Nat
  statusCountdown : Nat
  lineSpeed : Nat
  deriving DecidableEq, Repr

/-! ### SNS: the snapshot store (01 R14, R16 and section "The snapshot") -/

structure SnapCavern where
  config : CavernConfig
  state : CavernState
  booked : Int
  lastDir : Option Dir
  reversals : Nat
  deriving DecidableEq, Repr

structure SnapUnit where
  config : UnitConfig
  state : UnitState
  runSeconds : Nat
  trips : Nat
  deriving DecidableEq, Repr

structure SnapTrain where
  config : TrainConfig
  state : TrainState
  bedA : BedRecord
  bedB : BedRecord
  deriving DecidableEq, Repr

/-- The content of a snapshot. -/
structure Snapshot where
  settings : Settings
  act : Accounts
  entries : List (List NomEntry)
  caverns : List (Option SnapCavern)
  units : List (Option SnapUnit)
  trains : List (Option SnapTrain)
  enabled : List Bool
  lastClosed : Option Nat
  gasDay : Nat
  deriving DecidableEq, Repr

inductive SnapState where
  | empty
  | valid
  | writing
  | invalid
  deriving DecidableEq, Repr

structure Store where
  state : SnapState
  due : Bool
  /-- the content of a VALID store -/
  content : Option Snapshot
  /-- the copy a write in flight writes -/
  copy : Option Snapshot
  deriving DecidableEq, Repr

/-! ### The whole machine -/

structure State where
  clk : Clock
  sts : Station
  sns : Store
  cfg : Settings
  smt : List Point
  mtu : Meter
  act : Accounts
  nst : List Partition
  plu : Planner
  cvc : List (Option Cavern)
  cdu : Duty
  drc : Drying
  hcu : Closer
  slk : Link
  ori : List OrderEntry
  als : List AlertRecord
  /-- model's own: the commands that wait, first in first out -/
  pending : List Instr
  deriving DecidableEq, Repr

/-! ### Reset values -/

/-- The settings of a blank start (02 R21, 03 R33, 05 R66, 08 R129, 10 R157, 11 R180). -/
def blankSettings : Settings :=
  { mode := 0, lead := 2, warnLevel := 75, defaultCv := 40000, gridMargin := 500, tolerance := 5,
    statusInterval := 60,
    limits := { meter := ⟨2, 10⟩, cv := ⟨600, 1800⟩, pressure := ⟨10, 60⟩, flow := ⟨5, 20⟩,
                feedback := ⟨5, 30⟩, water := ⟨120, 600⟩ } }

/-- A point record that is NEVER (02 R19). -/
def Point.never : Point := { value := 0, age := 65535, quality := .never, clamped := false }

/-- The VACANT record (04 R47). -/
def Account.vacant : Account :=
  { state := .vacant, rights := ⟨0, 0, 0, 0⟩, inventory := 0, imbalance := 0, saturated := false,
    injected := ⟨0, 0⟩, withdrawn := ⟨0, 0⟩, useCharged := ⟨0, 0⟩, overruns := 0, current := none,
    next := none, line := none }

/-- The metering unit with every item 0 (03 R33). -/
def Meter.zero : Meter :=
  { injection := ⟨0, 0⟩, withdrawal := ⟨0, 0⟩, use := ⟨0, 0⟩, fuel := ⟨0, 0⟩, regen := ⟨0, 0⟩,
    estimated := 0, cvDefault := 0 }

/-- The order image after reset (11 R176). -/
def resetOrders : List OrderEntry :=
  let e (v : OrderValue) : OrderEntry := { value := v, second := 0, unsent := false }
  List.replicate 8 (e (.valve .shut)) ++ List.replicate 8 (e (.rate 0)) ++
  List.replicate 6 (e (.run .stop)) ++ List.replicate 6 (e (.load 0)) ++
  List.replicate 2 (e (.train .offline .a .none)) ++ [e (.isolation .isolate)]

/-- An alert record after reset, with its enabled mark (11 R178). -/
def AlertRecord.clear (enabled : Bool) : AlertRecord :=
  { pending := false, enabled := enabled, count := 0, object := 0, second := 0 }

/-- The state right after a reset with the store EMPTY (01 R18): the first power-up of a part. The inactive
trip pin and the line speed are log 5. -/
def State.reset : State :=
  { clk := { valid := false, gasDay := 0, second := 0, stationSeconds := 0, trimSum := 0,
             minuteDue := false, boundaryDue := false }
    sts := { state := .blank, tripActive := false, inReset := false }
    sns := { state := .empty, due := false, content := none, copy := none }
    cfg := blankSettings
    smt := List.replicate 41 Point.never
    mtu := Meter.zero
    act := { accounts := List.replicate 16 Account.vacant, station := 0, transfers := [] }
    nst := List.replicate 16 { entries := [], disarmed := false }
    plu := { record := none, due := false, eval := none }
    cvc := List.replicate 8 none
    cdu := { units := List.replicate 6 none, required := true }
    drc := { trains := List.replicate 2 none, queue := [], heating := none, heatingTimer := none, rate := 0,
             volume := 0, gasRemainder := 0, switchDue := false }
    hcu := { close := none, handOvers := [], firstClose := true, lastClosed := none, record := none }
    slk := { rx := [], tx := [], parser := .hunt, lengthTally := 0, crcTally := 0, timeoutTally := 0,
             overrunTally := 0, statusCountdown := 60, lineSpeed := 19200 }
    ori := resetOrders
    als := List.replicate 23 (AlertRecord.clear true)
    pending := [] }

end Sys2Proof.Machine
end

