-- ==== Sys2Proof/Machine/Arith.lean ====
section
/-! DEFINITION. Arithmetic of the manual (00_scope.md 1.3.4): hour numbers across the wrap, saturating and
wrapping counts, half-up rounding, and the proportional share procedure (06 R93). -/

namespace Sys2Proof.Machine

/-! ### Hour numbers (01 R2) -/

/-- The number of hour numbers: they lie in 0..1,572,863. -/
def hourCount : Nat := 1572864

/-- Hour `y` is at or before hour `x` (01 R2). -/
def hourAtOrBefore (y x : Nat) : Bool :=
  ((x : Int) - (y : Int)) % (hourCount : Int) ≤ 786431

/-- Hour `y` is after hour `x`. -/
def hourAfter (y x : Nat) : Bool := !hourAtOrBefore y x

/-- Hour `y` is before hour `x`. -/
def hourBefore (y x : Nat) : Bool := hourAtOrBefore y x && y % hourCount != x % hourCount

/-- A count of hours added to an hour number (01 R2). -/
def hourAdd (x n : Nat) : Nat := (x + n) % hourCount

/-- The hour before an hour. -/
def hourPred (x : Nat) : Nat := (x + (hourCount - 1)) % hourCount

/-- The number of hours from hour `x` to hour `y`, across the wrap. -/
def hourDiff (y x : Nat) : Nat := (y + (hourCount - x % hourCount)) % hourCount

/-- The hour of a gas day and a second of day (01 R3). -/
def hourOf (gasDay second : Nat) : Nat := gasDay * 24 + second / 3600

/-! ### Counts and rounding (00_scope.md 1.3.4) -/

/-- A saturating count. -/
def satAdd (limit n k : Nat) : Nat := min limit (n + k)

/-- A value held between two limits. -/
def clampTo (lo hi x : Nat) : Nat := max lo (min hi x)

/-- round-half-up of a quotient, formed with its remainder (06 R95). -/
def roundHalfUp (num den : Nat) : Nat :=
  if den ≤ 2 * (num % den) then num / den + 1 else num / den

/-- sign(x) -/
def signOf (x : Int) : Int := if 0 < x then 1 else if x < 0 then -1 else 0

/-! ### The proportional share procedure (06 R93) -/

/-- The share of each index and the residue. -/
structure Shares where
  shares : List Nat
  residue : Nat
  deriving DecidableEq, Repr

/-- How many indices come before index `i` when remainders are taken largest first, lower index first
among equals. -/
def rankOf (rs : List Nat) (i : Nat) : Nat :=
  let ri := rs.getD i 0
  ((List.range rs.length).filter (fun j =>
    let rj := rs.getD j 0
    ri < rj || (rj == ri && j < i))).length

/-- Steps 1 to 3 of R93: the shares before any cap. With weights that sum to 0 every share is 0. -/
def rawShares (total : Nat) (weights : List Nat) : List Nat :=
  let w := weights.sum
  if w = 0 then weights.map (fun _ => 0)
  else
    let floors := weights.map (fun x => total * x / w)
    let rems := weights.map (fun x => total * x % w)
    let left := total - floors.sum
    (List.range weights.length).map (fun i =>
      floors.getD i 0 + if 0 < rems.getD i 0 && rankOf rems i < left then 1 else 0)

/-- The procedure without caps: the residue is the total where every weight is 0, and 0 otherwise. -/
def shareOut (total : Nat) (weights : List Nat) : Shares :=
  { shares := rawShares total weights
    residue := if weights.sum = 0 then total else 0 }

/-- The procedure with caps (step 4): what a cap cuts becomes the residue. -/
def shareOutCapped (total : Nat) (weights caps : List Nat) : Shares :=
  let cut := List.zipWith min (rawShares total weights) caps
  { shares := cut, residue := total - cut.sum }

end Sys2Proof.Machine
end

