-- ==== Sys2Proof/Machine/Frame.lean ====
section
/-! DEFINITION. Records as bytes: the codes of 11 R172 and R182, the CRC-16, the frame of a record, and the
frame parser's table (R173). -/

namespace Sys2Proof.Machine

/-! ### Result codes, report kinds and enumerated values (11 R182, R172) -/

inductive Result where
  | ok
  | clamped
  | badForm
  | badRange
  | noSuch
  | notIdle
  | tooLate
  | storeFull
  | wrongState
  deriving DecidableEq, Repr

def resultCode : Result → Nat
  | .ok => 0
  | .clamped => 1
  | .badForm => 2
  | .badRange => 3
  | .noSuch => 4
  | .notIdle => 5
  | .tooLate => 6
  | .storeFull => 7
  | .wrongState => 8

def kindOrder : Nat := 0x80
def kindPlan : Nat := 0x81
def kindHourClose : Nat := 0x82
def kindAlert : Nat := 0x83
def kindStatus : Nat := 0x84
/-- The reply kind of an unknown request kind (11 R174). -/
def kindUnknown : Nat := 0x7F

def markCode (b : Bool) : Nat := if b then 1 else 0

def dirCode : Dir → Nat
  | .inject => 0
  | .withdraw => 1

/-- A nomination's, a confirmation's or a plan's direction: INJECT, WITHDRAW, and NONE or HOLD last (04 R59,
06 R83). -/
def dirLastCode : Option Dir → Nat
  | some d => dirCode d
  | none => 2

/-- A last flowing direction: NONE, INJECT, WITHDRAW (07 R102). -/
def dirFirstCode : Option Dir → Nat
  | none => 0
  | some .inject => 1
  | some .withdraw => 2

def stationCode : StationState → Nat
  | .blank => 0
  | .parked => 1
  | .running => 2
  | .tripped => 3

def qualityCode : Quality → Nat
  | .never => 0
  | .good => 1
  | .held => 2
  | .stale => 3

def snapCode : SnapState → Nat
  | .empty => 0
  | .valid => 1
  | .writing => 2
  | .invalid => 3

def accountCode : AccountState → Nat
  | .vacant => 0
  | .active => 1
  | .suspended => 2

def confCode : ConfState → Nat
  | .provisional => 0
  | .confirmed => 1
  | .curtailed => 2

def limitingCode : Limiting → Nat
  | .none => 0
  | .caverns => 1
  | .compression => 2
  | .drying => 3
  | .stationState => 4

def cavernCode : CavernState → Nat
  | .offline => 0
  | .idle => 1
  | .injecting => 2
  | .withdrawing => 3
  | .settling => 4
  | .fault => 5

def unitCode : UnitState → Nat
  | .unavailable => 0
  | .ready => 1
  | .resting => 2
  | .starting => 3
  | .running => 4
  | .stopping => 5
  | .tripped => 6
  | .lockedOut => 7

def trainCode : TrainState → Nat
  | .offline => 0
  | .standby => 1
  | .online => 2
  | .offspec => 3

def bedStateCode : BedState → Nat
  | .adsorbing => 0
  | .spent => 1
  | .heating => 2
  | .cooling => 3
  | .ready => 4

/-- A train's condition, counted in the order of R144's list; the table of R153 lists the three the other way, and
no rule says which of the two gives the codes: the model's choice (log 13). -/
def conditionCode : Condition → Nat
  | .normal => 0
  | .derated => 1
  | .breakthrough => 2

def outcomeCode : RegenOutcome → Nat
  | .completed => 0
  | .aborted => 1

def bedCode : Bed → Nat
  | .a => 0
  | .b => 1

def valveCode : Valve → Nat
  | .shut => 0
  | .inject => 1
  | .withdraw => 2

def runCode : Run → Nat
  | .start => 0
  | .stop => 1

def modeCode : TrainMode → Nat
  | .online => 0
  | .standby => 1
  | .offline => 2

def stepCode : RegenStep → Nat
  | .none => 0
  | .heat _ => 1
  | .cool _ => 2

/-- The bed a regeneration step names; NONE names none and sends 0. -/
def stepBedCode : RegenStep → Nat
  | .none => 0
  | .heat bed => bedCode bed
  | .cool bed => bedCode bed

def isolationCode : Isolation → Nat
  | .open => 0
  | .isolate => 1

/-- The 4-byte value of an order entry, as one number (11 R182). -/
def orderWord : OrderValue → Nat
  | .valve v => valveCode v
  | .rate n => n
  | .run r => runCode r
  | .load n => n
  | .train m bed s => ((modeCode m * 256 + bedCode bed) * 256 + stepCode s) * 256 + stepBedCode s
  | .isolation i => isolationCode i

/-! ### Items, records and frames (11 R172) -/

/-- The bytes of one field. -/
def itemBytes : Item → List Byte
  | .u8 n => bigEndian 1 n
  | .u16 n => bigEndian 2 n
  | .u32 n => bigEndian 4 n
  | .u64 n => bigEndian 8 n
  | .i64 x => bigEndian 8 (x % 2 ^ 64).toNat

/-- A present mark and the part, whose items are those of `zero` where it is absent (11 R172). -/
def optionalItems (part : Option (List Item)) (zero : List Item) : List Item :=
  match part with
  | some p => .u8 1 :: p
  | none => .u8 0 :: zero

/-- An optional unsigned number. -/
def optionalNumber (item : Nat → Item) (n : Option Nat) : List Item :=
  optionalItems (n.map (fun x => [item x])) [item 0]

/-- A list of varying length: a 1-byte count, then the items (11 R172). -/
def listItems {α : Type} (f : α → List Item) (xs : List α) : List Item :=
  .u8 xs.length :: xs.flatMap f

/-- One bit of the CRC-16: generator 0x1021, most significant bit first (11 R172). -/
def crcBit (crc : Nat) : Nat :=
  if 0x8000 ≤ crc then (crc * 2 % 0x10000) ^^^ 0x1021 else crc * 2

/-- One byte of the CRC-16. -/
def crcByte (crc : Nat) (b : Byte) : Nat :=
  crcBit (crcBit (crcBit (crcBit (crcBit (crcBit (crcBit (crcBit (crc ^^^ (b.toNat * 256)))))))))

/-- The CRC-16 of a run of bytes: initial value 0xFFFF, no final change (11 R172). -/
def crc16 (bs : List Byte) : Nat := bs.foldl crcByte 0xFFFF

/-- LENGTH, KIND, TAG and FIELDS of a record. -/
def Record.body (r : Record) : List Byte :=
  let fields := r.fields.flatMap itemBytes
  BitVec.ofNat 8 (fields.length + 2) :: BitVec.ofNat 8 r.kind :: BitVec.ofNat 8 r.tag :: fields

/-- The frame of a record: START, the body, and the check, high byte first (11 R172). -/
def Record.frame (r : Record) : List Byte :=
  0xC5 :: (r.body ++ bigEndian 2 (crc16 r.body))

/-- The actuator an ORDER report names, for LINK RESET (11 R181). -/
def Record.orderActuator (r : Record) : Option Nat :=
  if r.kind = kindOrder then
    match r.fields with
    | .u8 a :: _ => some a
    | _ => none
  else none

/-! ### The frame parser (11 R173) -/

/-- What a received byte comes to: the parser's next state, and what else it brings. -/
inductive ByteEvent where
  | none
  /-- a length byte of 0, 1 or 251..255 -/
  | badLength
  /-- the frame is complete and its check disagrees -/
  | badCheck
  /-- the frame is complete and its check agrees -/
  | frame (r : Request)
  deriving DecidableEq, Repr

/-- The request of a complete frame's kept bytes (LENGTH, KIND, TAG, FIELDS), its check being `high`, `low`. -/
def checkFrame (kept : List Byte) (high low : Byte) : ByteEvent :=
  if crc16 kept = high.toNat * 256 + low.toNat then
    match kept with
    | _ :: kind :: tag :: fields => .frame (decodeRequest kind tag fields)
    | _ => .badCheck
  else .badCheck

/-- The table of R173. -/
def parseByte (p : Parser) (b : Byte) : Parser × ByteEvent :=
  match p with
  | .hunt => if b = 0xC5 then (.length, .none) else (.hunt, .none)
  | .length =>
    if 2 ≤ b.toNat ∧ b.toNat ≤ 250 then (.body b.toNat [b], .none) else (.hunt, .badLength)
  | .body count kept =>
    if count ≤ 1 then (.check1 (kept ++ [b]), .none) else (.body (count - 1) (kept ++ [b]), .none)
  | .check1 kept => (.check2 kept b, .none)
  | .check2 kept high => (.hunt, checkFrame kept high b)

/-- The parser over a run of bytes, with what each byte brings. -/
def parseBytes : Parser → List Byte → Parser × List ByteEvent
  | p, [] => (p, [])
  | p, x :: xs =>
    let r := parseByte p x
    let rest := parseBytes r.1 xs
    (rest.1, r.2 :: rest.2)

/-- The frame of a request, as the host sends it (11 R172). -/
def requestFrame (kind tag : Byte) (fields : List Byte) : List Byte :=
  let kept := BitVec.ofNat 8 (fields.length + 2) :: kind :: tag :: fields
  0xC5 :: (kept ++ bigEndian 2 (crc16 kept))

end Sys2Proof.Machine
end

