-- ==== Sys2Proof/Machine/Ops.lean ====
section
/-! DEFINITION. The shared operations: records reached by their numbers, the alert set (11 R178), the order
image (11 R176), the transmit queue (11 R175), and the plan-due and snapshot-due marks. -/

namespace Sys2Proof.Machine

/-! ### Records reached by number (numbered from 1, 00_scope.md 1.3.3) -/

/-- The `n`th element, counted from 1. -/
def nth {α : Type} (l : List α) (n : Nat) : Option α := if n = 0 then none else l[n - 1]?

/-- The list with its `n`th element, counted from 1, replaced. -/
def setNth {α : Type} (l : List α) (n : Nat) (x : α) : List α := if n = 0 then l else l.set (n - 1) x

/-- Cavern `j`, if it is configured. -/
def State.cavern (s : State) (j : Nat) : Option Cavern := (nth s.cvc j).join
def State.setCavern (s : State) (j : Nat) (c : Option Cavern) : State := { s with cvc := setNth s.cvc j c }
/-- Change cavern `j` where it is configured. -/
def State.modCavern (s : State) (j : Nat) (f : Cavern → Cavern) : State :=
  match s.cavern j with
  | some c => s.setCavern j (some (f c))
  | none => s

/-- Unit `k`, if it is configured. -/
def State.unit (s : State) (k : Nat) : Option Compressor := (nth s.cdu.units k).join
def State.setUnit (s : State) (k : Nat) (u : Option Compressor) : State :=
  { s with cdu := { s.cdu with units := setNth s.cdu.units k u } }
def State.modUnit (s : State) (k : Nat) (f : Compressor → Compressor) : State :=
  match s.unit k with
  | some u => s.setUnit k (some (f u))
  | none => s

/-- Train `t`, if it is configured. -/
def State.train (s : State) (t : Nat) : Option Train := (nth s.drc.trains t).join
def State.setTrain (s : State) (t : Nat) (r : Option Train) : State :=
  { s with drc := { s.drc with trains := setNth s.drc.trains t r } }
def State.modTrain (s : State) (t : Nat) (f : Train → Train) : State :=
  match s.train t with
  | some r => s.setTrain t (some (f r))
  | none => s

/-- The number of shipper accounts, P (04 R47). -/
def shipperCount (mode : Nat) : Nat := if mode = 0 then 16 else if mode = 1 then 8 else 4
def State.shippers (s : State) : Nat := shipperCount s.cfg.mode
/-- The size of a partition in entries (05 R66). -/
def State.partitionSize (s : State) : Nat := 256 / s.shippers

/-- The account of shipper `n`, where 1..P names one (04 R47). -/
def State.account (s : State) (n : Nat) : Option Account :=
  if n ≤ s.shippers then nth s.act.accounts n else none
def State.setAccount (s : State) (n : Nat) (a : Account) : State :=
  { s with act := { s.act with accounts := setNth s.act.accounts n a } }

/-- Partition `n`. -/
def State.partition (s : State) (n : Nat) : Partition :=
  (nth s.nst n).getD { entries := [], disarmed := false }
def State.setPartition (s : State) (n : Nat) (p : Partition) : State := { s with nst := setNth s.nst n p }

/-- Point `p` of the sample table, numbered from 0 (02 R19). -/
def State.point (s : State) (p : Nat) : Point := s.smt.getD p Point.never
def State.setPoint (s : State) (p : Nat) (x : Point) : State := { s with smt := s.smt.set p x }

/-- A point whose value its users use: GOOD or HELD (02 R23). -/
def Point.usable (x : Point) : Bool := x.quality == .good || x.quality == .held

/-- The current hour, which is one only while the clock is valid (01 R2). -/
def State.currentHour (s : State) : Nat := hourOf s.clk.gasDay s.clk.second

/-! ### The due marks -/

/-- Make PLU due (06 R85). -/
def State.makePlanDue (s : State) : State := { s with plu := { s.plu with due := true } }

/-- Make SNS due (01 R15). -/
def State.makeSnapshotDue (s : State) : State := { s with sns := { s.sns with due := true } }

/-! ### The transmit queue (11 R175) -/

/-- Occupancy of the transmit queue. -/
def State.occupancy (s : State) : Nat := s.slk.tx.length

/-- Put a record at the tail of the transmit queue. -/
def State.pushRecord (s : State) (r : Record) : State := { s with slk := { s.slk with tx := s.slk.tx ++ [r] } }

/-! ### The alert set (11 R178) -/

inductive AlertKind where
  | stationTrip
  | storeFault
  | unitLockout
  | trainBreakthrough
  | trainOffspec
  | cavernFault
  | meterStale
  | cvStale
  | unitTrip
  | unitStartFailed
  | cavernFull
  | cavernEmpty
  | cavernRamp
  | reversalLimit
  | curtailment
  | trainDerated
  | shipperOverrun
  | shipperOverSpace
  | imbalanceSaturated
  | transferFailed
  | nomStoreNearFull
  | estimatedHour
  | reportsDropped
  deriving DecidableEq, Repr

/-- The kind's number, 1 the highest priority (11 R182). -/
def alertNumber : AlertKind → Nat
  | .stationTrip => 1
  | .storeFault => 2
  | .unitLockout => 3
  | .trainBreakthrough => 4
  | .trainOffspec => 5
  | .cavernFault => 6
  | .meterStale => 7
  | .cvStale => 8
  | .unitTrip => 9
  | .unitStartFailed => 10
  | .cavernFull => 11
  | .cavernEmpty => 12
  | .cavernRamp => 13
  | .reversalLimit => 14
  | .curtailment => 15
  | .trainDerated => 16
  | .shipperOverrun => 17
  | .shipperOverSpace => 18
  | .imbalanceSaturated => 19
  | .transferFailed => 20
  | .nomStoreNearFull => 21
  | .estimatedHour => 22
  | .reportsDropped => 23

def State.alert (s : State) (k : AlertKind) : AlertRecord :=
  (nth s.als (alertNumber k)).getD (AlertRecord.clear false)

/-- Steps 1 to 3 of R178: pending, counted, its object and second recorded. -/
def State.recordAlert (s : State) (k : AlertKind) (object : Nat) : State :=
  let r := s.alert k
  let r' := { r with pending := true, count := satAdd 255 r.count 1, object := object,
                     second := s.clk.stationSeconds }
  { s with als := setNth s.als (alertNumber k) r' }

/-- Whether a raising of the kind offers an ALERT report (R178 step 4). -/
def AlertRecord.reports (r : AlertRecord) : Bool := !r.pending && r.enabled

/-- The ALERT report of a kind, as its record stands. -/
def State.alertReport (s : State) (k : AlertKind) : Record :=
  let r := s.alert k
  { kind := kindAlert, tag := 0, fields := [.u8 (alertNumber k), .u8 r.count, .u8 r.object, .u32 r.second] }

/-- REPORTS_DROPPED, raised for a dropped report. Its own report, where one is offered, finds the queue at
28 or above too, and its drop only counts (R175). -/
def State.noteDropped (s : State) : State :=
  let s1 := s.recordAlert .reportsDropped 0
  if (s.alert .reportsDropped).reports then s1.recordAlert .reportsDropped 0 else s1

/-- Offer a PLAN, HOUR CLOSE, ALERT or STATUS report: admitted below 28, else dropped (R175). -/
def State.offerReport (s : State) (r : Record) : State :=
  if s.occupancy < 28 then s.pushRecord r else s.noteDropped

/-- Raise an alert (R178). -/
def State.raise (s : State) (k : AlertKind) (object : Nat) : State :=
  let s1 := s.recordAlert k object
  if (s.alert k).reports then s1.offerReport (s1.alertReport k) else s1

/-- The level of ATTN_N: low (`false`) while some kind is pending and enabled (R178). -/
def State.attnN (s : State) : Bool := !s.als.any (fun r => r.pending && r.enabled)

/-- The TRIPPED pin (01 R10). -/
def State.trippedPin (s : State) : Bool := s.sts.state == .tripped

/-! ### The order image (11 R176, R177) -/

/-- The ORDER report of an entry. -/
def orderReport (actuator : Nat) (e : OrderEntry) : Record :=
  { kind := kindOrder, tag := 0, fields := [.u8 actuator, .u32 (orderWord e.value), .u32 e.second] }

def State.order (s : State) (i : Nat) : Option OrderEntry := nth s.ori i

/-- Offer the ORDER report of entry `i` as it stands: admitted below 38, else the entry is unsent (R175,
R176). -/
def State.offerOrder (s : State) (i : Nat) : State :=
  match s.order i with
  | some e =>
    if s.occupancy < 38 then
      { s.pushRecord (orderReport i e) with ori := setNth s.ori i { e with unsent := false } }
    else { s with ori := setNth s.ori i { e with unsent := true } }
  | none => s

/-- A write of an entry: the value and the second at once, then one ORDER report offered (R176). -/
def State.writeOrder (s : State) (i : Nat) (v : OrderValue) : State :=
  match s.order i with
  | some e => State.offerOrder
      { s with ori := setNth s.ori i { e with value := v, second := s.clk.stationSeconds } } i
  | none => s

/-- A write of a value that differs from what the entry holds; otherwise nothing (07 R108, 08 R128, 09 R147). -/
def State.writeOrderIfNew (s : State) (i : Nat) (v : OrderValue) : State :=
  match s.order i with
  | some e => if e.value = v then s else s.writeOrder i v
  | none => s

/-- Offer every unsent entry, in actuator order (R177). -/
def State.resendUnsent (s : State) : State :=
  (List.range' 1 31).foldl (fun s i =>
    match s.order i with
    | some e => if e.unsent then s.offerOrder i else s
    | none => s) s

/-- The number of unsent entries (R181). -/
def State.unsentCount (s : State) : Nat := (s.ori.filter (·.unsent)).length

/-! ### Actuator numbers and the values entries hold (11 R176) -/

def valveActuator (j : Nat) : Nat := j
def rateActuator (j : Nat) : Nat := 8 + j
def runActuator (k : Nat) : Nat := 16 + k
def loadActuator (k : Nat) : Nat := 22 + k
def trainActuator (t : Nat) : Nat := 28 + t
def isolationActuator : Nat := 31

/-- The valve value the image holds for cavern `j`. -/
def State.valveOrder (s : State) (j : Nat) : Valve :=
  match s.order (valveActuator j) with
  | some { value := .valve v, .. } => v
  | _ => .shut

/-- The rate the image holds for cavern `j`. -/
def State.rateOrder (s : State) (j : Nat) : Nat :=
  match s.order (rateActuator j) with
  | some { value := .rate n, .. } => n
  | _ => 0

/-- The run value the image holds for unit `k`. -/
def State.runOrder (s : State) (k : Nat) : Run :=
  match s.order (runActuator k) with
  | some { value := .run r, .. } => r
  | _ => .stop

/-- The load the image holds for unit `k`. -/
def State.loadOrder (s : State) (k : Nat) : Nat :=
  match s.order (loadActuator k) with
  | some { value := .load n, .. } => n
  | _ => 0

/-- Mode, bed in line and regeneration step the image holds for train `t`. -/
def State.trainOrder (s : State) (t : Nat) : TrainMode × Bed × RegenStep :=
  match s.order (trainActuator t) with
  | some { value := .train m bed st, .. } => (m, bed, st)
  | _ => (.offline, .a, .none)

/-- Write a valve value where it differs. A value that changes the entry restarts the valve watch (07 R108). -/
def State.writeValve (s : State) (j : Nat) (v : Valve) : State :=
  if s.valveOrder j = v then s
  else (s.writeOrder (valveActuator j) (.valve v)).modCavern j (fun c => { c with disagreement := 0 })

def State.writeRate (s : State) (j n : Nat) : State := s.writeOrderIfNew (rateActuator j) (.rate n)

def State.writeTrainMode (s : State) (t : Nat) (m : TrainMode) : State :=
  let (_, bed, st) := s.trainOrder t
  s.writeOrderIfNew (trainActuator t) (.train m bed st)

def State.writeTrainBed (s : State) (t : Nat) (bed : Bed) : State :=
  let (m, _, st) := s.trainOrder t
  s.writeOrderIfNew (trainActuator t) (.train m bed st)

def State.writeTrainStep (s : State) (t : Nat) (st : RegenStep) : State :=
  let (m, bed, _) := s.trainOrder t
  s.writeOrderIfNew (trainActuator t) (.train m bed st)

/-! ### The plan in force (06 R83, R100) -/

/-- The plan direction: HOLD (`none`) while there is no record. -/
def State.planDir (s : State) : Option Dir := s.plu.record.bind (·.dir)

/-- The plan target rate: 0 while there is no record. -/
def State.planTarget (s : State) : Nat := (s.plu.record.map (·.target)).getD 0

/-- Apply a step to each number of a list in turn. -/
def State.forEach (s : State) (ns : List Nat) (f : State → Nat → State) : State := ns.foldl f s

def cavernNumbers : List Nat := [1, 2, 3, 4, 5, 6, 7, 8]
def unitNumbers : List Nat := [1, 2, 3, 4, 5, 6]
def trainNumbers : List Nat := [1, 2]
def shipperNumbers : List Nat := [1, 2, 3, 4, 5, 6, 7, 8, 9, 10, 11, 12, 13, 14, 15, 16]

end Sys2Proof.Machine
end

