-- ==== Sys2Proof/Machine/Points.lean ====
section
/-! DEFINITION. The sample table's numbering, ranges, classes and grades (02 R19 to R24). What a change
delivers to the users of a point stands in Deliver.lean. -/

namespace Sys2Proof.Machine

/-! ### Point numbers (02 R19) -/

def flowPoint (j : Nat) : Nat := 5 + 3 * (j - 1)
def pressurePoint (j : Nat) : Nat := 6 + 3 * (j - 1)
def valvePoint (j : Nat) : Nat := 7 + 3 * (j - 1)
def feedbackPoint (k : Nat) : Nat := 28 + k
def trainFlowPoint (t : Nat) : Nat := 35 + 3 * (t - 1)
def inletPoint (t : Nat) : Nat := 36 + 3 * (t - 1)
def outletPoint (t : Nat) : Nat := 37 + 3 * (t - 1)

/-- What a point measures, with the number of its object. -/
inductive PointKind where
  | meterRate
  | meterDirection
  | calorific
  | fuelRate
  | gridPressure
  | wellFlow (j : Nat)
  | wellPressure (j : Nat)
  | valvePosition (j : Nat)
  | runFeedback (k : Nat)
  | trainFlow (t : Nat)
  | inletWater (t : Nat)
  | outletWater (t : Nat)
  deriving DecidableEq, Repr

/-- The table of R19; `none` above point 40. -/
def pointKind (p : Nat) : Option PointKind :=
  if p = 0 then some .meterRate
  else if p = 1 then some .meterDirection
  else if p = 2 then some .calorific
  else if p = 3 then some .fuelRate
  else if p = 4 then some .gridPressure
  else if p ≤ 28 then
    let j := (p - 5) / 3 + 1
    if (p - 5) % 3 = 0 then some (.wellFlow j)
    else if (p - 5) % 3 = 1 then some (.wellPressure j)
    else some (.valvePosition j)
  else if p ≤ 34 then some (.runFeedback (p - 28))
  else if p ≤ 40 then
    let t := (p - 35) / 3 + 1
    if (p - 35) % 3 = 0 then some (.trainFlow t)
    else if (p - 35) % 3 = 1 then some (.inletWater t)
    else some (.outletWater t)
  else none

/-- A point's values: a numeric range, or the number of codes of an enumeration (R19). -/
inductive PointRange where
  | numeric (lo hi : Nat)
  | codes (n : Nat)
  deriving DecidableEq, Repr

def pointRange : PointKind → PointRange
  | .meterRate => .numeric 0 2000000
  | .meterDirection => .codes 3
  | .calorific => .numeric 30000 48000
  | .fuelRate => .numeric 0 20000
  | .gridPressure => .numeric 0 30000
  | .wellFlow _ => .numeric 0 600000
  | .wellPressure _ => .numeric 0 30000
  | .valvePosition _ => .codes 4
  | .runFeedback _ => .codes 3
  | .trainFlow _ => .numeric 0 800000
  | .inletWater _ => .numeric 0 2000
  | .outletWater _ => .numeric 0 2000

/-- The class limits that govern a point (R21). -/
def limitOf (l : ClassLimits) : PointKind → Limit
  | .meterRate => l.meter
  | .meterDirection => l.meter
  | .calorific => l.cv
  | .fuelRate => l.flow
  | .gridPressure => l.pressure
  | .wellFlow _ => l.flow
  | .wellPressure _ => l.pressure
  | .valvePosition _ => l.feedback
  | .runFeedback _ => l.feedback
  | .trainFlow _ => l.flow
  | .inletWater _ => l.water
  | .outletWater _ => l.water

/-- A point is configured while its object is; a station point always is (R20). -/
def State.pointConfigured (s : State) : PointKind → Bool
  | .wellFlow j => (s.cavern j).isSome
  | .wellPressure j => (s.cavern j).isSome
  | .valvePosition j => (s.cavern j).isSome
  | .runFeedback k => (s.unit k).isSome
  | .trainFlow t => (s.train t).isSome
  | .inletWater t => (s.train t).isSome
  | .outletWater t => (s.train t).isSome
  | .meterRate => true
  | .meterDirection => true
  | .calorific => true
  | .fuelRate => true
  | .gridPressure => true

/-- The grade of an age under limits (R23). -/
def gradeOf (l : Limit) (age : Nat) : Quality :=
  if age ≤ l.fresh then .good else if age ≤ l.hold then .held else .stale

/-- A point graded again at its age; NEVER stays NEVER (R22, R23). -/
def regrade (l : Limit) (x : Point) : Point :=
  if x.quality = .never then x else { x with quality := gradeOf l x.age }

/-- A point one second older (R24). -/
def agePoint (l : Limit) (x : Point) : Point :=
  if x.quality = .never then x else regrade l { x with age := satAdd 65535 x.age 1 }

/-- The records of an object that is deconfigured return to NEVER, and nothing is delivered (R20). -/
def State.clearPoints (s : State) (ps : List Nat) : State :=
  ps.foldl (fun s p => s.setPoint p Point.never) s

/-- A point shows a code: GOOD or HELD with that value. -/
def Point.shows (x : Point) (code : Nat) : Bool := x.usable && x.value == code

end Sys2Proof.Machine
end

