-- ==== Sys2Proof/Machine/Caverns.lean ====
section
/-! DEFINITION. The Cavern Controller CVC (07 R102 to R123): ramps, caps, the flow split, the cavern states,
the valve watch and the hour volumes. Its requests stand in CavernRequests.lean. -/

namespace Sys2Proof.Machine

def opposite : Dir → Dir
  | .inject => .withdraw
  | .withdraw => .inject

/-- The flowing state of a direction. -/
def flowState : Dir → CavernState
  | .inject => .injecting
  | .withdraw => .withdrawing

/-- The valve value of a direction. -/
def flowValve : Dir → Valve
  | .inject => .inject
  | .withdraw => .withdraw

def CavernState.flowing : CavernState → Bool
  | .injecting => true
  | .withdrawing => true
  | _ => false

def Cavern.limit (c : Cavern) : Dir → Nat
  | .inject => c.config.injectionLimit
  | .withdraw => c.config.withdrawalLimit

/-- The present cap in a direction, as last formed. -/
def Cavern.cap (c : Cavern) : Dir → Nat
  | .inject => c.capInject
  | .withdraw => c.capWithdraw

/-! ### Pressure history and ramp (07 R106, R107) -/

/-- The deadband of a limit (R118, R120). -/
def deadband (limit : Nat) : Nat := max 500 (limit / 100)

/-- A push onto the ring: at 62 entries the oldest is dropped (R106). -/
def pushRing (ring : List (Option Nat)) (e : Option Nat) : List (Option Nat) :=
  let r := ring ++ [e]
  if 62 ≤ r.length then r.drop 1 else r

/-- The present entries with their positions, oldest first. -/
def presentEntries : Nat → List (Option Nat) → List (Nat × Nat)
  | _, [] => []
  | i, none :: rest => presentEntries (i + 1) rest
  | i, some v :: rest => (i, v) :: presentEntries (i + 1) rest

/-- The ramp of a ring, in 0.01 bar per hour (R107). -/
def rampOf (ring : List (Option Nat)) : Nat :=
  let ps := presentEntries 0 ring
  match ps.head?, ps.getLast? with
  | some (i, old), some (k, new) =>
    if 30 ≤ k - i then (if old ≤ new then new - old else old - new) * 60 / (k - i) else 0
  | _, _ => 0

/-- The ramp is high: above 80 % of max ramp (R107). -/
def Cavern.rampHigh (c : Cavern) : Bool := 4 * c.config.maxRamp < 5 * rampOf c.ring

/-! ### Caps (07 R117, R118) -/

/-- The cases in which the cap in a direction is 0 whatever the limits (R117). -/
def State.capBlocked (s : State) (j : Nat) (c : Cavern) (d : Dir) : Bool :=
  s.sts.state != .running ||
  c.state == .offline || c.state == .fault ||
  !(s.point (pressurePoint j)).usable ||
  ((c.state.flowing || c.state == .settling) && c.lastDir == some (opposite d)) ||
  (c.state == .idle && c.lastDir == some (opposite d) && c.reversals == c.config.maxReversals) ||
  (d == .inject && c.full) || (d == .withdraw && c.empty)

/-- The cap after the ramp taper (R117 steps 1 and 2). -/
def Cavern.rampedLimit (c : Cavern) (d : Dir) : Nat :=
  if c.rampHigh then c.limit d * 5 * (c.config.maxRamp - rampOf c.ring) / c.config.maxRamp else c.limit d

/-- The headroom on the side the direction heads for (R117 step 3). -/
def Cavern.headroom (c : Cavern) (d : Dir) (p : Nat) : Nat :=
  match d with
  | .inject => c.config.pressureMax - p
  | .withdraw => p - c.config.pressureMin

/-- The headroom taper (R117 step 3). -/
def taper (cap headroom margin : Nat) : Nat :=
  if headroom = 0 then 0 else if headroom < margin then cap * headroom / margin else cap

/-- The cap of configured cavern `j` in direction `d`, formed now (R117). -/
def State.formCap (s : State) (j : Nat) (c : Cavern) (d : Dir) : Nat :=
  if s.capBlocked j c d then 0
  else taper (c.rampedLimit d) (c.headroom d (s.point (pressurePoint j)).value) c.config.warnMargin

/-- A cap is announced when it leaves the deadband about the reference, or one of the two alone is 0 (R118). -/
def announced (cap ref limit : Nat) : Bool :=
  deadband limit < (if ref ≤ cap then cap - ref else ref - cap) ||
  (cap == 0 && ref != 0) || (cap != 0 && ref == 0)

/-- Form cavern `j`'s caps again (R118); the Bool says whether the cap in the plan direction changed. -/
def State.formCaps (s : State) (j : Nat) : State × Bool :=
  match s.cavern j with
  | none => (s, false)
  | some c =>
    let ci := s.formCap j c .inject
    let cw := s.formCap j c .withdraw
    let ai := announced ci c.refInject c.config.injectionLimit
    let aw := announced cw c.refWithdraw c.config.withdrawalLimit
    let c' := { c with capInject := ci, capWithdraw := cw,
                       refInject := if ai then ci else c.refInject,
                       refWithdraw := if aw then cw else c.refWithdraw }
    let s' := s.setCavern j (some c')
    let changed := match s.planDir with
      | some .inject => ci != c.capInject
      | some .withdraw => cw != c.capWithdraw
      | none => false
    (if ai || aw then s'.makePlanDue else s', changed)

/-- Form the caps of every cavern again. -/
def State.formAllCaps (s : State) : State × Bool :=
  cavernNumbers.foldl (fun (acc : State × Bool) j =>
    let (s', ch) := acc.1.formCaps j
    (s', acc.2 || ch)) (s, false)

/-- The cavern capability for a direction: the sum of the caps (R117). -/
def State.cavernCapability (s : State) (d : Dir) : Nat :=
  (s.cvc.map (fun c => (c.map (·.cap d)).getD 0)).sum

/-! ### State changes (07 R108 to R111) -/

/-- A shut order: valve SHUT, rate 0, share set-point 0 (R108). -/
def State.shutCavern (s : State) (j : Nat) : State :=
  ((s.writeValve j .shut).writeRate j 0).modCavern j (fun c => { c with setPoint := 0 })

/-- Entry to SETTLING, or to IDLE where the settle time is 0 (R110). -/
def State.enterSettling (s : State) (j : Nat) : State :=
  ((s.shutCavern j).modCavern j (fun c =>
    if c.config.settleTime = 0 then { c with state := .idle, settle := none }
    else { c with state := .settling, settle := some (c.config.settleTime * 60) })).makePlanDue

/-- The set-point takes the share, and valve and rate are written (R109 step 4). -/
def State.orderFlow (s : State) (j : Nat) (d : Dir) (share : Nat) : State :=
  ((s.modCavern j (fun c => { c with setPoint := share })).writeValve j (flowValve d)).writeRate j share

/-- Entry from IDLE to the flowing state of a direction (R109). -/
def State.enterFlow (s : State) (j : Nat) (c : Cavern) (d : Dir) (share : Nat) : State :=
  let reversal := c.lastDir == some (opposite d)
  let count := if reversal then c.reversals + 1 else c.reversals
  let s1 := s.modCavern j (fun c => { c with reversals := count })
  let s2 := if reversal && count == c.config.maxReversals then s1.raise .reversalLimit j else s1
  let s3 := s2.modCavern j (fun c =>
    { c with lastDir := some d, state := flowState d,
             full := if d = .withdraw then false else c.full,
             empty := if d = .inject then false else c.empty })
  (s3.orderFlow j d share).makePlanDue

/-- Re-entry from SETTLING to the last flowing direction (R111). -/
def State.reenterFlow (s : State) (j : Nat) (d : Dir) (share : Nat) : State :=
  ((s.modCavern j (fun c => { c with state := flowState d, settle := none })).orderFlow j d share).makePlanDue

/-! ### The flow split (07 R119, R120) -/

/-- Group A: a cavern that needs no reversal to flow in `d`. -/
def Cavern.needsNoReversal (c : Cavern) (d : Dir) : Bool :=
  c.state == flowState d || (c.state == .settling && c.lastDir == some d) ||
  (c.state == .idle && (c.lastDir == some d || c.lastDir == none))

/-- Group B: an IDLE cavern whose last flowing direction is opposite. -/
def Cavern.needsReversal (c : Cavern) (d : Dir) : Bool :=
  c.state == .idle && c.lastDir == some (opposite d)

/-- The weights of the split: the caps of the caverns of a group, 0 for every other. -/
def State.groupCaps (s : State) (d : Dir) (group : Cavern → Bool) : List Nat :=
  cavernNumbers.map (fun j =>
    match s.cavern j with
    | some c => if group c then c.cap d else 0
    | none => 0)

/-- The share of each cavern (R119). -/
def State.splitShares (s : State) : List Nat :=
  match s.planDir with
  | none => cavernNumbers.map (fun _ => 0)
  | some d =>
    let target := s.planTarget
    if target = 0 then cavernNumbers.map (fun _ => 0)
    else
      let capsA := s.groupCaps d (fun c => c.needsNoReversal d)
      let capsAB := s.groupCaps d (fun c => c.needsNoReversal d || c.needsReversal d)
      let caps := if target ≤ capsA.sum then capsA else capsAB
      (shareOutCapped target caps caps).shares

/-- A cavern that stays in its direction: the set-point takes the share, and the rate entry follows it only
past the deadband (R120). -/
def State.adjustFlow (s : State) (j : Nat) (c : Cavern) (d : Dir) (share : Nat) : State :=
  let s1 := s.modCavern j (fun c => { c with setPoint := share })
  let held := s.rateOrder j
  if deadband (c.limit d) < (if held ≤ share then share - held else held - share) then s1.writeRate j share
  else s1

/-- Apply one cavern's share (the table of R120). -/
def State.applyShare (s : State) (j share : Nat) : State :=
  match s.cavern j with
  | none => s
  | some c =>
    if c.state.flowing then
      if share = 0 then s.enterSettling j
      else match s.planDir with
        | some d => if c.state = flowState d then s.adjustFlow j c d share else s
        | none => s
    else if share = 0 then s
    else match s.planDir with
      | some d =>
        if c.state = .idle then s.enterFlow j c d share
        else if c.state = .settling ∧ c.lastDir = some d then s.reenterFlow j d share
        else s
      | none => s

/-- Form the split and apply it cavern by cavern (R119, R120). -/
def State.runSplit (s : State) : State :=
  let shares := s.splitShares
  s.forEach cavernNumbers (fun s j => s.applyShare j (shares.getD (j - 1) 0))

/-- Form the caps again; while RUNNING a change in the plan direction brings a further split (R118 to R120).
Two splits suffice (log 14); the bound is 8, and the caps are formed again at the end in any case. -/
def settleCaps : Nat → State → State
  | 0, s => s.formAllCaps.1
  | n + 1, s =>
    let (s', changed) := s.formAllCaps
    if changed && s'.sts.state == .running then settleCaps n s'.runSplit else s'

/-- What an event that changes what the caps depend on brings (R118). -/
def State.cavernsChanged (s : State) : State := settleCaps 8 s

/-- A split called for by a plan completion or a minute event, and what it brings (R119). -/
def State.splitFlow (s : State) : State :=
  if s.sts.state = .running then s.runSplit.cavernsChanged else s

/-! ### Events of CVC -/

/-- A cavern's pressure ring and ramp-alert mark at a minute event (R106, R107). The quality read is the one the
point has after the ageing of the same second event: the model's choice (log 45). -/
def State.pushPressure (s : State) (j : Nat) : State :=
  match s.cavern j with
  | none => s
  | some c =>
    let p := s.point (pressurePoint j)
    let c1 := { c with ring := pushRing c.ring (if p.usable then some p.value else none) }
    if !c.rampDisarmed && c1.rampHigh then
      (s.setCavern j (some { c1 with rampDisarmed := true })).raise .cavernRamp j
    else if c.rampDisarmed && !c1.rampHigh then s.setCavern j (some { c1 with rampDisarmed := false })
    else s.setCavern j (some c1)

/-- CVC's minute event: ring, ramp and caps of every cavern, then the split (R106, R107, R118, R119). The
lower-numbered cavern's ramp alert comes first: the model's choice (log 4). -/
def State.cavernMinute (s : State) : State :=
  ((s.forEach cavernNumbers State.pushPressure).formAllCaps.1).splitFlow

/-- An arrival at a wellhead pressure point (R112). -/
def State.pressureArrival (s : State) (j value : Nat) : State :=
  match s.cavern j with
  | none => s
  | some c =>
    let s1 :=
      if c.state = .injecting ∧ c.config.pressureMax ≤ value then
        ((s.modCavern j (fun c => { c with full := true })).enterSettling j).raise .cavernFull j
      else if c.state = .withdrawing ∧ value ≤ c.config.pressureMin then
        ((s.modCavern j (fun c => { c with empty := true })).enterSettling j).raise .cavernEmpty j
      else s
    (s1.modCavern j (fun c' =>
      { c' with full := if value < c.config.pressureMax - c.config.warnMargin then false else c'.full,
                empty := if c.config.pressureMin + c.config.warnMargin < value then false else c'.empty
      })).cavernsChanged

/-- A quality change of a wellhead pressure point (R113, R118). -/
def State.pressureQuality (s : State) (j : Nat) (new : Quality) : State :=
  match s.cavern j with
  | none => s
  | some c =>
    (if new = .stale ∧ c.state.flowing = true then s.enterSettling j else s).cavernsChanged

/-- The station's entry to PARKED or TRIPPED: every flowing cavern enters SETTLING (R116). -/
def State.cavernsStop (s : State) : State :=
  (s.forEach cavernNumbers (fun s j =>
    match s.cavern j with
    | some c => if c.state.flowing then s.enterSettling j else s
    | none => s)).cavernsChanged

/-- The station's entry to RUNNING: the caps are formed again, and no cavern changes state (R116). -/
def State.cavernsStart (s : State) : State := s.formAllCaps.1

/-- The gas-day rollover zeroes every reversal count (R123). -/
def State.cavernRollover (s : State) : State :=
  (s.forEach cavernNumbers (fun s j => s.modCavern j (fun c => { c with reversals := 0 }))).cavernsChanged

/-- One second's flow put into a volume accumulator with its remainder (R121). -/
def addVolume (vol q flow : Nat) : Nat × Nat :=
  (satAdd (2 ^ 32 - 1) vol ((flow + q) / 3600), (flow + q) % 3600)

/-- The hour volumes of a cavern for the ended second (R121). -/
def State.integrateVolume (s : State) (j : Nat) (c : Cavern) : Cavern :=
  let p := s.point (flowPoint j)
  let flow := if p.usable then p.value else c.setPoint
  match c.state with
  | .injecting =>
    let (v, q) := addVolume c.volInject c.qInject flow
    { c with volInject := v, qInject := q }
  | .withdrawing =>
    let (v, q) := addVolume c.volWithdraw c.qWithdraw flow
    { c with volWithdraw := v, qWithdraw := q }
  | _ => c

/-- The valve watch for the ended second (R114): the count, and whether it passes its limit. -/
def State.watchValve (s : State) (j : Nat) (c : Cavern) : Cavern :=
  if c.state = .offline ∨ c.state = .fault then c
  else
    let p := s.point (valvePoint j)
    if p.shows (valveCode (s.valveOrder j)) then { c with disagreement := 0 }
    else
      let n := satAdd 65535 c.disagreement 1
      { c with disagreement := n
               faultDue := (p.usable && p.value != 3 && decide (c.config.travelTime < n)) ||
                           decide (2 * c.config.travelTime < n) || c.faultDue }

/-- A countdown one second on; one that has reached 0 waits there for its expiry step (log 1). -/
def tick (t : Option Nat) : Option Nat := t.map (· - 1)

/-- CVC's second event (R110, R114, R121). -/
def State.cavernSecond (s : State) (j : Nat) : State :=
  match s.cavern j with
  | none => s
  | some c =>
    let c1 := s.integrateVolume j c
    let c2 := s.watchValve j c1
    s.setCavern j (some { c2 with settle := tick c2.settle })

/-- SETTLE_TIMER_EXPIRY: a settle timer has reached 0 and the cavern enters IDLE (R110). The caps are formed with
the qualities after the ageing of that second event (log 45). -/
def stepSettleExpiry (j : Nat) (s : State) : State :=
  match s.cavern j with
  | none => s
  | some c =>
    if c.settle = some 0 then
      if c.state = .settling then
        (s.setCavern j (some { c with settle := none, state := .idle })).makePlanDue.cavernsChanged
      else s.setCavern j (some { c with settle := none })
    else s

/-- VALVE_FAULT: the valve watch has passed its limit; the cavern is shut and enters FAULT (R114). The caps are
formed as in `stepSettleExpiry` (log 45). -/
def stepValveFault (j : Nat) (s : State) : State :=
  match s.cavern j with
  | none => s
  | some c =>
    if c.faultDue then
      if c.state = .offline ∨ c.state = .fault then s.setCavern j (some { c with faultDue := false })
      else
        let s1 := (s.shutCavern j).modCavern j (fun c =>
          { c with state := .fault, settle := none, faultDue := false })
        (s1.raise .cavernFault j).makePlanDue.cavernsChanged
    else s

/-- What CVC hands HCU at an hour boundary, and the volumes zeroed (R122). -/
def State.handOverVolumes (s : State) : List (Option (Nat × Nat)) :=
  s.cvc.map (fun c => c.map (fun c => (c.volInject, c.volWithdraw)))

def State.zeroVolumes (s : State) : State :=
  s.forEach cavernNumbers (fun s j => s.modCavern j (fun c => { c with volInject := 0, volWithdraw := 0 }))

end Sys2Proof.Machine
end

