-- ==== Sys2Proof/Machine/Compressors.lean ====
section
/-! DEFINITION. The Compressor Duty Unit CDU (08 R125 to R142): the compression requirement, the duty
evaluation, feedback, trips and countdowns. Its requests stand in UnitRequests.lean. -/

namespace Sys2Proof.Machine

/-- The states that count in compression capability (table of 08 8.3). -/
def UnitState.capable : UnitState → Bool
  | .ready => true
  | .starting => true
  | .running => true
  | _ => false

/-- The states that count in running capacity, which are those whose run order is START (table of 08 8.3). -/
def UnitState.engaged : UnitState → Bool
  | .starting => true
  | .running => true
  | _ => false

def UnitState.runOrder (st : UnitState) : Run := if st.engaged then .start else .stop

/-- A countdown set to a number of seconds; 0 is set as not running (R136). -/
def countdown (n : Nat) : Option Nat := if n = 0 then none else some n

/-- The feedback of unit `k` shows STOPPED (08 8.7). -/
def State.showsStopped (s : State) (k : Nat) : Bool := (s.point (feedbackPoint k)).shows 0

/-- The summed capacity of the configured units whose state passes a test. -/
def State.unitCapacity (s : State) (p : UnitState → Bool) : Nat :=
  (s.cdu.units.map (fun u =>
    match u with
    | some u => if p u.state then u.config.capacity else 0
    | none => 0)).sum

/-- The compression capability (R128). -/
def State.compressionCapability (s : State) : Nat := s.unitCapacity UnitState.capable

/-- The running capacity (R132). -/
def State.runningCapacity (s : State) : Nat := s.unitCapacity UnitState.engaged

/-- The need, from the plan in force (R130). -/
def State.need (s : State) : Nat :=
  match s.plu.record with
  | some r =>
    match r.dir with
    | some .inject => r.target
    | some .withdraw => if r.required then r.target else 0
    | none => 0
  | none => 0

/-- Write the run and load values that differ from what the entries hold, in actuator order (R128, 11 R176).
While the station is not RUNNING no START is decided (01 R12). -/
def State.writeUnitOrders (s : State) : State :=
  let runs := s.forEach unitNumbers (fun s k =>
    match s.unit k with
    | some u =>
      if u.state.engaged && s.sts.state != .running then s
      else s.writeOrderIfNew (runActuator k) (.run u.state.runOrder)
    | none => s)
  runs.forEach unitNumbers (fun s k =>
    match s.unit k with
    | some u => s.writeOrderIfNew (loadActuator k) (.load u.load)
    | none => s)

/-- Replace a unit's record; a move into or out of the capability set makes PLU due (R128). -/
def State.changeUnit (s : State) (k : Nat) (u u' : Compressor) : State :=
  let s' := s.setUnit k (some u')
  if u.state.capable != u'.state.capable then s'.makePlanDue else s'

/-- The READY test of RESTING (R135); the number counts the state changes made. A min-stop at 0 whose expiry has not
run is still running here: the model's choice (log 55). -/
def State.readyTest (s : State) (k : Nat) : State × Nat :=
  match s.unit k with
  | some u =>
    if u.state = .resting ∧ u.minStop = none ∧ u.startList.length < u.config.startsPerHour then
      (s.changeUnit k u { u with state := .ready }, 1)
    else (s, 0)
  | none => (s, 0)

/-- Entry to RESTING, and the READY test made at once (R139), before the evaluation that the entry brings: the model's
choice (log 17). -/
def State.enterResting (s : State) (k : Nat) (u : Compressor) : State × Nat :=
  let s1 := s.changeUnit k u { u with state := .resting, timeout := none, minStop := countdown u.config.minStop }
  let (s2, n) := s1.readyTest k
  (s2, n + 1)

/-- A STOPPING or TRIPPED unit whose feedback shows STOPPED enters RESTING (R139). -/
def State.stoppedTest (s : State) (k : Nat) : State × Nat :=
  match s.unit k with
  | some u =>
    if (u.state = .stopping ∨ u.state = .tripped) ∧ s.showsStopped k = true then s.enterResting k u else (s, 0)
  | none => (s, 0)

/-! ### Duty evaluation (08 R131 to R134) -/

/-- The READY unit with the fewest run seconds, the lower number first among equals (R132). -/
def State.leastWorn (s : State) : Option (Nat × Compressor) :=
  unitNumbers.foldl (fun best k =>
    match s.unit k with
    | some u =>
      if u.state = .ready then
        match best with
        | none => some (k, u)
        | some (_, v) => if u.runSeconds < v.runSeconds then some (k, u) else best
      else best
    | none => best) none

/-- A start (R132). -/
def State.startUnit (s : State) (k : Nat) (u : Compressor) : State :=
  s.changeUnit k u
    { u with state := .starting, load := 0, startList := u.startList ++ [s.clk.stationSeconds],
             timeout := countdown u.config.startTimeout, minRun := none }

/-- The starts of an evaluation, at most one per unit (R132); the Bool says whether one was made. -/
def startUnits : Nat → Nat → State → State × Bool
  | 0, _, s => (s, false)
  | n + 1, need, s =>
    if s.runningCapacity < need then
      match s.leastWorn with
      | some (k, u) => ((startUnits n need (s.startUnit k u)).1, true)
      | none => (s, false)
    else (s, false)

/-- Put a candidate into a list kept most run seconds first, after its equals (R133). -/
def insertWorn (x : Nat × Compressor) : List (Nat × Compressor) → List (Nat × Compressor)
  | [] => [x]
  | y :: ys => if y.2.runSeconds < x.2.runSeconds then x :: y :: ys else y :: insertWorn x ys

/-- The stop candidates in the order they are tested (R133). A min-run at 0 whose expiry has not run is still running
here, so of two that end at one second event the lower-numbered unit is tried alone first: the model's choice
(log 55). -/
def State.stopCandidates (s : State) : List (Nat × Compressor) :=
  unitNumbers.foldl (fun acc k =>
    match s.unit k with
    | some u => if u.state = .running ∧ u.minRun = none then insertWorn (k, u) acc else acc
    | none => acc) []

/-- The stop test of a candidate (R133). -/
def stopTest (need running : Nat) (u : Compressor) : Bool :=
  100 * need ≤ (running - u.config.capacity) * u.config.stopBand

/-- The stop of an evaluation: the first candidate that passes (R133). -/
def State.stopUnit (s : State) : State :=
  match s.stopCandidates.find? (fun x => stopTest s.need s.runningCapacity x.2) with
  | some (k, u) =>
    ((s.changeUnit k u { u with state := .stopping, load := 0, timeout := countdown u.config.startTimeout,
                                minRun := none }).stoppedTest k).1
  | none => s

/-- A unit's load: its part of the need, raised to min flow and lowered to capacity (R134). -/
def loadFor (need n : Nat) (c : UnitConfig) : Nat := min c.capacity (max c.minFlow (need / n))

/-- The load set-points of the RUNNING units (R134). -/
def State.setLoads (s : State) : State :=
  let n := (s.cdu.units.filter (fun u => (u.map (·.state)) == some .running)).length
  s.forEach unitNumbers (fun s k =>
    s.modUnit k (fun u => if u.state = .running then { u with load := loadFor s.need n u.config } else u))

/-- A duty evaluation, carried out only while RUNNING (R131). -/
def State.evaluateDuty (s : State) : State :=
  if s.sts.state = .running then
    let (s1, started) := startUnits 6 s.need s
    let s2 := if started then s1 else s1.stopUnit
    s2.setLoads.writeUnitOrders
  else s

/-- `n` duty evaluations, one for each event that brings one (R131). -/
def repeatDuty : Nat → State → State
  | 0, s => s
  | n + 1, s => repeatDuty n s.evaluateDuty

/-- The orders that state changes decide, then a duty evaluation for each change (R128, R131). That every change of one
event comes before its first evaluation, which so may find a unit READY that the event found TRIPPED or STOPPING, is
the model's choice, as is the number of evaluations (log 17). -/
def dutyAfter (r : State × Nat) : State := if r.2 = 0 then r.1 else repeatDuty r.2 r.1.writeUnitOrders

/-! ### Feedback, trips and lockout (08 R137 to R139) -/

/-- A trip, or a start failure, of a unit that is STARTING, RUNNING or STOPPING (R137, R138). The unit goes on to
RESTING and READY, where it may, before the first evaluation: the model's choice (log 17). -/
def State.tripUnit (s : State) (k : Nat) (u : Compressor) (alert : AlertKind) : State :=
  let trips := satAdd 255 u.trips 1
  let locked := decide (u.config.tripLimit ≤ trips)
  let s1 := (s.changeUnit k u
    { u with state := if locked then .lockedOut else .tripped, load := 0, timeout := none, minRun := none,
             trips := trips }).writeUnitOrders
  let s2 := s1.raise alert k
  let s3 := if locked then s2.raise .unitLockout k else s2
  let (s4, n) := s3.stoppedTest k
  dutyAfter (s4, n + 1)

/-- An arrival at a run feedback point (R137, R138, R139). -/
def State.feedbackArrival (s : State) (k value : Nat) : State :=
  match s.unit k with
  | none => s
  | some u =>
    match u.state with
    | .starting =>
      if value = 1 then
        dutyAfter (s.changeUnit k u { u with state := .running, timeout := none,
                                             minRun := countdown u.config.minRun }, 1)
      else if value = 2 then s.tripUnit k u .unitTrip
      else s
    | .running => if value = 2 ∨ value = 0 then s.tripUnit k u .unitTrip else s
    | .stopping =>
      if value = 2 then s.tripUnit k u .unitTrip
      else if value = 0 then dutyAfter (s.stoppedTest k)
      else s
    | .tripped => if value = 0 then dutyAfter (s.stoppedTest k) else s
    | _ => s

/-- A quality change of a run feedback point (R138). -/
def State.feedbackQuality (s : State) (k : Nat) (new : Quality) : State :=
  match s.unit k with
  | none => s
  | some u => if new = .stale ∧ u.state = .running then s.tripUnit k u .unitTrip else s

/-! ### Countdowns and the start list (08 R135, R136) -/

/-- CDU's second event for one unit (R136). -/
def Compressor.second (u : Compressor) : Compressor :=
  { u with runSeconds := if u.state = .running then satAdd (2 ^ 32 - 1) u.runSeconds 1 else u.runSeconds
           minRun := tick u.minRun, minStop := tick u.minStop, timeout := tick u.timeout }

def State.unitSecond (s : State) (k : Nat) : State := s.modUnit k Compressor.second

/-- MIN_RUN_EXPIRY (R136). Of a stop that it brings, the STOPPED test reads as in `stepTimeoutExpiry` (log 45). -/
def stepMinRunExpiry (k : Nat) (s : State) : State :=
  match s.unit k with
  | none => s
  | some u => if u.minRun = some 0 then (s.setUnit k (some { u with minRun := none })).evaluateDuty else s

/-- MIN_STOP_EXPIRY: the READY test in RESTING, and a duty evaluation (R136; log 45 as in `stepTimeoutExpiry`). -/
def stepMinStopExpiry (k : Nat) (s : State) : State :=
  match s.unit k with
  | none => s
  | some u =>
    if u.minStop = some 0 then
      (dutyAfter ((s.setUnit k (some { u with minStop := none })).readyTest k)).evaluateDuty
    else s

/-- TIMEOUT_EXPIRY: a start failure in STARTING, a trip in STOPPING (R136 to R138). The STOPPED test of R139 reads
the feedback with its quality after the ageing of that second event (log 45). -/
def stepTimeoutExpiry (k : Nat) (s : State) : State :=
  match s.unit k with
  | none => s
  | some u =>
    if u.timeout = some 0 then
      match u.state with
      | .starting => s.tripUnit k u .unitStartFailed
      | .stopping => s.tripUnit k u .unitTrip
      | _ => s.setUnit k (some { u with timeout := none })
    else s

/-- The age of a start-list entry, across the wrap of the station seconds count (R135). -/
def startAge (now e : Nat) : Nat := (now + (2 ^ 32 - e % 2 ^ 32)) % 2 ^ 32

/-- START_LIST_ENTRY_DROP: entries of an age of 3,600 s are dropped; a RESTING unit may enter READY (R135), but not
while its min-stop stands at 0 and its expiry has not run: the model's choice (log 55). -/
def stepStartListDrop (k : Nat) (s : State) : State :=
  match s.unit k with
  | none => s
  | some u =>
    if u.startList.any (fun e => 3600 ≤ startAge s.clk.stationSeconds e) then
      let kept := u.startList.filter (fun e => startAge s.clk.stationSeconds e < 3600)
      dutyAfter ((s.setUnit k (some { u with startList := kept })).readyTest k)
    else s

/-! ### The station state and the gas day (08 R129, R140, R142) -/

/-- One unit at the station's entry to PARKED or TRIPPED (R140). -/
def State.stopEngaged (s : State) (k : Nat) : State :=
  match s.unit k with
  | some u =>
    if u.state.engaged then
      ((s.changeUnit k u { u with state := .stopping, load := 0, timeout := countdown u.config.startTimeout,
                                  minRun := none }).stoppedTest k).1
    else s
  | none => s

/-- The station's entry to PARKED or TRIPPED (R140). -/
def State.unitsStop (s : State) : State := (s.forEach unitNumbers State.stopEngaged).writeUnitOrders

/-- The gas-day rollover zeroes every trip count (R142). -/
def State.unitRollover (s : State) : State :=
  s.forEach unitNumbers (fun s k => s.modUnit k (fun u => { u with trips := 0 }))

/-- A cavern that can withdraw, below the threshold (R129). -/
def State.belowGrid (s : State) (j : Nat) : Bool :=
  match s.cavern j with
  | some c =>
    let p := s.point (pressurePoint j)
    c.state != .offline && c.state != .fault && !c.empty && p.usable &&
    decide (p.value < (s.point 4).value + s.cfg.gridMargin)
  | none => false

/-- The compression requirement tested at a minute event (R129), on the qualities that the points have after the
ageing of the same second event: the model's choice (log 45). -/
def State.testRequirement (s : State) : State :=
  if s.sts.state = .blank then s
  else
    let mark := !(s.point 4).usable || cavernNumbers.any s.belowGrid
    if mark = s.cdu.required then s
    else State.makePlanDue { s with cdu := { s.cdu with required := mark } }

end Sys2Proof.Machine
end

