-- ==== Sys2Proof/Machine/Dryers.lean ====
section
/-! DEFINITION. The Drying Controller DRC (09 R144 to R154): loading, bed switching, the regeneration heater,
conditions, planning capacity and off-spec. Its requests stand in TrainRequests.lean. -/

namespace Sys2Proof.Machine

def otherBed : Bed → Bed
  | .a => .b
  | .b => .a

def Train.bed (r : Train) : Bed → BedRecord
  | .a => r.bedA
  | .b => r.bedB

def Train.setBed (r : Train) (bed : Bed) (x : BedRecord) : Train :=
  match bed with
  | .a => { r with bedA := x }
  | .b => { r with bedB := x }

/-- The bed in line: the ADSORBING one (09 R150: every configured train has exactly one). -/
def Train.inLine (r : Train) : Bed := if r.bedA.state = .adsorbing then .a else .b

/-- The water one bed can hold, in mg (R144). -/
def TrainConfig.bedLimit (c : TrainConfig) : Nat := c.bedCapacity * 1000000

/-- The switch point in mg (R149). -/
def TrainConfig.switchMg (c : TrainConfig) : Nat := c.bedLimit * c.switchPoint / 100

/-! ### Condition and planning capacity (09 R153) -/

/-- The condition formed from the beds (R153). -/
def Train.formCondition (r : Train) : Condition :=
  let loading := (r.bed r.inLine).loading
  if r.config.bedLimit ≤ loading then .breakthrough
  else if r.config.switchMg ≤ loading ∧ (r.bed (otherBed r.inLine)).state ≠ .ready then .derated
  else .normal

/-- The planning capacity of a train state and a condition (R153). -/
def planningCapacity (c : TrainConfig) (st : TrainState) (cond : Condition) : Nat :=
  match st with
  | .offline => 0
  | .offspec => 0
  | _ =>
    match cond with
    | .normal => c.capacity
    | .derated => c.capacity * c.derate / 100
    | .breakthrough => 0

/-- Form condition and planning capacity of train `t` again, with their alerts and PLU due (R153). -/
def State.formTrain (s : State) (t : Nat) : State :=
  match s.train t with
  | none => s
  | some r =>
    let cond := r.formCondition
    let cap := planningCapacity r.config r.state cond
    let s1 := s.setTrain t (some { r with condition := cond, planCap := cap })
    let s2 :=
      if cond = .derated ∧ r.condition = .normal then s1.raise .trainDerated t
      else if cond = .breakthrough ∧ r.condition ≠ .breakthrough then s1.raise .trainBreakthrough t
      else s1
    if cap = r.planCap then s2 else s2.makePlanDue

/-- The dryer capability (R153). -/
def State.dryerCapability (s : State) : Nat :=
  (s.drc.trains.map (fun r =>
    match r with
    | some r => if r.state = .standby ∨ r.state = .online then r.planCap else 0
    | none => 0)).sum

/-! ### Train states and modes (09 R147) -/

/-- The mode decided for a train state under the plan in force (R147). -/
def trainModeFor (st : TrainState) (plan : Option Dir) : TrainMode :=
  match st with
  | .offline => .offline
  | .standby => .standby
  | .online => .online
  | .offspec => if plan = some .withdraw then .online else .standby

/-- Decide a train's mode; only while RUNNING (R147). -/
def State.decideMode (s : State) (t : Nat) : State :=
  match s.train t with
  | some r => if s.sts.state = .running then s.writeTrainMode t (trainModeFor r.state s.planDir) else s
  | none => s

/-- A train state change: PLU due, the planning capacity formed again; in OFFLINE and STANDBY both off-spec
counts are 0 (R153, R154). -/
def State.changeTrain (s : State) (t : Nat) (r : Train) (st : TrainState) : State :=
  let zero := st = .offline ∨ st = .standby
  let r' := { r with state := st, aboveSpec := if zero then 0 else r.aboveSpec,
                     inSpec := if zero then 0 else r.inSpec }
  ((s.setTrain t (some r')).formTrain t).makePlanDue

/-- A plan completion that is not discarded (R147). -/
def State.trainsPlan (s : State) : State :=
  if s.sts.state = .running then
    let s1 := s.forEach trainNumbers (fun s t =>
      match s.train t with
      | some r =>
        if s.planDir = some .withdraw then
          if r.state = .standby then s.changeTrain t r .online else s
        else if r.state = .online then s.changeTrain t r .standby
        else s
      | none => s)
    s1.forEach trainNumbers State.decideMode
  else s

/-- The station's entry to PARKED or TRIPPED: every ONLINE train enters STANDBY (R147). -/
def State.trainsStop (s : State) : State :=
  s.forEach trainNumbers (fun s t =>
    match s.train t with
    | some r => if r.state = .online then s.changeTrain t r .standby else s
    | none => s)

/-! ### The regeneration heater (09 R150 to R152) -/

/-- The head of the heater queue begins HEATING where the queue is not empty, the heater is free and the
station is not TRIPPED (R150). -/
def State.serveHeater (s : State) : State :=
  match s.drc.queue with
  | [] => s
  | (t, bed) :: rest =>
    if s.drc.heating.isNone ∧ s.sts.state ≠ .tripped then
      match s.train t with
      | none => s
      | some r =>
        let s1 := { s with drc := { s.drc with queue := rest, heating := some (t, bed),
                                               heatingTimer := some (r.config.heatingTime * 60),
                                               rate := r.config.regenRate, volume := 0 } }
        let s2 := s1.setTrain t (some (r.setBed bed { r.bed bed with state := .heating }))
        (s2.writeTrainStep t (.heat bed)).formTrain t
    else s

/-- The beds of train `t` switch (R149), and the heater serves the queue (R150). The bed in line is written, and
its ORDER report offered, before a free heater takes the bed and writes HEAT, although R149 has the bed join the
queue first: the model's choice (log 46). -/
def State.switchBeds (s : State) (t : Nat) (r : Train) : State :=
  let old := r.inLine
  let new := otherBed old
  let r1 := ((r.setBed new { r.bed new with state := .adsorbing }).setBed old
              { r.bed old with state := .spent })
  let s1 := s.setTrain t (some { r1 with remainder := 0 })
  let s2 := { s1 with drc := { s1.drc with queue := s1.drc.queue ++ [(t, old)] } }
  ((s2.writeTrainBed t new).formTrain t).serveHeater

/-- The switch test of train `t` (R149). -/
def State.switchTest (s : State) (t : Nat) : State :=
  match s.train t with
  | some r =>
    if r.config.switchMg ≤ (r.bed r.inLine).loading ∧ (r.bed (otherBed r.inLine)).state = .ready then
      s.switchBeds t r
    else s
  | none => s

/-- A heater or cooling timer of this second event has reached 0 and its expiry has not run (R149, log 22). -/
def State.dryerExpiryDue (s : State) : Bool :=
  (s.drc.heatingTimer == some 0) ||
  s.drc.trains.any (fun r => (r.map (·.cooling)) == some (some 0))

/-- The switch tests of a second event, in train-number order, once its expiries have run (R149). -/
def State.switchTests (s : State) : State :=
  if s.dryerExpiryDue then { s with drc := { s.drc with switchDue := true } }
  else ({ s with drc := { s.drc with switchDue := false } } : State).forEach trainNumbers State.switchTest

/-- After an expiry: the switch tests, if they waited for it (R149, R151). -/
def State.resumeSwitchTests (s : State) : State := if s.drc.switchDue then s.switchTests else s

/-- HEATING_EXPIRY (R151). -/
def stepHeatingExpiry (s : State) : State :=
  if s.drc.heatingTimer = some 0 then
    match s.drc.heating with
    | none => { s with drc := { s.drc with heatingTimer := none } }
    | some (t, bed) =>
      let volume := s.drc.volume
      let s0 := { s with drc := { s.drc with heating := none, heatingTimer := none, rate := 0 } }
      let s1 := s0.modTrain t (fun r =>
        { r.setBed bed { state := .cooling, loading := 0 } with
            cooling := some (r.config.coolingTime * 60)
            lastRegen := some { bed := bed, volume := volume, outcome := .completed } })
      (((s1.writeTrainStep t (.cool bed)).formTrain t).serveHeater).resumeSwitchTests
  else s

/-- The bed of a train that is COOLING becomes READY. -/
def Train.finishCooling (r : Train) : Train :=
  let f (x : BedRecord) : BedRecord := if x.state = .cooling then { x with state := .ready } else x
  { r with bedA := f r.bedA, bedB := f r.bedB, cooling := none }

/-- COOLING_EXPIRY (R151). -/
def stepCoolingExpiry (t : Nat) (s : State) : State :=
  match s.train t with
  | none => s
  | some r =>
    if r.cooling = some 0 then
      (((s.setTrain t (some r.finishCooling)).writeTrainStep t .none).formTrain t).resumeSwitchTests
    else s

/-- A HEATING bed is aborted at the entry to TRIPPED (R152). -/
def State.abortHeating (s : State) : State :=
  match s.drc.heating with
  | none => s
  | some (t, bed) =>
    let volume := s.drc.volume
    let s0 := { s with drc := { s.drc with heating := none, heatingTimer := none, rate := 0,
                                           queue := (t, bed) :: s.drc.queue } }
    let s1 := s0.modTrain t (fun r =>
      { r.setBed bed { r.bed bed with state := .spent } with
          lastRegen := some { bed := bed, volume := volume, outcome := .aborted } })
    (s1.writeTrainStep t .none).formTrain t

/-! ### The second event (09 R148, R151, R154) -/

/-- The flow taken for a train's loading (R148). -/
def State.trainFlow (s : State) (t : Nat) (r : Train) : Nat :=
  let p := s.point (trainFlowPoint t)
  if p.usable then p.value else if (s.trainOrder t).1 = .online then r.config.capacity else 0

/-- The water removed, in mg per sm³ (R148). -/
def State.waterRemoved (s : State) (t : Nat) (r : Train) : Nat :=
  let i := s.point (inletPoint t)
  let o := s.point (outletPoint t)
  (if i.usable then i.value else r.config.designInlet) - (if o.usable then o.value else r.config.outletSpec)

/-- The loading of the bed in line for one second (R148). A loading that comes exactly to its limit keeps its
remainder; only one that would pass it saturates with remainder 0: the model's choice (log 42). -/
def Train.addWater (r : Train) (flow water : Nat) : Train :=
  let bed := r.inLine
  let sum := flow * water + r.remainder
  let loading := (r.bed bed).loading + sum / 3600
  if r.config.bedLimit < loading then
    { r.setBed bed { r.bed bed with loading := r.config.bedLimit } with remainder := 0 }
  else { r.setBed bed { r.bed bed with loading := loading } with remainder := sum % 3600 }

/-- The off-spec counters for one second (R154). -/
def State.countOffspec (s : State) (t : Nat) (r : Train) : Train :=
  let o := s.point (outletPoint t)
  match r.state with
  | .online =>
    { r with aboveSpec := if o.usable && decide (r.config.outletSpec < o.value) then r.aboveSpec + 1 else 0 }
  | .offspec =>
    { r with inSpec := if o.usable && decide (o.value ≤ r.config.outletSpec) then r.inSpec + 1 else 0 }
  | _ => { r with aboveSpec := 0, inSpec := 0 }

/-- Loading, off-spec count and cooling timer of one train for the ended second (R148, R151, R154). The
condition is formed from the new loading before a cooling expiry of the same second event (R153): the model's
choice (log 44). -/
def State.trainSecond (s : State) (t : Nat) : State :=
  match s.train t with
  | none => s
  | some r =>
    let r1 := s.countOffspec t (r.addWater (s.trainFlow t r) (s.waterRemoved t r))
    (s.setTrain t (some { r1 with cooling := tick r1.cooling })).formTrain t

/-- The regeneration gas of the ended second, added before any timer is decreased (R151). -/
def State.regenSecond (s : State) : State :=
  { s with drc := { s.drc with volume := s.drc.volume + (s.drc.rate + s.drc.gasRemainder) / 3600,
                               gasRemainder := (s.drc.rate + s.drc.gasRemainder) % 3600,
                               heatingTimer := tick s.drc.heatingTimer } }

/-- DRC's second event: loading, regeneration gas, timers, off-spec counts, then the switch tests once the
expiries of the event have run (R148 to R151, R154). R149 orders the switch tests; that the work before them takes
train 1 first too, with its alerts, is the model's choice (log 4). No train is configured while BLANK. -/
def State.dryerSecond (s : State) : State :=
  ((s.forEach trainNumbers State.trainSecond).regenSecond).switchTests

/-- OFFSPEC_ENTRY (R154). -/
def stepOffspecEntry (t : Nat) (s : State) : State :=
  match s.train t with
  | none => s
  | some r =>
    if r.state = .online ∧ r.config.offspecDelay ≤ r.aboveSpec then
      ((s.changeTrain t { r with aboveSpec := 0 } .offspec).raise .trainOffspec t).decideMode t
    else s

/-- OFFSPEC_RECOVERY (R154). -/
def stepOffspecRecovery (t : Nat) (s : State) : State :=
  match s.train t with
  | none => s
  | some r =>
    if r.state = .offspec ∧ r.config.offspecDelay ≤ r.inSpec then
      let st := if s.sts.state = .running ∧ s.planDir = some .withdraw then TrainState.online else .standby
      (s.changeTrain t { r with inSpec := 0 } st).decideMode t
    else s

end Sys2Proof.Machine
end

