-- ==== Sys2Proof/Machine/Deliver.lean ====
section
/-! DEFINITION. What SMT delivers (02 R22, R24, R25, R29): arrivals and quality changes reach the users of
a point, and two quality changes raise an alert. -/

namespace Sys2Proof.Machine

/-- An arrival at a point, delivered to its users. The other users take the stored value at their next
second or minute event (02 R29). -/
def State.deliverArrival (s : State) (k : PointKind) (value : Nat) : State :=
  match k with
  | .wellPressure j => s.pressureArrival j value
  | .runFeedback k => s.feedbackArrival k value
  | .meterRate => s
  | .meterDirection => s
  | .calorific => s
  | .fuelRate => s
  | .gridPressure => s
  | .wellFlow _ => s
  | .valvePosition _ => s
  | .trainFlow _ => s
  | .inletWater _ => s
  | .outletWater _ => s

/-- A quality change of a point, delivered to its users, with SMT's own two alerts (R25). -/
def State.deliverQuality (s : State) (k : PointKind) (new : Quality) : State :=
  match k with
  | .meterRate => if new = .stale then s.raise .meterStale 0 else s
  | .calorific => if new = .stale then s.raise .cvStale 0 else s
  | .wellPressure j => s.pressureQuality j new
  | .runFeedback k => s.feedbackQuality k new
  | .meterDirection => s
  | .fuelRate => s
  | .gridPressure => s
  | .wellFlow _ => s
  | .valvePosition _ => s
  | .trainFlow _ => s
  | .inletWater _ => s
  | .outletWater _ => s

/-- Apply a grading to every record, with its point's kind; `p` is the number of the first record. -/
def gradePoints (f : PointKind → Point → Point) : Nat → List Point → List Point
  | _, [] => []
  | p, x :: rest =>
    (match pointKind p with
     | some k => f k x
     | none => x) :: gradePoints f (p + 1) rest

/-- Deliver the quality change of point `p`, if its quality differs from the one it had. -/
def deliverChange (old : List Point) (s : State) (p : Nat) : State :=
  match pointKind p with
  | some k =>
    if (s.point p).quality = (old.getD p Point.never).quality then s
    else s.deliverQuality k (s.point p).quality
  | none => s

/-- Grade every point, then deliver the changes in point order (R22, R24, R25; log 4). -/
def State.gradeAll (s : State) (f : PointKind → Point → Point) : State :=
  ({ s with smt := gradePoints f 0 s.smt }).forEach (List.range 41) (deliverChange s.smt)

/-- SMT's second event (R24). -/
def State.agePoints (s : State) : State := s.gradeAll (fun k x => agePoint (limitOf s.cfg.limits k) x)

/-- The regrade of the points of the classes whose limits differ from the old ones (R22). -/
def State.regradePoints (s : State) (old : ClassLimits) : State :=
  s.gradeAll (fun k x =>
    if limitOf s.cfg.limits k = limitOf old k then x else regrade (limitOf s.cfg.limits k) x)

/-! ### SAMPLE pairs (R27 to R29) -/

inductive Outcome where
  | taken
  | clamped
  | ignored
  | noSuch
  deriving DecidableEq, Repr

/-- The outcome's code (11 R182). -/
def outcomeByte : Outcome → Nat
  | .taken => 0
  | .clamped => 1
  | .ignored => 2
  | .noSuch => 3

/-- What a pair stores: the value and the clamped mark; `none` where the pair is ignored (R27, R28). -/
def storedValue (k : PointKind) (value : Nat) : Option (Nat × Bool) :=
  match pointRange k with
  | .numeric lo hi => if hi < value then some (hi, true) else if value < lo then some (lo, true) else some (value, false)
  | .codes n => if value < n then some (value, false) else none

/-- An arrival: the value is stored GOOD at age 0 and the arrival delivered, and then the quality change it
brings (R27, R29; log 37). -/
def State.storeSample (s : State) (p : Nat) (k : PointKind) (value : Nat) (clamped : Bool) : State :=
  let old := (s.point p).quality
  let s1 := s.setPoint p { value := value, age := 0, quality := .good, clamped := clamped }
  let s2 := s1.deliverArrival k value
  if old = .good then s2 else s2.deliverQuality k .good

/-- One pair of a SAMPLE: its outcome, and the value of its reply line (R27 to R30). -/
def State.takePair (s : State) (p value : Nat) : State × Outcome × Nat :=
  match pointKind p with
  | none => (s, .noSuch, 0)
  | some k =>
    if s.pointConfigured k then
      match storedValue k value with
      | some (v, clamped) => (s.storeSample p k v clamped, if clamped then .clamped else .taken, v)
      | none => (s, .ignored, (s.point p).value)
    else (s, .noSuch, 0)

/-- The pairs of a SAMPLE, one after another, with their reply lines (R26, R30). -/
def State.takePairs (s : State) : List (Nat × Nat) → State × List (Nat × Outcome × Nat)
  | [] => (s, [])
  | (p, v) :: rest =>
    let r := s.takePair p v
    let rest' := State.takePairs r.1 rest
    (rest'.1, (p, r.2.1, r.2.2) :: rest'.2)

end Sys2Proof.Machine
end

