-- ==== Sys2Proof/Machine/Metering.lean ====
section
/-! DEFINITION. The Metering Unit MTU (03 R33 to R45): the metering second, the energy done in the hour, and
the hand-over of a closed hour. -/

namespace Sys2Proof.Machine

/-- The most Wh an accumulator holds (03 R33). -/
def maxWh : Nat := 2 ^ 48 - 1

/-- A product put into an accumulator with its remainder (R39, R42). -/
def Acc.add (x : Acc) (p : Nat) : Acc :=
  { wh := satAdd maxWh x.wh ((p + x.q) / 12960), q := (p + x.q) % 12960 }

/-- What MTU chooses for the ended second: rate, direction, and whether the second is meter-estimated. -/
structure MeterChoice where
  rate : Nat
  dir : Option Dir
  estimated : Bool
  deriving DecidableEq, Repr

/-- The direction a meter direction code names (02 R19). -/
def meterDir (code : Nat) : Option Dir :=
  if code = 1 then some .inject else if code = 2 then some .withdraw else none

/-- Rate and direction of the ended second (R35 to R37). -/
def State.meterChoice (s : State) : MeterChoice :=
  let rate := s.point 0
  let dir := s.point 1
  if rate.usable then
    if dir.usable then { rate := rate.value, dir := meterDir dir.value, estimated := false }
    else { rate := rate.value, dir := s.planDir, estimated := true }
  else { rate := s.planTarget, dir := s.planDir, estimated := true }

/-- The calorific value in use: point 2, or the default (R38, 06 R87). -/
def State.calorific (s : State) : Nat := if (s.point 2).usable then (s.point 2).value else s.cfg.defaultCv

/-- The fuel rate of the ended second (R40). -/
def State.fuelRate (s : State) : Nat := if (s.point 3).usable then (s.point 3).value else 0

/-- The meter energy of the ended second (R39). -/
def Meter.addEnergy (m : Meter) (dir : Option Dir) (p : Nat) : Meter :=
  match dir with
  | some .inject => { m with injection := m.injection.add p }
  | some .withdraw => { m with withdrawal := m.withdrawal.add p }
  | none => m

/-- The station use of the ended second, for fuel rate `f` and regeneration rate `g` (R42). -/
def Meter.addUse (m : Meter) (f g c : Nat) : Meter :=
  { m with use := m.use.add ((f + g) * c), fuel := m.fuel.add (f * c), regen := m.regen.add (g * c) }

/-- The metering unit after the ended second (R34). -/
def State.meterAfter (s : State) : Meter :=
  let m := s.meterChoice
  let c := s.calorific
  let m1 := (s.mtu.addEnergy m.dir (m.rate * c)).addUse s.fuelRate s.drc.rate c
  { m1 with estimated := if m.estimated then satAdd 65535 m1.estimated 1 else m1.estimated,
            cvDefault := if (s.point 2).usable then m1.cvDefault else satAdd 65535 m1.cvDefault 1 }

/-- MTU's second event; it integrates nothing while BLANK (R34). -/
def State.meterSecond (s : State) : State :=
  if s.sts.state = .blank then s else { s with mtu := s.meterAfter }

/-- E_done, in kWh, injection-positive (R45). -/
def Meter.done (m : Meter) : Int := ((m.injection.wh / 1000 : Nat) : Int) - ((m.withdrawal.wh / 1000 : Nat) : Int)

/-- The closing-hour figures of MTU, with CVC's volumes (R43, 07 R122). -/
def State.handOver (s : State) (hour : Nat) : HandOver :=
  { hour := hour, injection := s.mtu.injection.wh / 1000, withdrawal := s.mtu.withdrawal.wh / 1000,
    use := s.mtu.use.wh / 1000, fuel := s.mtu.fuel.wh / 1000, regen := s.mtu.regen.wh / 1000,
    estimated := s.mtu.estimated, cvDefault := s.mtu.cvDefault, volumes := s.handOverVolumes }

/-- The leftover an accumulator carries into the new hour (R43). -/
def Acc.carry (x : Acc) : Acc := { x with wh := x.wh % 1000 }

/-- MTU's state for the new hour (R43). -/
def Meter.newHour (m : Meter) : Meter :=
  { injection := m.injection.carry, withdrawal := m.withdrawal.carry, use := m.use.carry,
    fuel := m.fuel.carry, regen := m.regen.carry, estimated := 0, cvDefault := 0 }

end Sys2Proof.Machine
end

