-- ==== Sys2Proof/Machine/Operands.lean ====
section
/-! DEFINITION. The operands of requests: the order of checks, the fields applied at their limits, and the
answer a request is given (11 R174, 01 R6, 04 R52, 07 R104, 08 R127, 09 R146). -/

namespace Sys2Proof.Machine

/-- What a block answers a request: the state after it, the result, and the reply's fields after the
result. -/
structure Answer where
  state : State
  result : Result
  items : List Item
  deriving DecidableEq, Repr

/-- The first check that fails decides the result. -/
def firstFailure (checks : List (Bool × Result)) : Option Result :=
  (checks.find? (fun c => c.1)).map (·.2)

/-- A request that is refused at its first failing check with the state unchanged, and answered with its
fields as they then stand; otherwise its effect (11 R174). -/
def answerBy (s : State) (refusal : Option Result) (effect : State × Result) (items : State → List Item) :
    Answer :=
  match refusal with
  | some r => { state := s, result := r, items := items s }
  | none => { state := effect.1, result := effect.2, items := items effect.1 }

/-- The result of an accepted request: CLAMPED where some value was applied other than as carried. -/
def acceptedResult (clamped : Bool) : Result := if clamped then .clamped else .ok

/-! ### CONFIGURE STATION (01 R6) -/

/-- A limit of 0 is applied as 1, one above 65,000 as 65,000 (02 R21 steps 1 and 2). -/
def appliedLimitValue (n : Nat) : Nat := clampTo 1 65000 n

/-- Fresh and hold limit as applied; a hold limit below the fresh limit is applied equal to it (02 R21). -/
def Limit.applied (l : Limit) : Limit :=
  { fresh := appliedLimitValue l.fresh, hold := max (appliedLimitValue l.fresh) (appliedLimitValue l.hold) }

def ClassLimits.applied (l : ClassLimits) : ClassLimits :=
  { meter := Limit.applied l.meter, cv := Limit.applied l.cv, pressure := Limit.applied l.pressure,
    flow := Limit.applied l.flow, feedback := Limit.applied l.feedback, water := Limit.applied l.water }

/-- The status interval as applied (11 R180). -/
def appliedInterval (n : Nat) : Nat := if n = 0 then 0 else clampTo 10 3600 n

/-- The settings as applied (01 R6, 02 R21, 03 R33, 05 R67, 08 R129, 10 R171, 11 R180). -/
def appliedSettings (f : Settings) : Settings :=
  { mode := f.mode, lead := clampTo 1 4 f.lead, warnLevel := clampTo 50 100 f.warnLevel,
    defaultCv := clampTo 30000 48000 f.defaultCv, gridMargin := min 5000 f.gridMargin,
    tolerance := min 20 f.tolerance, statusInterval := appliedInterval f.statusInterval,
    limits := ClassLimits.applied f.limits }

/-! ### CONFIGURE SHIPPER (04 R52) -/

/-- The four rights as applied. -/
def appliedRights (r : Rights) : Rights :=
  { space := min (2 ^ 40) r.space, injection := min 10000000 r.injection,
    withdrawal := min 10000000 r.withdrawal, imbalanceLimit := min 1000000000 r.imbalanceLimit }

/-! ### CONFIGURE CAVERN (07 R104) -/

/-- The configuration as applied to a cavern with a reversal count. -/
def appliedCavern (f : CavernConfig) (reversals : Nat) : CavernConfig :=
  let lo := min 30000 f.pressureMin
  let hi := min 30000 f.pressureMax
  { pressureMin := lo, pressureMax := hi,
    warnMargin := if hi - lo < f.warnMargin then 0 else f.warnMargin,
    maxRamp := clampTo 10 2000 f.maxRamp,
    injectionLimit := min 600000 f.injectionLimit, withdrawalLimit := min 600000 f.withdrawalLimit,
    settleTime := min 720 f.settleTime, maxReversals := max reversals (min 12 f.maxReversals),
    travelTime := clampTo 30 600 f.travelTime }

/-! ### CONFIGURE UNIT (08 R127) -/

/-- A field that is present, applied between two limits; an absent one keeps the held or default value. -/
def fieldOr (lo hi held : Nat) (f : Option Nat) : Nat :=
  match f with
  | some n => clampTo lo hi n
  | none => held

/-- A present field was applied at another value than the one carried. -/
def fieldClamped (f : Option Nat) (applied : Nat) : Bool :=
  match f with
  | some n => n != applied
  | none => false

/-- The defaults of a unit (R127); a new unit without capacity is refused. -/
def unitDefaults : UnitConfig :=
  { capacity := 0, minFlow := 0, startsPerHour := 3, minRun := 1800, minStop := 900, startTimeout := 300,
    tripLimit := 3, stopBand := 90 }

/-- The configuration as applied over held values, for a start list of a length (R127). -/
def appliedUnit (held : UnitConfig) (starts : Nat) (f : UnitFields) : UnitConfig :=
  let capacity := fieldOr 1000 400000 held.capacity f.capacity
  { capacity := capacity,
    minFlow := min capacity (f.minFlow.getD held.minFlow),
    startsPerHour :=
      match f.startsPerHour with
      | some n => max starts (clampTo 1 6 n)
      | none => held.startsPerHour,
    minRun := fieldOr 0 7200 held.minRun f.minRun, minStop := fieldOr 0 7200 held.minStop f.minStop,
    startTimeout := fieldOr 30 900 held.startTimeout f.startTimeout,
    tripLimit := fieldOr 1 5 held.tripLimit f.tripLimit,
    stopBand := fieldOr 50 95 held.stopBand f.stopBand }

/-- Some present field of a unit was applied other than as carried (R127). -/
def unitClamped (f : UnitFields) (c : UnitConfig) : Bool :=
  fieldClamped f.capacity c.capacity || fieldClamped f.minFlow c.minFlow ||
  fieldClamped f.startsPerHour c.startsPerHour || fieldClamped f.minRun c.minRun ||
  fieldClamped f.minStop c.minStop || fieldClamped f.startTimeout c.startTimeout ||
  fieldClamped f.tripLimit c.tripLimit || fieldClamped f.stopBand c.stopBand

/-! ### CONFIGURE TRAIN (09 R146) -/

/-- The defaults of a train (R146); a new train without capacity, bed capacity or gas rate is refused. -/
def trainDefaults : TrainConfig :=
  { capacity := 0, bedCapacity := 0, switchPoint := 85, derate := 50, heatingTime := 240, coolingTime := 120,
    regenRate := 0, outletSpec := 50, designInlet := 1500, offspecDelay := 120 }

/-- The configuration as applied over held values (R146). -/
def appliedTrain (held : TrainConfig) (f : TrainFields) : TrainConfig :=
  { capacity := fieldOr 10000 800000 held.capacity f.capacity,
    bedCapacity := fieldOr 100 20000 held.bedCapacity f.bedCapacity,
    switchPoint := fieldOr 50 95 held.switchPoint f.switchPoint,
    derate := fieldOr 0 100 held.derate f.derate,
    heatingTime := fieldOr 30 720 held.heatingTime f.heatingTime,
    coolingTime := fieldOr 30 720 held.coolingTime f.coolingTime,
    regenRate := fieldOr 0 20000 held.regenRate f.regenRate,
    outletSpec := fieldOr 10 500 held.outletSpec f.outletSpec,
    designInlet := fieldOr 0 2000 held.designInlet f.designInlet,
    offspecDelay := fieldOr 10 3600 held.offspecDelay f.offspecDelay }

/-- Some present field of a train was applied other than as carried (R146). -/
def trainClamped (f : TrainFields) (c : TrainConfig) : Bool :=
  fieldClamped f.capacity c.capacity || fieldClamped f.bedCapacity c.bedCapacity ||
  fieldClamped f.switchPoint c.switchPoint || fieldClamped f.derate c.derate ||
  fieldClamped f.heatingTime c.heatingTime || fieldClamped f.coolingTime c.coolingTime ||
  fieldClamped f.regenRate c.regenRate || fieldClamped f.outletSpec c.outletSpec ||
  fieldClamped f.designInlet c.designInlet || fieldClamped f.offspecDelay c.offspecDelay

/-! ### Optional parts of an object's record in a reply -/

/-- The state BLANK refuses a request with WRONG_STATE (01 R5). -/
def State.isBlank (s : State) : Bool := s.sts.state == .blank

end Sys2Proof.Machine
end

