-- ==== Sys2Proof/Machine/Accounts.lean ====
section
/-! DEFINITION. The account table ACT (04 R47 to R65): imbalances, counters, the transfer list, and the
requests CONFIGURE SHIPPER, LOAD BALANCE, TRANSFER and ACCOUNT QUERY. -/

namespace Sys2Proof.Machine

/-- The largest inventory, in kWh (04 R49). -/
def maxInventory : Nat := 2 ^ 47 - 1

/-- Shipper 0, or above P (R47). -/
def State.noShipper (s : State) (n : Nat) : Bool := n == 0 || decide (s.shippers < n)

/-- The account of shipper `n`; the VACANT record where there is none. -/
def State.accountOf (s : State) (n : Nat) : Account := (s.account n).getD Account.vacant

/-! ### Imbalance and counters (R56, R57) -/

/-- A signed value held within plus or minus a limit. -/
def holdWithin (limit : Nat) (x : Int) : Int :=
  if (limit : Int) < x then limit else if x < -(limit : Int) then -(limit : Int) else x

/-- An imbalance changed by `delta`, with the saturated mark; the Bool says whether it saturated (R56). -/
def Account.moveImbalance (a : Account) (delta : Int) : Account × Bool :=
  let x := a.imbalance + delta
  let held := holdWithin a.rights.imbalanceLimit x
  ({ a with imbalance := held, saturated := a.saturated || held != x }, held != x)

/-- A throughput counter grown, with its epoch at a wrap (R57). -/
def Counter.grow (c : Counter) (n : Nat) : Counter :=
  let sum := c.count + n
  if 2 ^ 32 ≤ sum then { count := sum - 2 ^ 32, epoch := (c.epoch + 1) % 65536 } else { c with count := sum }

/-! ### CONFIGURE SHIPPER (R51 to R54) -/

/-- A transfer names a shipper. -/
def Transfer.names (t : Transfer) (n : Nat) : Bool := t.source == n || t.target == n

/-- CLOSE is carried out only on an idle account (R54). -/
def State.accountIdle (s : State) (n : Nat) : Bool :=
  (s.accountOf n).inventory == 0 && (s.partition n).entries.isEmpty &&
  !s.act.transfers.any (fun t => t.names n)

/-- The checks of CONFIGURE SHIPPER, in order; actions are OPEN 0, SET 1, SUSPEND 2, REACTIVATE 3, CLOSE 4
(R51). -/
def State.shipperRefusal (s : State) (n action : Nat) : Option Result :=
  let st := (s.accountOf n).state
  firstFailure [
    (s.isBlank, .wrongState),
    (s.noShipper n, .noSuch),
    (decide (4 < action), .badRange),
    (action == 0 && st != .vacant, .notIdle),
    (action != 0 && st == .vacant, .noSuch),
    (action == 4 && !s.accountIdle n, .notIdle)]

/-- OPEN (R52). -/
def State.openAccount (s : State) (n : Nat) (r : Rights) : State :=
  (s.setAccount n { Account.vacant with state := .active, rights := appliedRights r }).makePlanDue

/-- SET, with the imbalance brought within a lowered limit (R52, R56). -/
def State.setRights (s : State) (n : Nat) (r : Rights) : State :=
  let a := { s.accountOf n with rights := appliedRights r }
  let (a', sat) := a.moveImbalance 0
  let s1 := s.setAccount n a'
  if sat then s1.raise .imbalanceSaturated n else s1

/-- SUSPEND and REACTIVATE: PLU is due where the state changes (R51, R53). -/
def State.setAccountState (s : State) (n : Nat) (st : AccountState) : State :=
  let a := s.accountOf n
  if a.state = st then s else (s.setAccount n { a with state := st }).makePlanDue

/-- An evaluation in flight writes no confirmation to a shipper closed since its begin (06 R97). -/
def State.forgetShipper (s : State) (n : Nat) : State :=
  match s.plu.eval with
  | some e =>
    match nth e.shippers n with
    | some x => { s with plu := { s.plu with
        eval := some { e with shippers := setNth e.shippers n { x with writable := false } } } }
    | none => s
  | none => s

/-- CLOSE, carried out (R54). -/
def State.closeAccount (s : State) (n : Nat) : State :=
  ((s.setAccount n Account.vacant).forgetShipper n).makePlanDue

/-- The effect of an accepted CONFIGURE SHIPPER (R51). -/
def State.shipperAction (s : State) (n action : Nat) (r : Rights) : State × Result :=
  let changed :=
    if action = 0 then s.openAccount n r
    else if action = 1 then s.setRights n r
    else if action = 2 then s.setAccountState n .suspended
    else if action = 3 then s.setAccountState n .active
    else s.closeAccount n
  (changed.makeSnapshotDue, acceptedResult (decide (action ≤ 1) && appliedRights r != r))

def rightsItems (r : Rights) : List Item :=
  [.u64 r.space, .u32 r.injection, .u32 r.withdrawal, .u32 r.imbalanceLimit]

/-- CONFIGURE SHIPPER (R51). -/
def State.configureShipper (s : State) (n action : Nat) (r : Rights) : Answer :=
  answerBy s (s.shipperRefusal n action) (s.shipperAction n action r) (fun s =>
    .u8 n :: .u8 (accountCode (s.accountOf n).state) :: rightsItems (s.accountOf n).rights)

/-! ### LOAD BALANCE (R55) -/

def State.loadRefusal (s : State) (n inventory : Nat) : Option Result :=
  firstFailure [
    (s.isBlank, .wrongState),
    (s.sts.state != .parked, .wrongState),
    (s.noShipper n || (s.accountOf n).state == .vacant, .noSuch),
    (decide (maxInventory < inventory), .badRange)]

/-- The effect of an accepted LOAD BALANCE. -/
def State.loadInventory (s : State) (n inventory : Nat) : State :=
  let a := s.accountOf n
  let d : Int := (inventory : Int) - (a.inventory : Int)
  let s1 := s.setAccount n { a with inventory := inventory }
  let s2 := { s1 with act := { s1.act with station := s1.act.station - d } }
  let s3 := if a.rights.space < inventory then s2.raise .shipperOverSpace n else s2
  s3.makeSnapshotDue

/-- LOAD BALANCE (R55). -/
def State.loadBalance (s : State) (n inventory : Nat) : Answer :=
  answerBy s (s.loadRefusal n inventory) (s.loadInventory n inventory, .ok) (fun s' =>
    [.u8 n, .u64 (s.accountOf n).inventory, .u64 (s'.accountOf n).inventory, .i64 s'.act.station])

/-! ### TRANSFER (R62, R63) -/

/-- The end of the next gas day (05 R71). -/
def State.nextDayEnd (s : State) : Nat :=
  if s.clk.gasDay = 65535 then 1572863 else s.clk.gasDay * 24 + 47

/-- An hour operand beyond every hour number (log 11). -/
def hourOutside (h : Nat) : Bool := decide (hourCount ≤ h)

def State.transferRefusal (s : State) (source target amount hour : Nat) : Option Result :=
  firstFailure [
    (s.isBlank, .wrongState),
    (!s.clk.valid, .wrongState),
    (s.noShipper source || s.noShipper target, .noSuch),
    (source == target, .badRange),
    (amount == 0 || decide (1000000000 < amount), .badRange),
    (!hourOutside hour && hourBefore hour s.currentHour, .tooLate),
    (hourOutside hour || hourAfter hour s.nextDayEnd, .badRange),
    ((s.accountOf source).state == .vacant || (s.accountOf target).state == .vacant, .noSuch),
    (decide (16 ≤ s.act.transfers.length), .storeFull)]

/-- How many entries stand before a transfer that is inserted: those up to the last one with an equal or earlier
effective hour (R62). Entries kept over a reset may lie half of all hours back, where a later entry stands before an
earlier one (01 R2), so the count does not end at the first later entry. -/
def entriesBefore (t : Transfer) : List Transfer → Nat
  | [] => 0
  | x :: xs => if (x :: xs).any (fun y => hourAtOrBefore y.hour t.hour) then entriesBefore t xs + 1 else 0

/-- Insert after every entry with an equal or earlier effective hour (R62). -/
def insertTransfer (t : Transfer) (list : List Transfer) : List Transfer :=
  list.take (entriesBefore t list) ++ t :: list.drop (entriesBefore t list)

/-- The position, from 1, at which a transfer is inserted (R63). -/
def insertPosition (t : Transfer) (list : List Transfer) : Nat := entriesBefore t list + 1

/-- TRANSFER (R63). -/
def State.requestTransfer (s : State) (source target amount hour : Nat) : Answer :=
  let t : Transfer := { source := source, target := target, amount := amount, hour := hour }
  match s.transferRefusal source target amount hour with
  | some r => { state := s, result := r, items := [.u8 0, .u8 s.act.transfers.length] }
  | none =>
    let list := insertTransfer t s.act.transfers
    { state := ({ s with act := { s.act with transfers := list } } : State).makeSnapshotDue
      result := .ok
      items := [.u8 (insertPosition t s.act.transfers), .u8 list.length] }

/-! ### ACCOUNT QUERY (R64) -/

def confItems (c : Confirmation) : List Item :=
  [.u32 c.hour, .u8 (dirLastCode c.dir), .u32 c.nominated, .u32 c.confirmed, .u8 (confCode c.state)]

/-- Every field of an allocation line in R60's order. R60 states no range for the use share; it takes 8 bytes as
the line's other quantities do: the model's choice (log 12). -/
def lineItems (l : AllocLine) : List Item :=
  [.u32 l.hour, .i64 l.confirmed, .i64 l.deviationShare, .u64 l.useShare, .i64 l.guardAdjustment,
   .i64 l.allocated, .i64 l.transferNet]

/-- The line of zeros (11 R172: an absent part is zero). -/
def AllocLine.zero : AllocLine := ⟨0, 0, 0, 0, 0, 0, 0⟩

def zeroConfItems : List Item := [.u32 0, .u8 0, .u32 0, .u32 0, .u8 0]

def transferItems (t : Transfer) : List Item := [.u8 t.source, .u8 t.target, .u32 t.amount, .u32 t.hour]

/-- Every field of the record of R47, in its order. -/
def accountItems (a : Account) : List Item :=
  .u8 (accountCode a.state) :: rightsItems a.rights ++
  [.u64 a.inventory, .i64 a.imbalance, .u8 (markCode a.saturated),
   .u32 a.injected.count, .u32 a.withdrawn.count, .u32 a.useCharged.count,
   .u16 a.injected.epoch, .u16 a.withdrawn.epoch, .u16 a.useCharged.epoch, .u16 a.overruns] ++
  optionalItems (a.current.map confItems) zeroConfItems ++
  optionalItems (a.next.map confItems) zeroConfItems ++
  optionalItems (a.line.map lineItems) (lineItems AllocLine.zero)

/-- The reply of shipper `n`'s account. -/
def State.accountReply (s : State) (n : Nat) : List Item :=
  accountItems (s.accountOf n) ++ [.u8 (s.act.transfers.filter (fun t => t.names n)).length]

/-- The saturated mark cleared by the clear option (R64). -/
def State.clearSaturated (s : State) (n : Nat) : State :=
  s.setAccount n { s.accountOf n with saturated := false }

/-- ACCOUNT QUERY (R64). -/
def State.accountQuery (s : State) (n : Nat) (clear : Bool) : Answer :=
  if n = 0 then
    { state := s, result := .ok, items := .i64 s.act.station :: listItems transferItems s.act.transfers }
  else if s.shippers < n then { state := s, result := .noSuch, items := s.accountReply n }
  else { state := if clear then s.clearSaturated n else s, result := .ok, items := s.accountReply n }

end Sys2Proof.Machine
end

