-- ==== Sys2Proof/Machine/Nominations.lean ====
section
/-! DEFINITION. The nomination store NST (05 R66 to R82): entries, the edit, the near-full warning,
retirement, and the requests NOMINATE and NOMINATION QUERY. -/

namespace Sys2Proof.Machine

/-! ### Entries (R68, R69) -/

/-- The last hour an entry covers. -/
def NomEntry.last (e : NomEntry) : Nat := hourAdd e.first (e.span - 1)

/-- An entry covers an hour. -/
def NomEntry.covers (e : NomEntry) (x : Nat) : Bool :=
  hourAtOrBefore e.first x && hourAtOrBefore x e.last

/-- The nomination of a partition for an hour: NONE is `none` (R69). -/
def Partition.nomination (p : Partition) (x : Nat) : Option (Dir × Nat) :=
  (p.entries.find? (fun e => e.covers x)).map (fun e => (e.dir, e.quantity))

/-! ### The edit (R72 to R74) -/

/-- What is left of an entry outside the edit span `a`..`z` (R72). -/
def NomEntry.cut (e : NomEntry) (a z : Nat) : List NomEntry :=
  if hourBefore e.last a || hourAfter e.first z then [e]
  else
    let head := if hourBefore e.first a then [{ e with span := hourDiff a e.first }] else []
    let tail :=
      if hourAfter e.last z then [{ e with first := hourAdd z 1, span := hourDiff e.last z }] else []
    head ++ tail

/-- Place an entry in ascending order of first hour (R73). -/
def insertEntry (e : NomEntry) : List NomEntry → List NomEntry
  | [] => [e]
  | x :: xs => if hourAfter x.first e.first then e :: x :: xs else x :: insertEntry e xs

/-- Two neighbours are joined: adjacent, with the same direction and quantity (R68, R74). -/
def NomEntry.joins (e f : NomEntry) : Bool :=
  hourAdd e.last 1 == f.first && e.dir == f.dir && e.quantity == f.quantity

/-- Join every pair of adjacent entries with equal fields (R74). -/
def joinEntries : List NomEntry → List NomEntry
  | [] => []
  | e :: rest =>
    match joinEntries rest with
    | [] => [e]
    | f :: fs => if e.joins f then { e with span := e.span + f.span } :: fs else e :: f :: fs

/-- The edited list: hours first..first + span - 1 carry the nomination, or none for quantity 0 (R72 to R74). -/
def editEntries (es : List NomEntry) (new : NomEntry) : List NomEntry :=
  let cut := es.flatMap (fun e => e.cut new.first new.last)
  joinEntries (if new.quantity = 0 then cut else insertEntry new cut)

/-! ### The near-full warning (R77) -/

/-- The warning level in entries. -/
def State.warnEntries (s : State) : Nat := (s.cfg.warnLevel * s.partitionSize + 99) / 100

/-- The check made when a partition's count may have changed from `before` (R77). -/
def State.checkWarning (s : State) (n before : Nat) : State :=
  let p := s.partition n
  let after := p.entries.length
  if !p.disarmed && decide (before < after) && decide (s.warnEntries ≤ after) then
    (s.setPartition n { p with disarmed := true }).raise .nomStoreNearFull n
  else if p.disarmed && decide (after < s.warnEntries) then s.setPartition n { p with disarmed := false }
  else s

/-! ### Retirement (R78) -/

/-- What is left of an entry when hours at or before `h` are retired. -/
def NomEntry.retire (e : NomEntry) (h : Nat) : List NomEntry :=
  if hourAtOrBefore e.last h then []
  else if hourAtOrBefore e.first h then [{ e with first := hourAdd h 1, span := hourDiff e.last h }]
  else [e]

/-- Retire hours at or before `h` from partition `n`, and check its warning. -/
def State.retirePartition (h : Nat) (s : State) (n : Nat) : State :=
  let p := s.partition n
  (s.setPartition n { p with entries := p.entries.flatMap (fun e => e.retire h) }).checkWarning n
    p.entries.length

/-- Retirement in every partition (R78). -/
def State.retireHours (s : State) (h : Nat) : State := s.forEach shipperNumbers (State.retirePartition h)

/-! ### NOMINATE (R70 to R76) -/

/-- The direction a code names (11 R182). -/
def dirOfCode (code : Nat) : Option Dir :=
  if code = 0 then some .inject else if code = 1 then some .withdraw else none

/-- The entry a NOMINATE carries; the direction of an erase is not used. -/
def nominated (first span direction quantity : Nat) : NomEntry :=
  { first := first, span := span, dir := (dirOfCode direction).getD .inject, quantity := quantity }

/-- The edited list of shipper `n` (R72 to R75). -/
def State.editedList (s : State) (n : Nat) (e : NomEntry) : List NomEntry :=
  editEntries (s.partition n).entries e

/-- An edit span reaches past the end of the next gas day, in hours counted from the current hour (R71,
log 11). -/
def State.pastNextDay (s : State) (first span : Nat) : Bool :=
  decide (hourDiff s.nextDayEnd s.currentHour < hourDiff first s.currentHour + (span - 1))

/-- The checks of NOMINATE in their order (R70). In hour index 22 of gas day 65,535 a lead of 1 lets the last hour
of that day pass, where R71 says that no first hour can: the model keeps to the checks (log 50). -/
def State.nominateRefusal (s : State) (n first span direction quantity : Nat) : Option Result :=
  let e := nominated first span direction quantity
  firstFailure [
    (s.isBlank, .wrongState),
    (!s.clk.valid, .wrongState),
    (s.noShipper n, .noSuch),
    (decide (1 < direction), .badRange),
    (span == 0 || decide (48 < span), .badRange),
    (decide (10000000 < quantity), .badRange),
    (!hourOutside first && hourBefore first (hourAdd s.currentHour s.cfg.lead), .tooLate),
    (hourOutside first || s.pastNextDay first span, .badRange),
    ((s.accountOf n).state == .vacant, .noSuch),
    (decide (s.partitionSize < (s.editedList n e).length), .storeFull)]

/-- The edit span includes the current or the next hour (R76). -/
def State.touchesPlan (s : State) (e : NomEntry) : Bool :=
  e.covers s.currentHour || e.covers (hourAdd s.currentHour 1)

/-- The effect of an accepted NOMINATE (R76). -/
def State.applyNomination (s : State) (n : Nat) (e : NomEntry) : State :=
  let p := s.partition n
  let s1 := (s.setPartition n { p with entries := s.editedList n e }).checkWarning n p.entries.length
  let s2 := if s.touchesPlan e then s1.makePlanDue else s1
  s2.makeSnapshotDue

/-- The reply's items: the shipper, the two counts, the size and the plan-due mark (R76). For a number that names no
partition the size is that of the mode in force: the model's choice (log 54). -/
def State.nominateItems (s : State) (n before after : Nat) (due : Bool) : List Item :=
  [.u8 n, .u8 before, .u8 after, .u8 s.partitionSize, .u8 (markCode due)]

/-- The entry count of partition `n`; 0 where the number names none. -/
def State.entryCount (s : State) (n : Nat) : Nat :=
  if s.noShipper n then 0 else (s.partition n).entries.length

/-- NOMINATE (R70). -/
def State.nominate (s : State) (n first span direction quantity : Nat) : Answer :=
  let e := nominated first span direction quantity
  let before := s.entryCount n
  match s.nominateRefusal n first span direction quantity with
  | some .storeFull =>
    { state := s, result := .storeFull,
      items := s.nominateItems n before (s.editedList n e).length false }
  | some r => { state := s, result := r, items := s.nominateItems n before before false }
  | none =>
    { state := s.applyNomination n e, result := .ok,
      items := s.nominateItems n before (s.editedList n e).length (s.touchesPlan e) }

/-! ### NOMINATION QUERY (R82) -/

def entryItems (e : NomEntry) : List Item :=
  [.u32 e.first, .u8 e.span, .u8 (dirCode e.dir), .u32 e.quantity]

/-- The reply's items for the entries returned. For a number that names no partition the size and the warning level
are those of the settings in force: the model's choice (log 54). -/
def State.nominationItems (s : State) (n : Nat) (es : List NomEntry) : List Item :=
  [.u8 n, .u8 (s.entryCount n), .u8 s.partitionSize, .u8 s.warnEntries,
   .u8 (markCode (s.partition n).disarmed), .u8 s.cfg.lead] ++ listItems entryItems es

/-- NOMINATION QUERY (R82). -/
def State.nominationQuery (s : State) (n first : Nat) : Answer :=
  match firstFailure [(s.noShipper n, .noSuch), (first == 0, .badRange)] with
  | some r => { state := s, result := r, items := s.nominationItems n [] }
  | none =>
    { state := s, result := .ok,
      items := s.nominationItems n (((s.partition n).entries.drop (first - 1)).take 16) }

end Sys2Proof.Machine
end

