-- ==== Sys2Proof/Machine/Plan.lean ====
section
/-! DEFINITION. The Plan Unit PLU (06 R86 to R101): the begin and the completion of a plan evaluation,
confirmations, curtailment, target rate, and PLAN QUERY. -/

namespace Sys2Proof.Machine

/-! ### Begin (R86, R87) -/

/-- What the evaluation takes of shipper `n` for hour `h`. -/
def State.evalShipper (s : State) (h n : Nat) : EvalShipper :=
  let a := s.accountOf n
  { state := a.state, rights := a.rights, inventory := a.inventory, current := a.current,
    nomNow := (s.partition n).nomination h, nomNext := (s.partition n).nomination (hourAdd h 1),
    writable := true }

/-- The figures of a begin (R87). -/
def State.gather (s : State) : Evaluation :=
  let h := s.currentHour
  { hour := h, sLeft := 3600 - s.clk.second % 3600, cv := s.calorific, eDone := s.mtu.done,
    station := s.sts.state, shippers := shipperNumbers.map (s.evalShipper h),
    cavernInject := s.cavernCapability .inject, cavernWithdraw := s.cavernCapability .withdraw,
    compression := s.compressionCapability, required := s.cdu.required, dryer := s.dryerCapability,
    record := s.plu.record }

/-! ### Confirmations (R88, R96) -/

/-- The confirmed quantity of the hour-start formulas (R88). -/
def EvalShipper.startQuantity (x : EvalShipper) (nom : Option (Dir × Nat)) : Nat :=
  match x.state, nom with
  | .active, some (.inject, q) => min q (min x.rights.injection (x.rights.space - x.inventory))
  | .active, some (.withdraw, q) => min q (min x.rights.withdrawal x.inventory)
  | _, _ => 0

/-- An hour-start confirmation, or a next-hour one (R88, R96). -/
def EvalShipper.startConf (x : EvalShipper) (hour : Nat) (nom : Option (Dir × Nat)) (st : ConfState) :
    Confirmation :=
  { hour := hour, dir := nom.map (·.1), nominated := (nom.map (·.2)).getD 0,
    confirmed := x.startQuantity nom, state := st }

/-- A confirmation of this hour kept, with the suspension reduction (R88). -/
def EvalShipper.keptConf (x : EvalShipper) (c : Confirmation) : Confirmation :=
  if x.state = .suspended ∧ 0 < c.confirmed then { c with confirmed := 0, state := .curtailed } else c

/-- The current-hour confirmation before curtailment; none for a VACANT account (R88). -/
def EvalShipper.currentConf (x : EvalShipper) (h : Nat) : Option Confirmation :=
  if x.state = .vacant then none
  else
    match x.current with
    | some c => some (if c.hour = h then x.keptConf c else x.startConf h x.nomNow .confirmed)
    | none => some (x.startConf h x.nomNow .confirmed)

/-- The PROVISIONAL next-hour confirmation (R96). -/
def EvalShipper.nextConf (x : EvalShipper) (h : Nat) : Option Confirmation :=
  if x.state = .vacant then none else some (x.startConf (hourAdd h 1) x.nomNext .provisional)

/-- The confirmed quantity of a confirmation in a direction. -/
def confQuantity (d : Dir) (c : Option Confirmation) : Nat :=
  match c with
  | some c => if c.dir = some d then c.confirmed else 0
  | none => 0

/-- N: the confirmed injections less the confirmed withdrawals (R90). -/
def netEnergy (cs : List (Option Confirmation)) : Int :=
  ((cs.map (confQuantity .inject)).sum : Int) - ((cs.map (confQuantity .withdraw)).sum : Int)

/-- The direction of a net energy; HOLD is `none` (R90). -/
def dirOf (n : Int) : Option Dir := if 0 < n then some .inject else if n < 0 then some .withdraw else none

/-! ### Capability (R91, R92) -/

/-- The cavern capability gathered for a direction. -/
def Evaluation.cavernCap (e : Evaluation) : Dir → Nat
  | .inject => e.cavernInject
  | .withdraw => e.cavernWithdraw

/-- The capability rate (R91). -/
def Evaluation.capability (e : Evaluation) (d : Option Dir) : Nat :=
  if e.station ≠ .running then 0
  else
    match d with
    | some .inject => min e.cavernInject e.compression
    | some .withdraw =>
      if e.required then min e.cavernWithdraw (min e.dryer e.compression) else min e.cavernWithdraw e.dryer
    | none => 0

/-- The compression-required mark recorded (R91). -/
def Evaluation.recordedMark (e : Evaluation) (d : Option Dir) : Bool :=
  match d with
  | some .inject => true
  | some .withdraw => e.required
  | none => false

/-- The limiting factor recorded (R92); `cut` says whether capability curtailment was needed. -/
def Evaluation.limiting (e : Evaluation) (d : Option Dir) (cut : Bool) : Limiting :=
  match d with
  | none => .none
  | some x =>
    if !cut then .none
    else if e.station ≠ .running then .stationState
    else
      let rate := e.capability d
      if e.cavernCap x = rate then .caverns
      else if e.recordedMark d && decide (e.compression = rate) then .compression
      else .drying

/-! ### Feasible energy and curtailment (R94), target rate (R95) -/

/-- E_d (R90). -/
def Evaluation.energyDone (e : Evaluation) (n : Int) : Nat := (signOf n * e.eDone).toNat

/-- F (R94). -/
def Evaluation.feasible (e : Evaluation) (n : Int) : Nat :=
  e.energyDone n + e.capability (dirOf n) * e.cv * e.sLeft / 12960000

/-- One confirmation cut by its share (R94). -/
def cutConf (c : Option Confirmation) (share : Nat) : Option Confirmation :=
  c.map (fun c => if 0 < share then { c with confirmed := c.confirmed - share, state := .curtailed } else c)

/-- The confirmations with `delta` divided over the net side (R94). -/
def curtail (d : Dir) (cs : List (Option Confirmation)) (delta : Nat) : List (Option Confirmation) :=
  let weights := cs.map (confQuantity d)
  List.zipWith cutConf cs (shareOutCapped delta weights weights).shares

/-- The target rate (R95). -/
def Evaluation.target (e : Evaluation) (n : Nat) (done cap : Nat) : Nat :=
  if n ≤ done then 0
  else min 2000000 (min cap (roundHalfUp ((n - done) * 12960000) (e.cv * e.sLeft)))

/-- What an evaluation forms: confirmations, ΔE and the record. -/
structure PlanResult where
  current : List (Option Confirmation)
  next : List (Option Confirmation)
  delta : Nat
  record : PlanRecord
  deriving DecidableEq, Repr

/-- The first evaluation of its hour (R87). -/
def Evaluation.first (e : Evaluation) : Bool := (e.record.map (·.hour)) != some e.hour

/-- The revision of the record formed (R97). -/
def Evaluation.revision (e : Evaluation) : Nat :=
  if e.first then 0 else satAdd 255 ((e.record.map (·.revision)).getD 0) 1

/-- The curtailed total of the record formed, held in 0..160,000,000 (R94, R97). -/
def Evaluation.curtailedTotal (e : Evaluation) (delta : Nat) : Nat :=
  satAdd 160000000 (if e.first then 0 else (e.record.map (·.curtailed)).getD 0) delta

/-- The evaluation worked out from its figures (R88 to R96). -/
def Evaluation.work (e : Evaluation) : PlanResult :=
  let cs := e.shippers.map (·.currentConf e.hour)
  let n := netEnergy cs
  let d := dirOf n
  let delta := n.natAbs - e.feasible n
  let left := n.natAbs - delta
  let n' := signOf n * (left : Int)
  let cap := e.capability d
  let done := e.energyDone n
  { current :=
      match d with
      | some x => curtail x cs delta
      | none => cs
    next := e.shippers.map (·.nextConf e.hour)
    delta := delta
    record :=
      { hour := e.hour, revision := e.revision, dir := dirOf n', net := n',
        target := e.target left done cap, capability := cap,
        cavernCap := (d.map e.cavernCap).getD 0, compressionCap := if d.isSome then e.compression else 0,
        dryerCap := if d.isSome then e.dryer else 0, required := e.recordedMark d,
        limiting := e.limiting d (decide (0 < delta)), curtailed := e.curtailedTotal delta, eDone := done,
        sLeft := e.sLeft } }

/-! ### Completion (R97 to R99) -/

/-- Every field of the plan record, in its order (R83). -/
def planItems (r : PlanRecord) : List Item :=
  [.u32 r.hour, .u8 r.revision, .u8 (dirLastCode r.dir), .i64 r.net, .u32 r.target, .u32 r.capability,
   .u32 r.cavernCap, .u32 r.compressionCap, .u32 r.dryerCap, .u8 (markCode r.required),
   .u8 (limitingCode r.limiting), .u32 r.curtailed, .u64 r.eDone, .u16 r.sLeft]

/-- The fields of an absent record: zeros. -/
def zeroPlanItems : List Item :=
  [.u32 0, .u8 0, .u8 0, .i64 0, .u32 0, .u32 0, .u32 0, .u32 0, .u32 0, .u8 0, .u8 0, .u32 0, .u64 0, .u16 0]

/-- The PLAN report (R97). -/
def planReport (r : PlanRecord) : Record := { kind := kindPlan, tag := 0, fields := planItems r }

/-- Write one shipper's confirmations: an account that became VACANT in flight gets no write (R97). -/
def writeConf (x : EvalShipper) (p : Option Confirmation × Option Confirmation) (a : Account) : Account :=
  if a.state ≠ .vacant ∧ x.writable then
    { a with current := p.1.orElse (fun _ => a.current), next := p.2.orElse (fun _ => a.next) }
  else a

/-- The account table with the confirmations written (R97). -/
def writeConfs : List EvalShipper → List (Option Confirmation) → List (Option Confirmation) → List Account →
    List Account
  | x :: xs, c :: cs, n :: ns, a :: as => writeConf x (c, n) a :: writeConfs xs cs ns as
  | _, _, _, as => as

/-- A completion whose hour is still current (R97), before the plant blocks act. -/
def State.applyPlan (s : State) (e : Evaluation) : State :=
  let r := e.work
  let s1 := { s with
    act := { s.act with accounts := writeConfs e.shippers r.current r.next s.act.accounts }
    plu := { s.plu with record := some r.record } }
  let s2 := if 0 < r.delta then s1.raise .curtailment 0 else s1
  let s3 := s2.offerReport (planReport r.record)
  { s3 with plu := { s3.plu with eval := none } }

/-- A completion that is discarded (R99). -/
def State.discardPlan (s : State) : State := { s with plu := { s.plu with eval := none, due := true } }

/-- CVC, CDU and DRC take a completion that is not discarded (R97, 07 R119, 08 R131, 09 R147), in this order,
which is the model's choice (log 40). -/
def State.planTaken (s : State) : State := (s.splitFlow.evaluateDuty).trainsPlan

/-- The completion of the evaluation in flight (R97, R99). -/
def State.completePlan (s : State) : State :=
  match s.plu.eval with
  | none => s
  | some e => if e.hour = s.currentHour then (s.applyPlan e).planTaken else s.discardPlan

/-! ### PLAN QUERY (R101) -/

def State.planQuery (s : State) : Answer :=
  { state := s, result := .ok,
    items := optionalItems (s.plu.record.map planItems) zeroPlanItems ++
             [.u8 (markCode s.plu.due), .u8 (markCode s.plu.eval.isSome)] }

end Sys2Proof.Machine
end

