-- ==== Sys2Proof/Machine/HourClose.lean ====
section
/-! DEFINITION. The Hour Close Unit HCU (10 R157 to R170): the begin of a close, the seven steps of the
allocation, the completion, the hour-close record and ALLOCATION QUERY. -/

namespace Sys2Proof.Machine

/-! ### Begin (R158) -/

/-- What the close takes of shipper `n`; `none` where it is not included. -/
def State.closeShipper (s : State) (n : Nat) : Option CloseShipper :=
  let a := s.accountOf n
  if a.state = .vacant then none
  else some { state := a.state, inventory := a.inventory, confirmation := a.current, space := a.rights.space }

/-- The figures of a begin (R158). -/
def State.closeFigures (s : State) (hand : HandOver) : CloseFigures :=
  { hand := hand, shippers := shipperNumbers.map s.closeShipper, transfers := s.act.transfers,
    tolerance := s.cfg.tolerance, first := s.hcu.firstClose }

/-! ### Step 1: transfers (R161) -/

/-- A transfer is due at the close of `h` (04 R62). -/
def Transfer.due (t : Transfer) (h : Nat) : Bool := hourAtOrBefore t.hour h

/-- Add to the `n`th figure. -/
def bump (l : List Int) (n : Nat) (x : Int) : List Int := setNth l n ((nth l n).getD 0 + x)

/-- Working inventories, transfer nets, and the sources of failed entries. -/
structure TransferWork where
  inventories : List Nat
  nets : List Int
  failed : List Nat
  deriving DecidableEq, Repr

/-- One due entry applied or failed. -/
def TransferWork.apply (w : TransferWork) (t : Transfer) : TransferWork :=
  let src := (nth w.inventories t.source).getD 0
  let tgt := (nth w.inventories t.target).getD 0
  if t.amount ≤ src ∧ tgt + t.amount ≤ maxInventory then
    let inv1 := setNth w.inventories t.source (src - t.amount)
    { w with inventories := setNth inv1 t.target ((nth inv1 t.target).getD 0 + t.amount),
             nets := bump (bump w.nets t.source (-(t.amount : Int))) t.target (t.amount : Int) }
  else { w with failed := w.failed ++ [t.source] }

/-- The first step of the allocation (R161). -/
def CloseFigures.transferWork (f : CloseFigures) : TransferWork :=
  (f.transfers.filter (fun t => t.due f.hand.hour)).foldl TransferWork.apply
    { inventories := f.shippers.map (fun x => (x.map (·.inventory)).getD 0),
      nets := f.shippers.map (fun _ => 0), failed := [] }

/-! ### Steps 2 to 5: confirmations, deviation, station use, guard (R162 to R165) -/

/-- The confirmation a close uses: of another hour, or absent, it is NONE with 0 (R162). -/
def CloseShipper.direction (x : CloseShipper) (h : Nat) : Option Dir :=
  match x.confirmation with
  | some c => if c.hour = h then c.dir else none
  | none => none

/-- The confirmed quantity a close uses (R162). -/
def CloseShipper.quantity (x : CloseShipper) (h : Nat) : Nat :=
  match x.confirmation with
  | some c => if c.hour = h ∧ c.dir.isSome then c.confirmed else 0
  | none => 0

/-- The base allocation, +CI or -CW (R162). -/
def CloseShipper.base (x : CloseShipper) (h : Nat) : Int :=
  match x.direction h with
  | some .inject => (x.quantity h : Int)
  | some .withdraw => -(x.quantity h : Int)
  | none => 0

/-- A figure of every included shipper, 0 for every other. -/
def CloseFigures.figures (f : CloseFigures) (g : CloseShipper → Int) : List Int :=
  f.shippers.map (fun x => (x.map g).getD 0)

/-- M (R158). -/
def CloseFigures.metered (f : CloseFigures) : Int := (f.hand.injection : Int) - (f.hand.withdrawal : Int)

/-- N (R162). -/
def CloseFigures.net (f : CloseFigures) : Int := (f.figures (fun x => x.base f.hand.hour)).sum

/-- The deviation side (R163). -/
def deviationSide (n m : Int) : Dir :=
  if 0 < n then .inject else if n < 0 then .withdraw else if 0 < m then .inject else .withdraw

/-- The weights of the deviation (R163). -/
def CloseFigures.deviationWeights (f : CloseFigures) (side : Dir) : List Nat :=
  f.shippers.map (fun x =>
    match x with
    | some x => if x.state = .active ∧ x.direction f.hand.hour = some side then x.quantity f.hand.hour else 0
    | none => 0)

/-- |D| divided over the side within the tolerance (R163). -/
def CloseFigures.deviationShares (f : CloseFigures) (d : Int) (side : Dir) : Shares :=
  let weights := f.deviationWeights side
  shareOutCapped d.natAbs weights (weights.map (fun w => w * f.tolerance / 100))

/-- The weights of the station use: ACTIVE shippers whose allocation has the sign of M (R164). -/
def CloseFigures.useWeights (f : CloseFigures) (m : Int) (alloc : List Int) : List Nat :=
  List.zipWith (fun x a =>
    match x with
    | some (x : CloseShipper) => if x.state = .active ∧ m ≠ 0 ∧ signOf a = signOf m then a.natAbs else 0
    | none => 0) f.shippers alloc

/-- What the guard leaves of one shipper. -/
structure Guarded where
  alloc : Int
  use : Nat
  adjustment : Int
  overrun : Bool
  inventory : Nat
  deriving DecidableEq, Repr

/-- The guard (R165), for working inventory `x`, allocation `a` and use share `u`. -/
def guard (x : Nat) (a : Int) (u : Nat) : Guarded :=
  let new : Int := (x : Int) + a - (u : Int)
  if new < 0 then
    let lack := new.natAbs
    if lack ≤ u then { alloc := a, use := u - lack, adjustment := lack, overrun := true, inventory := 0 }
    else { alloc := a + ((lack - u : Nat) : Int), use := 0, adjustment := lack, overrun := true, inventory := 0 }
  else if (maxInventory : Int) < new then
    let excess := (new - (maxInventory : Int)).natAbs
    { alloc := a - (excess : Int), use := u, adjustment := -(excess : Int), overrun := false,
      inventory := maxInventory }
  else { alloc := a, use := u, adjustment := 0, overrun := false, inventory := new.toNat }

/-! ### The allocation as a whole -/

/-- What the close forms for one included shipper. -/
structure ShipperResult where
  line : AllocLine
  overrun : Bool
  inventory : Nat
  space : Nat
  deriving DecidableEq, Repr

/-- What the close forms. -/
structure CloseResult where
  shippers : List (Option ShipperResult)
  failed : List Nat
  caverns : List (Option CavernLine)
  record : CloseRecord
  deriving DecidableEq, Repr

/-- One shipper's line, its guard applied (R165, R168). -/
def shipperResult (h : Nat) (x : CloseShipper) (inv : Nat) (net dev : Int) (use : Nat) : ShipperResult :=
  let g := guard inv (x.base h + dev) use
  { line := { hour := h, confirmed := x.base h, deviationShare := dev, useShare := g.use,
              guardAdjustment := g.adjustment, allocated := g.alloc, transferNet := net },
    overrun := g.overrun, inventory := g.inventory, space := x.space }

/-- The lines of every shipper, in number order. -/
def shipperResults (h : Nat) : List (Option CloseShipper) → List Nat → List Int → List Int → List Nat →
    List (Option ShipperResult)
  | x :: xs, i :: is, n :: ns, d :: ds, u :: us =>
    x.map (fun x => shipperResult h x i n d u) :: shipperResults h xs is ns ds us
  | _, _, _, _, _ => []

/-- The net hour volume of a cavern (R167). -/
def netVolume (v : Nat × Nat) : Int := (v.1 : Int) - (v.2 : Int)

/-- The position of the balancing cavern: the lowest-numbered configured one (R167). -/
def balancing (vs : List (Option (Nat × Nat))) : Option Nat := vs.findIdx? (·.isSome)

/-- The seventh step: C placed in the caverns (R167). -/
def placeCaverns (c : Int) (vs : List (Option (Nat × Nat))) : List (Option CavernLine) :=
  let weights := vs.map (fun v =>
    match v with
    | some v => if signOf (netVolume v) = signOf c then (netVolume v).natAbs else 0
    | none => 0)
  let sh := shareOut c.natAbs weights
  let line (i : Nat) (v : Option (Nat × Nat)) : Option CavernLine :=
    v.map (fun v =>
      let bal := balancing vs == some i
      { volume := netVolume v,
        posting := signOf c * ((sh.shares.getD i 0 + (if bal then sh.residue else 0) : Nat) : Int),
        balancing := bal })
  (List.range vs.length).map (fun i => line i (vs.getD i none))

/-- The allocation of a closed hour, step by step (R161 to R167, R169). -/
def CloseFigures.allocate (f : CloseFigures) : CloseResult :=
  let h := f.hand.hour
  let tw := f.transferWork
  let m := f.metered
  let n := f.net
  let d := m - n
  let ds := f.deviationShares d (deviationSide n m)
  let devs := ds.shares.map (fun s => signOf d * (s : Int))
  let alloc := List.zipWith (· + ·) (f.figures (fun x => x.base h)) devs
  let uses := (shareOut f.hand.use (f.useWeights m alloc)).shares
  let rs := shipperResults h f.shippers tw.inventories tw.nets devs uses
  let guardTotal := (rs.map (fun r => (r.map (·.line.guardAdjustment)).getD 0)).sum
  let placed := (rs.map (fun r => (r.map (fun r => r.line.allocated - (r.line.useShare : Int))).getD 0)).sum
  let c := m - (f.hand.use : Int)
  let change := (if f.hand.volumes.any (·.isSome) then c else 0) - placed
  let caverns := placeCaverns c f.hand.volumes
  { shippers := rs, failed := tw.failed, caverns := caverns
    record :=
      { hour := h, first := f.first, hand := f.hand, net := n, deviation := d,
        residue := signOf d * (ds.residue : Int), guardTotal := guardTotal, stationChange := change,
        shippers := rs.map (fun r => r.map (·.line)), caverns := caverns } }

/-! ### Completion (R168, 04 R61) -/

/-- One account after its posting; the Bool says whether its imbalance saturated (04 R56 to R61). -/
def Account.post (a : Account) (r : ShipperResult) : Account × Bool :=
  let l := r.line
  let (a1, sat) := a.moveImbalance (l.allocated - l.confirmed)
  ({ a1 with
      inventory := ((a.inventory : Int) + l.transferNet + l.allocated - (l.useShare : Int)).toNat
      injected := if 0 < l.allocated then a.injected.grow l.allocated.natAbs else a.injected
      withdrawn := if l.allocated < 0 then a.withdrawn.grow l.allocated.natAbs else a.withdrawn
      useCharged := a.useCharged.grow l.useShare
      overruns := if r.overrun then satAdd 65535 a.overruns 1 else a.overruns
      line := some l }, sat)

/-- Shipper `n`'s posting, with its alert (04 R61, R56). -/
def postShipper (rs : List (Option ShipperResult)) (s : State) (n : Nat) : State :=
  match (nth rs n).join with
  | some r =>
    let (a, sat) := (s.accountOf n).post r
    let s1 := s.setAccount n a
    if sat then s1.raise .imbalanceSaturated n else s1
  | none => s

/-- Cavern `j`'s posting (07 R122). -/
def postCavern (ls : List (Option CavernLine)) (s : State) (j : Nat) : State :=
  match (nth ls j).join with
  | some l => s.modCavern j (fun c => { c with booked := c.booked + l.posting })
  | none => s

/-- Raise SHIPPER_OVERRUN where the guard stopped an overrun (R165). -/
def raiseOverrun (rs : List (Option ShipperResult)) (s : State) (n : Nat) : State :=
  match (nth rs n).join with
  | some r => if r.overrun then s.raise .shipperOverrun n else s
  | none => s

/-- Raise SHIPPER_OVER_SPACE where an inventory is left above its space right (R165). -/
def raiseOverSpace (rs : List (Option ShipperResult)) (s : State) (n : Nat) : State :=
  match (nth rs n).join with
  | some r => if r.space < r.inventory then s.raise .shipperOverSpace n else s
  | none => s

/-- The header of a record (R169). -/
def headerItems (r : CloseRecord) : List Item :=
  [.u32 r.hour, .u8 (markCode r.first), .u8 (markCode (decide (0 < r.hand.estimated))),
   .u8 (markCode (decide (0 < r.hand.cvDefault))), .u64 r.hand.injection, .u64 r.hand.withdrawal,
   .i64 ((r.hand.injection : Int) - (r.hand.withdrawal : Int)), .u64 r.hand.fuel, .u64 r.hand.regen,
   .u64 r.hand.use, .i64 r.net, .i64 r.deviation, .i64 r.residue, .i64 r.guardTotal, .i64 r.stationChange,
   .u16 r.hand.estimated, .u16 r.hand.cvDefault]

/-- The header of an absent record: zeros. -/
def zeroHeaderItems : List Item :=
  [.u32 0, .u8 0, .u8 0, .u8 0, .u64 0, .u64 0, .i64 0, .u64 0, .u64 0, .u64 0, .i64 0, .i64 0, .i64 0,
   .i64 0, .i64 0, .u16 0, .u16 0]

/-- The HOUR CLOSE report (R170). -/
def closeReport (r : CloseRecord) : Record := { kind := kindHourClose, tag := 0, fields := headerItems r }

/-- The postings to ACT and CVC (R168). -/
def State.postClose (s : State) (f : CloseFigures) (r : CloseResult) : State :=
  let s1 := s.forEach shipperNumbers (postShipper r.shippers)
  let s2 := { s1 with act := { s1.act with
    station := s1.act.station + r.record.stationChange
    transfers := s1.act.transfers.filter (fun t => !t.due f.hand.hour) } }
  s2.forEach cavernNumbers (postCavern r.caverns)

/-- The record, the last closed hour and the first-close mark (R168). -/
def State.recordClose (s : State) (r : CloseRecord) : State :=
  { s with hcu := { s.hcu with record := some r, lastClosed := some r.hour, firstClose := false } }

/-- The alerts of R161, R165 and R169 (log 19). -/
def State.raiseClose (s : State) (r : CloseResult) : State :=
  let s1 := r.failed.foldl (fun s n => s.raise .transferFailed n) s
  let s2 := s1.forEach shipperNumbers (raiseOverrun r.shippers)
  let s3 := s2.forEach shipperNumbers (raiseOverSpace r.shippers)
  if 0 < r.record.hand.estimated then s3.raise .estimatedHour 0 else s3

/-- What NST, PLU and SNS do at a completion, once the mark is cleared (R168). The closing hour goes with the
figures of the close: the model's choice (log 43). -/
def State.endClose (s : State) (h : Nat) : State :=
  ((({ s with hcu := { s.hcu with close := none } } : State).retireHours h).makePlanDue).makeSnapshotDue

/-- The completion of the close in flight (R168). -/
def State.completeClose (s : State) : State :=
  match s.hcu.close with
  | none => s
  | some f =>
    let r := f.allocate
    ((((s.postClose f r).recordClose r.record).raiseClose r).offerReport (closeReport r.record)).endClose
      f.hand.hour

/-! ### ALLOCATION QUERY (04 R65) -/

/-- A shipper's line with its included mark. -/
def shipperLineItems (l : Option AllocLine) : List Item :=
  optionalItems (l.map lineItems) (lineItems AllocLine.zero)

def cavernLineItems (l : Option CavernLine) : List Item :=
  optionalItems (l.map (fun l => [.i64 l.volume, .i64 l.posting, .u8 (markCode l.balancing)]))
    [.i64 0, .i64 0, .u8 0]

/-- The line of a selector: NONE 0, SHIPPER 1, CAVERN 2. It is read from the record whatever the result: of a SHIPPER
number that a later partition mode left above P, which is refused NO_SUCH, the recorded line is sent: the model's
choice (log 53). -/
def selectorItems (r : Option CloseRecord) (selector number : Nat) : List Item :=
  if selector = 1 then shipperLineItems ((r.bind (fun r => nth r.shippers number)).join)
  else if selector = 2 then cavernLineItems ((r.bind (fun r => nth r.caverns number)).join)
  else []

/-- The result of a code, where it is one; the free result of log 10 may be any of the nine. -/
def resultOfCode (n : Nat) : Result :=
  match n % 9 with
  | 0 => .ok
  | 1 => .clamped
  | 2 => .badForm
  | 3 => .badRange
  | 4 => .noSuch
  | 5 => .notIdle
  | 6 => .tooLate
  | 7 => .storeFull
  | _ => .wrongState

/-- The result of ALLOCATION QUERY; for a selector code outside the three it is free (log 10). -/
def State.allocationResult (s : State) (selector number : Nat) : Result :=
  if s.hcu.record.isNone then .noSuch
  else if selector = 0 then .ok
  else if selector = 1 then (if s.noShipper number then .noSuch else .ok)
  else if selector = 2 then (if number = 0 ∨ 8 < number then .noSuch else .ok)
  else resultOfCode (Config.selectorResult selector)

/-- ALLOCATION QUERY (04 R65). -/
def State.allocationQuery (s : State) (selector number : Nat) : Answer :=
  let header := match s.hcu.record with
    | some r => headerItems r
    | none => zeroHeaderItems
  { state := s, result := s.allocationResult selector number,
    items := header ++ selectorItems s.hcu.record selector number }

end Sys2Proof.Machine
end

