-- ==== Sys2Proof/Machine/Snapshot.lean ====
section
/-! DEFINITION. The Snapshot Store SNS (01 R14 to R18): the copy a write takes, the completion of a write,
and what a restore or a blank start brings. -/

namespace Sys2Proof.Machine

def snapCavern (c : Cavern) : SnapCavern :=
  { config := c.config, state := c.state, booked := c.booked, lastDir := c.lastDir, reversals := c.reversals }

def snapUnit (u : Compressor) : SnapUnit :=
  { config := u.config, state := u.state, runSeconds := u.runSeconds, trips := u.trips }

def snapTrain (r : Train) : SnapTrain :=
  { config := r.config, state := r.state, bedA := r.bedA, bedB := r.bedB }

/-- Every item of the snapshot as it stands (list of 01, section "The snapshot"). -/
def State.snapshot (s : State) : Snapshot :=
  { settings := s.cfg, act := s.act, entries := s.nst.map (·.entries),
    caverns := s.cvc.map (·.map snapCavern), units := s.cdu.units.map (·.map snapUnit),
    trains := s.drc.trains.map (·.map snapTrain), enabled := s.als.map (·.enabled),
    lastClosed := s.hcu.lastClosed, gasDay := s.clk.gasDay }

/-- The begin of a write (R16). -/
def State.beginWrite (s : State) : State :=
  { s with sns := { state := .writing, due := false, content := none, copy := some s.snapshot } }

/-- The completion of the write in flight (R16). -/
def State.completeWrite (s : State) (verifyPasses : Bool) : State :=
  if s.sns.state = .writing then
    if verifyPasses then
      { s with sns := { s.sns with state := .valid, content := s.sns.copy, copy := none } }
    else
      ({ s with sns := { s.sns with state := .invalid, content := none, copy := none } } : State).raise
        .storeFault 0
  else s

/-! ### Restored records (table of R17) -/

def restoredCavernState : CavernState → CavernState
  | .injecting => .idle
  | .withdrawing => .idle
  | .settling => .idle
  | .offline => .offline
  | .idle => .idle
  | .fault => .fault

def restoreCavern (c : SnapCavern) : Cavern :=
  { config := c.config, state := restoredCavernState c.state, lastDir := c.lastDir, reversals := c.reversals,
    settle := none, disagreement := 0, full := false, empty := false, rampDisarmed := false, setPoint := 0,
    refInject := 0, refWithdraw := 0, capInject := 0, capWithdraw := 0, volInject := 0, volWithdraw := 0,
    qInject := 0, qWithdraw := 0, booked := c.booked, ring := [], faultDue := false }

def restoredUnitState : UnitState → UnitState
  | .unavailable => .unavailable
  | .lockedOut => .lockedOut
  | .ready => .ready
  | .resting => .ready
  | .starting => .ready
  | .running => .ready
  | .stopping => .ready
  | .tripped => .ready

def restoreUnit (u : SnapUnit) : Compressor :=
  { config := u.config, state := restoredUnitState u.state, runSeconds := u.runSeconds, startList := [],
    minRun := none, minStop := none, timeout := none, trips := u.trips, load := 0 }

def restoredTrainState : TrainState → TrainState
  | .offline => .offline
  | .standby => .standby
  | .online => .standby
  | .offspec => .standby

def restoreBed (x : BedRecord) : BedRecord :=
  match x.state with
  | .heating => { x with state := .spent }
  | .cooling => { x with state := .spent }
  | .adsorbing => x
  | .spent => x
  | .ready => x

/-- A restored train; its condition is formed from the restored beds, and raises no alert (09 R144, log 21). -/
def restoreTrain (r : SnapTrain) : Train :=
  let base : Train :=
    { config := r.config, state := restoredTrainState r.state, bedA := restoreBed r.bedA,
      bedB := restoreBed r.bedB, remainder := 0, cooling := none, aboveSpec := 0, inSpec := 0,
      condition := .normal, lastRegen := none, planCap := 0 }
  { base with condition := base.formCondition,
              planCap := planningCapacity base.config base.state base.formCondition }

/-- The heater queue rebuilt from the SPENT beds (R17). -/
def spentBeds : Nat → List (Option Train) → List (Nat × Bed)
  | _, [] => []
  | t, r :: rest =>
    (match r with
     | some r =>
       (if r.bedA.state = .spent then [(t, Bed.a)] else []) ++ (if r.bedB.state = .spent then [(t, Bed.b)] else [])
     | none => []) ++ spentBeds (t + 1) rest

/-- The restored state, before any trip entry at the release (R17). -/
def restored (s : State) (c : Snapshot) : State :=
  let trains := c.trains.map (·.map restoreTrain)
  { s with
    clk := { s.clk with gasDay := c.gasDay }
    sts := { s.sts with state := .parked }
    cfg := c.settings
    act := c.act
    nst := c.entries.map (fun es => { entries := es, disarmed := false })
    plu := { s.plu with due := true }
    cvc := c.caverns.map (·.map restoreCavern)
    cdu := { s.cdu with units := c.units.map (·.map restoreUnit) }
    drc := { s.drc with trains := trains, queue := spentBeds 1 trains }
    hcu := { s.hcu with lastClosed := c.lastClosed }
    als := c.enabled.map AlertRecord.clear
    slk := { s.slk with statusCountdown := c.settings.statusInterval } }

end Sys2Proof.Machine
end

