-- ==== Sys2Proof/Machine/Station.lean ====
section
/-! DEFINITION. Station time and station states (01 R1 to R13): the clock, SET CLOCK, CONFIGURE STATION,
STATION COMMAND with the trip entry, and STATION STATUS. -/

namespace Sys2Proof.Machine

/-! ### The clock (R1, R2) -/

/-- CLK's second event: the counts advance, and the minute event and the hour boundary it brings become due
(R1, R2). -/
def Clock.tickSecond (c : Clock) : Clock :=
  let station := (c.stationSeconds + 1) % 2 ^ 32
  if c.valid then
    let wraps := decide (86399 ≤ c.second)
    let second := if wraps then 0 else c.second + 1
    { c with stationSeconds := station, second := second,
             gasDay := if wraps then (c.gasDay + 1) % 65536 else c.gasDay,
             minuteDue := second % 60 == 0, boundaryDue := second % 3600 == 0 }
  else { c with stationSeconds := station, minuteDue := station % 60 == 0, boundaryDue := false }

/-- CLK's second event. -/
def State.clockSecond (s : State) : State := { s with clk := s.clk.tickSecond }

/-- The gas-day rollover as CVC and CDU take it (R2). -/
def State.gasDayRollover (s : State) : State := s.cavernRollover.unitRollover

/-! ### SET CLOCK (R3, R4) -/

/-- The checks of a SET CLOCK while the clock is invalid (R3). -/
def State.setRefusal (s : State) (gasDay second : Nat) : Option Result :=
  firstFailure [
    (decide (86399 < second), .badRange),
    ((match s.hcu.lastClosed with
      | some h => hourAtOrBefore (hourOf gasDay second) h
      | none => false), .badRange)]

/-- The acceptance of a SET CLOCK while the clock is invalid (R3, 05 R80). -/
def State.acceptClock (s : State) (gasDay second : Nat) : State :=
  let s1 := { s with clk := { s.clk with valid := true, gasDay := gasDay, second := second, trimSum := 0 } }
  let s2 := ((s1.retireHours (hourPred (hourOf gasDay second))).makePlanDue).makeSnapshotDue
  if gasDay = s.clk.gasDay then s2 else s2.gasDayRollover

/-- The change a trim makes, in seconds (R4). -/
def State.trimChange (s : State) (gasDay second : Nat) : Int :=
  ((gasDay * 86400 + second : Nat) : Int) - ((s.clk.gasDay * 86400 + s.clk.second : Nat) : Int)

/-- A trim is refused in four cases (R4). -/
def State.trimRefusal (s : State) (gasDay second : Nat) : Option Result :=
  let change := s.trimChange gasDay second
  firstFailure [
    (decide (86399 < second), .badRange),
    (decide (120 < change.natAbs), .badRange),
    (hourOf gasDay second != s.currentHour, .badRange),
    (decide (120 < (s.clk.trimSum + change).natAbs), .badRange)]

/-- A trim (R4). -/
def State.trimClock (s : State) (gasDay second : Nat) : State :=
  { s with clk := { s.clk with second := second, trimSum := s.clk.trimSum + s.trimChange gasDay second } }

/-- SET CLOCK (R3, R4). Its reply carries the result alone. -/
def State.setClock (s : State) (gasDay second : Nat) : Answer :=
  if s.clk.valid then
    answerBy s (s.trimRefusal gasDay second) (s.trimClock gasDay second, .ok) (fun _ => [])
  else answerBy s (s.setRefusal gasDay second) (s.acceptClock gasDay second, .ok) (fun _ => [])

/-! ### The trip entry (R9, R10) -/

/-- The safe orders of an entry to PARKED or TRIPPED, in actuator order, each written and sent whether or not
the entry held it: SHUT, STOP and OFFLINE (R8, R10). A valve entry that changes restarts its watch (log 18). -/
def State.safeOrders (s : State) : State :=
  let s1 := s.forEach cavernNumbers (fun s j =>
    let changed := s.valveOrder j != .shut
    let s' := s.writeOrder (valveActuator j) (.valve .shut)
    if changed then s'.modCavern j (fun c => { c with disagreement := 0 }) else s')
  let s2 := s1.forEach unitNumbers (fun s k => s.writeOrder (runActuator k) (.run .stop))
  s2.forEach trainNumbers (fun s t =>
    let (_, bed, st) := s.trainOrder t
    s.writeOrder (trainActuator t) (.train .offline bed st))

def State.setStation (s : State) (st : StationState) : State := { s with sts := { s.sts with state := st } }

/-- The entry to TRIPPED (R10). R10 lists the abort but not the train states, which come last (log 49). -/
def State.tripEntry (s : State) : State :=
  let s1 := ((s.setStation .tripped).safeOrders).writeOrder isolationActuator (.isolation .isolate)
  let s2 := (s1.makePlanDue.abortHeating).raise .stationTrip 0
  ((s2.cavernsStop).unitsStop).trainsStop

/-- The effect of a TRIP_N assertion, or of the TRIP command (R9). -/
def State.tripAsserted (s : State) : State :=
  match s.sts.state with
  | .parked => s.tripEntry
  | .running => s.tripEntry
  | .tripped => s.raise .stationTrip 0
  | .blank => s.raise .stationTrip 0

/-! ### STATION COMMAND (R7 to R11) -/

/-- The checks of STATION COMMAND; actions are START 0, PARK 1, TRIP 2, RESUME 3. -/
def State.commandRefusal (s : State) (action : Nat) : Option Result :=
  firstFailure [
    (s.isBlank, .wrongState),
    (decide (3 < action), .badRange),
    (action == 0 && !(s.sts.state == .parked && s.clk.valid && s.cvc.any (·.isSome)), .wrongState),
    (action == 1 && s.sts.state != .running, .wrongState),
    (action == 3 && !(s.sts.state == .tripped && !s.sts.tripActive), .wrongState)]

/-- START (R7). -/
def State.start (s : State) : State :=
  let s1 := (s.setStation .running).makePlanDue
  (s1.writeOrderIfNew isolationActuator (.isolation .open)).cavernsStart

/-- PARK (R8). R8 gives no order among CVC, CDU and DRC at this entry; CVC first, then CDU, then DRC is the
model's choice (log 49). -/
def State.park (s : State) : State :=
  let s1 := ((s.setStation .parked).safeOrders).makePlanDue
  ((s1.cavernsStop).unitsStop).trainsStop

/-- RESUME (R11, 09 R152). The blocks take the entry to PARKED in the order of `State.park` (log 49). -/
def State.resume (s : State) : State :=
  ((s.setStation .parked).makePlanDue.cavernsStop.unitsStop.trainsStop).serveHeater

/-- The effect of an accepted STATION COMMAND. -/
def State.command (s : State) (action : Nat) : State :=
  if action = 0 then s.start else if action = 1 then s.park
  else if action = 2 then s.tripAsserted else s.resume

/-- STATION COMMAND (R7). Its reply carries the result alone. -/
def State.stationCommand (s : State) (action : Nat) : Answer :=
  answerBy s (s.commandRefusal action) (s.command action, .ok) (fun _ => [])

/-! ### CONFIGURE STATION (R5, R6, 05 R67) -/

/-- Every partition is empty and every shipper account is VACANT (05 R67). -/
def State.noShippers (s : State) : Bool :=
  s.nst.all (·.entries.isEmpty) && s.act.accounts.all (fun a => a.state == .vacant)

def State.settingsRefusal (s : State) (f : Settings) : Option Result :=
  firstFailure [
    (decide (2 < f.mode), .badRange),
    (f.mode != s.cfg.mode && !(s.isBlank || s.noShippers), .notIdle)]

/-- The settings take effect, every warning mark is ARMED, and the status countdown is set (05 R67, 11 R180). -/
def State.applySettings (s : State) (f : Settings) : State :=
  { s with cfg := appliedSettings f
           nst := s.nst.map (fun p => { p with disarmed := false })
           slk := { s.slk with statusCountdown := appliedInterval f.statusInterval } }

/-- A station configured from BLANK enters PARKED, or TRIPPED while the pin is active (R5). -/
def State.leaveBlank (s : State) : State :=
  if s.isBlank then
    if s.sts.tripActive then s.tripEntry else (s.setStation .parked).makePlanDue
  else s

/-- The effect of an accepted CONFIGURE STATION (R5, R6, 02 R22). The regrade, with its deliveries and alerts,
comes before the entry to PARKED or TRIPPED: the model's choice (log 39). -/
def State.acceptSettings (s : State) (f : Settings) : State :=
  (((s.applySettings f).regradePoints s.cfg.limits).leaveBlank).makeSnapshotDue

def limitItems (l : Limit) : List Item := [.u16 l.fresh, .u16 l.hold]

/-- The settings in their order (R6). -/
def settingsItems (f : Settings) : List Item :=
  [.u8 f.mode, .u8 f.lead, .u8 f.warnLevel, .u16 f.defaultCv, .u16 f.gridMargin, .u8 f.tolerance,
   .u16 f.statusInterval] ++
  limitItems f.limits.meter ++ limitItems f.limits.cv ++ limitItems f.limits.pressure ++
  limitItems f.limits.flow ++ limitItems f.limits.feedback ++ limitItems f.limits.water

/-- CONFIGURE STATION (R6). -/
def State.configureStation (s : State) (f : Settings) : Answer :=
  answerBy s (s.settingsRefusal f) (s.acceptSettings f, acceptedResult (appliedSettings f != f)) (fun s =>
    .u8 (stationCode s.sts.state) :: settingsItems s.cfg)

/-! ### STATION STATUS (R13) -/

/-- The items of R13, and last the plan-due mark that 06 R84 has this reply show (log 38). ACTIVE and VALID
are the first of their pairs in the table, and the clock-valid mark is a mark (log 13). -/
def State.statusItems (s : State) : List Item :=
  [.u8 (stationCode s.sts.state), .u8 (if s.sts.tripActive then 0 else 1), .u8 (markCode s.clk.valid),
   .u16 s.clk.gasDay, .u32 s.clk.second] ++
  optionalNumber .u32 (if s.clk.valid then some s.currentHour else none) ++
  [.u32 s.clk.stationSeconds] ++ optionalNumber .u32 s.hcu.lastClosed ++
  [.u8 (snapCode s.sns.state), .u8 (markCode s.sns.due), .u8 (markCode s.hcu.close.isSome),
   .u8 (markCode s.plu.eval.isSome), .u8 (markCode s.plu.due)]

/-- STATION STATUS (R13). -/
def State.stationStatus (s : State) : Answer := { state := s, result := .ok, items := s.statusItems }

/-! ### The release of reset (R17, R18) -/

/-- The line speed the straps select, BSEL1 then BSEL0 (00_scope.md 1.4). -/
def lineSpeedOf (bsel1 bsel0 : Bool) : Nat :=
  if bsel1 then (if bsel0 then 230400 else 115200) else (if bsel0 then 57600 else 19200)

/-- The state just after a release, before what the store brings: every volatile item at its value of R18,
the store and the queue of commands kept. -/
def State.released (s : State) (tripActive bsel1 bsel0 : Bool) : State :=
  { State.reset with
      sts := { State.reset.sts with tripActive := tripActive }
      slk := { State.reset.slk with lineSpeed := lineSpeedOf bsel1 bsel0 }
      sns := s.sns
      pending := s.pending }

/-- The store as read at a release: a VALID content that disagrees with its CRC-32 reads as INVALID (R14). -/
def Store.read (x : Store) (crcAgrees : Bool) : Store :=
  match x.state with
  | .empty => { state := .empty, due := false, content := none, copy := none }
  | .valid =>
    if crcAgrees then { x with due := false, copy := none }
    else { state := .invalid, due := false, content := none, copy := none }
  | .writing => { state := .invalid, due := false, content := none, copy := none }
  | .invalid => { state := .invalid, due := false, content := none, copy := none }

/-- Power comes up, or RESET_N is released (R17, R18). -/
def State.release (s : State) (crcAgrees tripActive bsel1 bsel0 : Bool) : State :=
  let store := s.sns.read crcAgrees
  let s0 := { s.released tripActive bsel1 bsel0 with sns := store }
  match store.state, store.content with
  | .valid, some c =>
    let s1 := restored s0 c
    (if tripActive then s1.tripEntry else s1).serveHeater
  | st, _ =>
    let s1 := if st = .invalid then s0.raise .storeFault 0 else s0
    if tripActive then s1.raise .stationTrip 0 else s1

/-- RESET_N is asserted, or power is lost: a write in flight is cut off, and the part is held with nothing
volatile kept (R14, R160, log 7). -/
def State.assertReset (s : State) : State :=
  { State.reset with
      sts := { State.reset.sts with inReset := true }
      sns := s.sns.read true
      pending := s.pending }

end Sys2Proof.Machine
end

