-- ==== Sys2Proof/Machine/CavernRequests.lean ====
section
/-! DEFINITION. The requests of CVC: CONFIGURE CAVERN, CAVERN MODE and CAVERN QUERY (07 R103 to R105, R115,
R124). -/

namespace Sys2Proof.Machine

/-- A cavern number that names none. -/
def noCavern (j : Nat) : Bool := j == 0 || decide (8 < j)

/-- A configuration of zeros, read of an unconfigured position. -/
def CavernConfig.zero : CavernConfig := ⟨0, 0, 0, 0, 0, 0, 0, 0, 0⟩

def cavernConfigItems (c : CavernConfig) : List Item :=
  [.u16 c.pressureMin, .u16 c.pressureMax, .u16 c.warnMargin, .u16 c.maxRamp, .u32 c.injectionLimit,
   .u32 c.withdrawalLimit, .u16 c.settleTime, .u8 c.maxReversals, .u16 c.travelTime]

/-- The record of a newly configured cavern (R103). -/
def newCavern (config : CavernConfig) : Cavern :=
  { config := config, state := .offline, lastDir := none, reversals := 0, settle := none, disagreement := 0,
    full := false, empty := false, rampDisarmed := false, setPoint := 0, refInject := 0, refWithdraw := 0,
    capInject := 0, capWithdraw := 0, volInject := 0, volWithdraw := 0, qInject := 0, qWithdraw := 0,
    booked := 0, ring := [], faultDue := false }

/-! ### CONFIGURE CAVERN (R103 to R105) -/

/-- The configuration as applied to cavern `j` as it stands (R104). -/
def State.cavernApplied (s : State) (j : Nat) (f : CavernConfig) : CavernConfig :=
  appliedCavern f (((s.cavern j).map (·.reversals)).getD 0)

/-- The checks of CONFIGURE CAVERN, in order; actions are CONFIGURE 0, DECONFIGURE 1; inventory actions KEEP
0, SET 1 (R103). -/
def State.cavernRefusal (s : State) (j action : Nat) (f : CavernConfig) (invAction : Nat) (value : Int) :
    Option Result :=
  let c := s.cavern j
  let offline := c.any (fun c => c.state == .offline)
  let a := s.cavernApplied j f
  firstFailure [
    (s.isBlank, .wrongState),
    (noCavern j, .noSuch),
    (decide (1 < action) || decide (1 < invAction), .badRange),
    (action == 1 && c.isNone, .noSuch),
    (action == 1 && !(offline && c.any (fun c => c.booked == 0)), .notIdle),
    (action == 0 && c.isSome && !offline, .notIdle),
    (action == 0 && !decide (a.pressureMin < a.pressureMax), .badRange),
    (action == 0 && invAction == 1 && s.sts.state != .parked, .wrongState),
    (action == 0 && invAction == 1 && decide (maxInventory < value.natAbs), .badRange)]

/-- CONFIGURE, accepted: the record, then the inventory action (R103, R105). A configured cavern keeps every other
item, its ring too, although R106 has the ring empty after configuration: the model's choice (log 56). -/
def State.applyCavern (s : State) (j : Nat) (f : CavernConfig) (invAction : Nat) (value : Int) : State :=
  let a := s.cavernApplied j f
  let c : Cavern := match s.cavern j with
    | some c => { c with config := a }
    | none => newCavern a
  if invAction = 1 then
    let s1 := s.setCavern j (some { c with booked := value })
    { s1 with act := { s1.act with station := s1.act.station + (value - c.booked) } }.cavernsChanged
  else (s.setCavern j (some c)).cavernsChanged

/-- DECONFIGURE, accepted (R105). -/
def State.dropCavern (s : State) (j : Nat) : State :=
  ((s.setCavern j none).clearPoints [flowPoint j, pressurePoint j, valvePoint j]).cavernsChanged

def State.cavernAction (s : State) (j action : Nat) (f : CavernConfig) (invAction : Nat) (value : Int) :
    State × Result :=
  if action = 0 then
    ((s.applyCavern j f invAction value).makeSnapshotDue, acceptedResult (s.cavernApplied j f != f))
  else ((s.dropCavern j).makeSnapshotDue, .ok)

/-- The reply's items. An unconfigured position reads as zeros (R103), after a refusal and after an accepted
DECONFIGURE alike: the model's choice (log 35). -/
def State.cavernConfigReply (s : State) (j : Nat) : List Item :=
  match s.cavern j with
  | some c => [.u8 j, .u8 1, .u8 (cavernCode c.state)] ++ cavernConfigItems c.config ++ [.i64 c.booked]
  | none => [.u8 j, .u8 0, .u8 0] ++ cavernConfigItems CavernConfig.zero ++ [.i64 0]

/-- CONFIGURE CAVERN (R103). -/
def State.configureCavern (s : State) (j action : Nat) (f : CavernConfig) (invAction : Nat) (value : Int) :
    Answer :=
  answerBy s (s.cavernRefusal j action f invAction value) (s.cavernAction j action f invAction value)
    (fun s => s.cavernConfigReply j)

/-! ### CAVERN MODE (R115, R111) -/

/-- The valve shows SHUT, as IN_SERVICE asks. -/
def State.valveShowsShut (s : State) (j : Nat) : Bool := (s.point (valvePoint j)).shows 0

/-- The checks of CAVERN MODE; actions are IN_SERVICE 0, OUT_OF_SERVICE 1, ABANDON_SETTLE 2. -/
def State.cavernModeRefusal (s : State) (j action : Nat) : Option Result :=
  let c := s.cavern j
  firstFailure [
    (s.isBlank, .wrongState),
    (c.isNone, .noSuch),
    (decide (2 < action), .badRange),
    (action == 0 && c.any (fun c => c.state == .offline || c.state == .fault) && !s.valveShowsShut j, .notIdle),
    (action == 2 && !c.any (fun c => c.state == .settling), .notIdle)]

/-- IN_SERVICE, accepted: an OFFLINE or FAULT cavern enters IDLE, and its valve watch starts. -/
def State.cavernInService (s : State) (j : Nat) : State :=
  match s.cavern j with
  | some c =>
    if c.state = .offline ∨ c.state = .fault then
      (s.setCavern j (some { c with state := .idle, disagreement := 0, faultDue := false })).makePlanDue.cavernsChanged
    else s
  | none => s

/-- OUT_OF_SERVICE, accepted: shut order, settle timer stopped, OFFLINE. -/
def State.cavernOutOfService (s : State) (j : Nat) : State :=
  match s.cavern j with
  | some c =>
    if c.state = .offline then s
    else
      ((s.shutCavern j).modCavern j (fun c =>
        { c with state := .offline, settle := none, faultDue := false })).makePlanDue.cavernsChanged
  | none => s

/-- ABANDON_SETTLE, accepted: IDLE at once, the reversal count left as it stands (R111). -/
def State.abandonSettle (s : State) (j : Nat) : State :=
  match s.cavern j with
  | some c =>
    if c.state = .settling then
      (s.setCavern j (some { c with state := .idle, settle := none })).makePlanDue.cavernsChanged
    else s
  | none => s

def State.cavernModeAction (s : State) (j action : Nat) : State :=
  (if action = 0 then s.cavernInService j
   else if action = 1 then s.cavernOutOfService j
   else s.abandonSettle j).makeSnapshotDue

/-- An optional point value and quality in a reply. -/
def shownItems (p : Option Point) : List Item :=
  optionalItems (p.map (fun p => [.u8 p.value, .u8 (qualityCode p.quality)])) [.u8 0, .u8 0]

/-- CAVERN MODE (R115). -/
def State.cavernMode (s : State) (j action : Nat) : Answer :=
  let items (s : State) (shown : Option Point) : List Item :=
    [.u8 j, .u8 (((s.cavern j).map (fun c => cavernCode c.state)).getD 0)] ++ shownItems shown
  match s.cavernModeRefusal j action with
  | some r =>
    { state := s, result := r,
      items := items s (if r = .notIdle ∧ action = 0 then some (s.point (valvePoint j)) else none) }
  | none =>
    let s' := s.cavernModeAction j action
    { state := s', result := .ok, items := items s' none }

/-! ### CAVERN QUERY (R124) -/

/-- The items of R124 for a configured cavern; the last is the settle timer of R102 given again (log 28). No range
is stated for the ramp, the reference caps and the present caps, which take 2, 4 and 4 bytes: the model's choice
(log 12). -/
def cavernItems (c : Cavern) : List Item :=
  .u8 1 :: cavernConfigItems c.config ++
  [.u8 (cavernCode c.state), .u8 (dirFirstCode c.lastDir), .u8 c.reversals] ++
  optionalNumber .u16 c.settle ++
  [.u16 c.disagreement, .u8 (markCode c.full), .u8 (markCode c.empty), .u8 (markCode c.rampDisarmed),
   .u32 c.setPoint, .u32 c.refInject, .u32 c.refWithdraw, .u32 c.volInject, .u32 c.volWithdraw,
   .u16 c.qInject, .u16 c.qWithdraw, .i64 c.booked, .u16 (rampOf c.ring), .u32 c.capInject,
   .u32 c.capWithdraw, .u8 (presentEntries 0 c.ring).length] ++
  optionalNumber .u16 c.settle

/-- An unconfigured position: every item 0, NONE or clear (R124). -/
def zeroCavernItems : List Item :=
  .u8 0 :: cavernConfigItems CavernConfig.zero ++
  [.u8 0, .u8 0, .u8 0] ++ optionalNumber .u16 none ++
  [.u16 0, .u8 0, .u8 0, .u8 0, .u32 0, .u32 0, .u32 0, .u32 0, .u32 0, .u16 0, .u16 0, .i64 0, .u16 0,
   .u32 0, .u32 0, .u8 0] ++ optionalNumber .u16 none

/-- CAVERN QUERY (R124). -/
def State.cavernQuery (s : State) (j : Nat) : Answer :=
  { state := s, result := if noCavern j then .noSuch else .ok,
    items := match s.cavern j with
      | some c => cavernItems c
      | none => zeroCavernItems }

end Sys2Proof.Machine
end

