-- ==== Sys2Proof/Machine/UnitRequests.lean ====
section
/-! DEFINITION. The requests of CDU: CONFIGURE UNIT, UNIT MODE and UNIT QUERY (08 R126, R127, R141, R143). -/

namespace Sys2Proof.Machine

/-- A unit number that names none. -/
def noUnit (k : Nat) : Bool := k == 0 || decide (6 < k)

def UnitConfig.zero : UnitConfig := ⟨0, 0, 0, 0, 0, 0, 0, 0⟩

def unitConfigItems (c : UnitConfig) : List Item :=
  [.u32 c.capacity, .u32 c.minFlow, .u8 c.startsPerHour, .u16 c.minRun, .u16 c.minStop, .u16 c.startTimeout,
   .u8 c.tripLimit, .u8 c.stopBand]

/-! ### CONFIGURE UNIT (R126, R127) -/

/-- The configuration held, or the defaults of a new unit, with the length of the start list. -/
def State.unitHeld (s : State) (k : Nat) : UnitConfig × Nat :=
  match s.unit k with
  | some u => (u.config, u.startList.length)
  | none => (unitDefaults, 0)

/-- The configuration as applied to unit `k` as it stands (R127). -/
def State.unitApplied (s : State) (k : Nat) (f : UnitFields) : UnitConfig :=
  appliedUnit (s.unitHeld k).1 (s.unitHeld k).2 f

/-- The checks of CONFIGURE UNIT, in order; actions are CONFIGURE 0, DECONFIGURE 1. -/
def State.unitRefusal (s : State) (k action : Nat) (f : UnitFields) : Option Result :=
  let u := s.unit k
  firstFailure [
    (s.isBlank, .wrongState),
    (noUnit k, .noSuch),
    (decide (1 < action), .badRange),
    (action == 1 && u.isNone, .noSuch),
    (u.any (fun u => u.state != .unavailable), .notIdle),
    (action == 0 && u.isNone && f.capacity.isNone, .badRange)]

/-- CONFIGURE, accepted (R126). -/
def State.applyUnit (s : State) (k : Nat) (f : UnitFields) : State :=
  let c := s.unitApplied k f
  s.setUnit k (some (match s.unit k with
    | some u => { u with config := c }
    | none =>
      { config := c, state := .unavailable, runSeconds := 0, startList := [], minRun := none, minStop := none,
        timeout := none, trips := 0, load := 0 }))

/-- DECONFIGURE, accepted (R126). -/
def State.dropUnit (s : State) (k : Nat) : State := (s.setUnit k none).clearPoints [feedbackPoint k]

def State.unitAction (s : State) (k action : Nat) (f : UnitFields) : State × Result :=
  if action = 0 then
    ((s.applyUnit k f).makeSnapshotDue, acceptedResult (unitClamped f (s.unitApplied k f)))
  else ((s.dropUnit k).makeSnapshotDue, .ok)

/-- CONFIGURE UNIT (R126). After an accepted DECONFIGURE the state and the eight fields of the reply are zeros: the
model's choice (log 35). -/
def State.configureUnit (s : State) (k action : Nat) (f : UnitFields) : Answer :=
  answerBy s (s.unitRefusal k action f) (s.unitAction k action f) (fun s =>
    match s.unit k with
    | some u => [.u8 k, .u8 1, .u8 (unitCode u.state)] ++ unitConfigItems u.config
    | none => [.u8 k, .u8 0, .u8 0] ++ unitConfigItems UnitConfig.zero)

/-! ### UNIT MODE (R141) -/

/-- The table of R141: whether an action is refused NOT_IDLE in a state, the feedback showing STOPPED or not.
Actions are AVAILABLE 0, UNAVAILABLE 1, RELEASE 2. -/
def unitModeRefused (action : Nat) (st : UnitState) (stopped : Bool) : Bool :=
  if action = 0 then
    match st with
    | .unavailable => !stopped
    | .lockedOut => true
    | .ready => false
    | .resting => false
    | .starting => false
    | .running => false
    | .stopping => false
    | .tripped => false
  else if action = 1 then
    match st with
    | .starting => true
    | .running => true
    | .lockedOut => true
    | .unavailable => false
    | .ready => false
    | .resting => false
    | .stopping => false
    | .tripped => false
  else
    match st with
    | .lockedOut => !stopped
    | .unavailable => true
    | .ready => true
    | .resting => true
    | .starting => true
    | .running => true
    | .stopping => true
    | .tripped => true

def State.unitModeRefusal (s : State) (k action : Nat) : Option Result :=
  let u := s.unit k
  firstFailure [
    (s.isBlank, .wrongState),
    (u.isNone, .noSuch),
    (decide (2 < action), .badRange),
    (u.any (fun u => unitModeRefused action u.state (s.showsStopped k)), .notIdle)]

/-- AVAILABLE, accepted: RESTING while the min-stop countdown runs or the list is full, else READY. -/
def State.unitAvailable (s : State) (k : Nat) : State :=
  match s.unit k with
  | some u =>
    if u.state = .unavailable then
      let rest := u.minStop.isSome || decide (u.config.startsPerHour ≤ u.startList.length)
      dutyAfter (s.changeUnit k u { u with state := if rest then .resting else .ready }, 1)
    else s
  | none => s

/-- UNAVAILABLE, accepted: the timeout countdown stops; the min-stop countdown and the list go on. -/
def State.unitUnavailable (s : State) (k : Nat) : State :=
  match s.unit k with
  | some u =>
    if u.state = .unavailable then s
    else dutyAfter (s.changeUnit k u { u with state := .unavailable, timeout := none, load := 0 }, 1)
  | none => s

/-- RELEASE, accepted: RESTING with the trip count 0 and the min-stop countdown set. -/
def State.unitRelease (s : State) (k : Nat) : State :=
  match s.unit k with
  | some u => if u.state = .lockedOut then dutyAfter (s.enterResting k { u with trips := 0 }) else s
  | none => s

def State.unitModeAction (s : State) (k action : Nat) : State :=
  (if action = 0 then s.unitAvailable k
   else if action = 1 then s.unitUnavailable k
   else s.unitRelease k).makeSnapshotDue

/-- UNIT MODE (R141). -/
def State.unitMode (s : State) (k action : Nat) : Answer :=
  let items (s : State) (shown : Option Point) : List Item :=
    [.u8 k, .u8 (((s.unit k).map (fun u => unitCode u.state)).getD 0)] ++ shownItems shown
  match s.unitModeRefusal k action with
  | some r =>
    { state := s, result := r,
      items := items s (if r = .notIdle ∧ action ≠ 1 then some (s.point (feedbackPoint k)) else none) }
  | none =>
    let s' := s.unitModeAction k action
    { state := s', result := .ok, items := items s' none }

/-! ### UNIT QUERY (R143) -/

/-- The items of a configured unit, each start-list entry given as its age. Of the two order entries the values
stand alone: the model's choice (log 51). -/
def unitItems (now : Nat) (u : Compressor) (p : Point) (run : Run) (load : Nat) : List Item :=
  .u8 1 :: unitConfigItems u.config ++ [.u8 (unitCode u.state), .u32 u.runSeconds] ++
  listItems (fun e => [.u16 (startAge now e)]) u.startList ++
  optionalNumber .u16 u.minRun ++ optionalNumber .u16 u.minStop ++ optionalNumber .u16 u.timeout ++
  [.u8 u.trips, .u32 u.load, .u8 p.value, .u8 (qualityCode p.quality), .u8 (runCode run), .u32 load]

/-- An unconfigured unit: every item 0, empty or clear. -/
def zeroUnitItems : List Item :=
  .u8 0 :: unitConfigItems UnitConfig.zero ++ [.u8 0, .u32 0, .u8 0] ++
  optionalNumber .u16 none ++ optionalNumber .u16 none ++ optionalNumber .u16 none ++
  [.u8 0, .u32 0, .u8 0, .u8 0, .u8 0, .u32 0]

/-- UNIT QUERY (R143). -/
def State.unitQuery (s : State) (k : Nat) : Answer :=
  { state := s, result := if noUnit k then .noSuch else .ok,
    items :=
      (match s.unit k with
       | some u => unitItems s.clk.stationSeconds u (s.point (feedbackPoint k)) (s.runOrder k) (s.loadOrder k)
       | none => zeroUnitItems) ++
      [.u32 s.compressionCapability, .u8 (markCode s.cdu.required), .u16 s.cfg.gridMargin] }

end Sys2Proof.Machine
end

