-- ==== Sys2Proof/Machine/TrainRequests.lean ====
section
/-! DEFINITION. The requests of DRC: CONFIGURE TRAIN, TRAIN MODE and TRAIN QUERY (09 R145, R146, R155, R156). -/

namespace Sys2Proof.Machine

/-- A train number that names none. -/
def noTrain (t : Nat) : Bool := t == 0 || decide (2 < t)

def TrainConfig.zero : TrainConfig := ⟨0, 0, 0, 0, 0, 0, 0, 0, 0, 0⟩

def trainConfigItems (c : TrainConfig) : List Item :=
  [.u32 c.capacity, .u16 c.bedCapacity, .u8 c.switchPoint, .u8 c.derate, .u16 c.heatingTime, .u16 c.coolingTime,
   .u16 c.regenRate, .u16 c.outletSpec, .u16 c.designInlet, .u16 c.offspecDelay]

/-! ### CONFIGURE TRAIN (R145, R146) -/

/-- The configuration as applied to train `t` as it stands (R146). -/
def State.trainApplied (s : State) (t : Nat) (f : TrainFields) : TrainConfig :=
  appliedTrain (((s.train t).map (·.config)).getD trainDefaults) f

/-- A bed that is being regenerated or waits for it. -/
def BedState.inRegeneration : BedState → Bool
  | .spent => true
  | .heating => true
  | .cooling => true
  | .adsorbing => false
  | .ready => false

/-- The checks of CONFIGURE TRAIN, in order; actions are CONFIGURE 0, DECONFIGURE 1. -/
def State.trainRefusal (s : State) (t action : Nat) (f : TrainFields) : Option Result :=
  let r := s.train t
  firstFailure [
    (s.isBlank, .wrongState),
    (noTrain t, .noSuch),
    (decide (1 < action), .badRange),
    (action == 1 && r.isNone, .noSuch),
    (r.any (fun r => r.state != .offline), .notIdle),
    (action == 1 && r.any (fun r => r.bedA.state.inRegeneration || r.bedB.state.inRegeneration), .notIdle),
    (action == 0 && r.isNone && (f.capacity.isNone || f.bedCapacity.isNone || f.regenRate.isNone), .badRange)]

/-- The record of a newly configured train (R145). -/
def newTrain (c : TrainConfig) : Train :=
  { config := c, state := .offline, bedA := ⟨.adsorbing, 0⟩, bedB := ⟨.ready, 0⟩, remainder := 0,
    cooling := none, aboveSpec := 0, inSpec := 0, condition := .normal, lastRegen := none, planCap := 0 }

/-- A configured train with its fields replaced: a loading above the new capacity is cut to it (R145). -/
def Train.reconfigure (r : Train) (c : TrainConfig) : Train :=
  { r with config := c,
           bedA := { r.bedA with loading := min c.bedLimit r.bedA.loading },
           bedB := { r.bedB with loading := min c.bedLimit r.bedB.loading } }

/-- CONFIGURE, accepted: the condition is formed again, and then the switch test made (R145, R149). So a loading
cut to the new capacity raises TRAIN_BREAKTHROUGH also where the READY bed is then taken: the order of the two is
the model's choice (log 47). -/
def State.applyTrain (s : State) (t : Nat) (f : TrainFields) : State :=
  let c := s.trainApplied t f
  let r := match s.train t with
    | some r => r.reconfigure c
    | none => newTrain c
  ((s.setTrain t (some r)).formTrain t).switchTest t

/-- DECONFIGURE, accepted: the order entry returns to bed in line A and step NONE (R145). -/
def State.dropTrain (s : State) (t : Nat) : State :=
  (((s.setTrain t none).clearPoints [trainFlowPoint t, inletPoint t, outletPoint t]).writeTrainBed t
    .a).writeTrainStep t .none

def State.trainAction (s : State) (t action : Nat) (f : TrainFields) : State × Result :=
  if action = 0 then
    ((s.applyTrain t f).makeSnapshotDue, acceptedResult (trainClamped f (s.trainApplied t f)))
  else ((s.dropTrain t).makeSnapshotDue, .ok)

/-- CONFIGURE TRAIN (R145). After an accepted DECONFIGURE the state and the ten fields of the reply are zeros: the
model's choice (log 35). -/
def State.configureTrain (s : State) (t action : Nat) (f : TrainFields) : Answer :=
  answerBy s (s.trainRefusal t action f) (s.trainAction t action f) (fun s =>
    match s.train t with
    | some r => [.u8 t, .u8 1, .u8 (trainCode r.state)] ++ trainConfigItems r.config
    | none => [.u8 t, .u8 0, .u8 0] ++ trainConfigItems TrainConfig.zero)

/-! ### TRAIN MODE (R155) -/

/-- The bed that is not in line is READY. -/
def Train.otherReady (r : Train) : Bool := (r.bed (otherBed r.inLine)).state == .ready

/-- The checks of TRAIN MODE; actions are IN_SERVICE 0, OUT_OF_SERVICE 1, SWITCH_BEDS 2. -/
def State.trainModeRefusal (s : State) (t action : Nat) : Option Result :=
  let r := s.train t
  firstFailure [
    (s.isBlank, .wrongState),
    (r.isNone, .noSuch),
    (decide (2 < action), .badRange),
    (action == 2 && !r.any Train.otherReady, .notIdle)]

/-- IN_SERVICE, accepted: OFFLINE becomes STANDBY. -/
def State.trainInService (s : State) (t : Nat) : State :=
  match s.train t with
  | some r => if r.state = .offline then (s.changeTrain t r .standby).decideMode t else s
  | none => s

/-- OUT_OF_SERVICE, accepted: OFFLINE, both off-spec counts 0. -/
def State.trainOutOfService (s : State) (t : Nat) : State :=
  match s.train t with
  | some r => if r.state = .offline then s else (s.changeTrain t r .offline).decideMode t
  | none => s

/-- SWITCH_BEDS, accepted: the beds switch whatever the loading. -/
def State.trainSwitch (s : State) (t : Nat) : State :=
  match s.train t with
  | some r => if r.otherReady then s.switchBeds t r else s
  | none => s

def State.trainModeAction (s : State) (t action : Nat) : State :=
  (if action = 0 then s.trainInService t
   else if action = 1 then s.trainOutOfService t
   else s.trainSwitch t).makeSnapshotDue

/-- TRAIN MODE (R155). -/
def State.trainMode (s : State) (t action : Nat) : Answer :=
  answerBy s (s.trainModeRefusal t action) (s.trainModeAction t action, .ok) (fun s =>
    match s.train t with
    | some r => [.u8 t, .u8 (trainCode r.state), .u8 (bedStateCode r.bedA.state), .u8 (bedStateCode r.bedB.state)]
    | none => [.u8 t, .u8 0, .u8 0, .u8 0])

/-! ### TRAIN QUERY (R156) -/

/-- The position of a bed in the heater queue, its head at 1: R156 does not say from what it is counted, and this
is the model's choice (log 48). -/
def State.queuePosition (s : State) (t : Nat) (bed : Bed) : Option Nat :=
  (s.drc.queue.findIdx? (fun x => x == (t, bed))).map (· + 1)

/-- One of the train's beds is HEATING. -/
def State.trainHeats (s : State) (t : Nat) : Bool := s.drc.heating.any (fun x => x.1 == t)

/-- A loading as a whole percentage of bed capacity, rounded down. -/
def loadingPercent (c : TrainConfig) (loading : Nat) : Nat := loading * 100 / c.bedLimit

/-- A last regeneration. R144 states no range for its volume, which takes 4 bytes: the model's choice (log 12). -/
def lastRegenItems (l : LastRegen) : List Item := [.u8 (bedCode l.bed), .u32 l.volume, .u8 (outcomeCode l.outcome)]

/-- The order entry of a train as R156 has it shown: the four value bytes of 11 R182, without the second and the
unsent mark that R176 gives an entry: the model's choice (log 51). -/
def trainEntryItems (x : TrainMode × Bed × RegenStep) : List Item :=
  [.u8 (modeCode x.1), .u8 (bedCode x.2.1), .u8 (stepCode x.2.2), .u8 (stepBedCode x.2.2)]

/-- The items of a configured train. That both percentages stand after the last regeneration is the model's choice
(log 51), as is the width of a number with no stated range: the volumes and the planning capacity (log 12). -/
def State.trainItems (s : State) (t : Nat) (r : Train) : List Item :=
  .u8 1 :: trainConfigItems r.config ++
  [.u8 (trainCode r.state), .u8 (bedStateCode r.bedA.state), .u8 (bedStateCode r.bedB.state),
   .u64 r.bedA.loading, .u64 r.bedB.loading, .u16 r.remainder] ++
  optionalNumber .u16 r.cooling ++ [.u16 r.aboveSpec, .u16 r.inSpec, .u8 (conditionCode r.condition)] ++
  optionalItems (r.lastRegen.map lastRegenItems) [.u8 0, .u32 0, .u8 0] ++
  [.u8 (loadingPercent r.config r.bedA.loading), .u8 (loadingPercent r.config r.bedB.loading), .u32 r.planCap] ++
  trainEntryItems (s.trainOrder t) ++
  optionalNumber .u8 (s.queuePosition t .a) ++ optionalNumber .u8 (s.queuePosition t .b) ++
  optionalItems (if s.trainHeats t then some [.u16 (s.drc.heatingTimer.getD 0), .u32 s.drc.volume] else none)
    [.u16 0, .u32 0]

/-- An unconfigured train: every item 0, absent or clear. -/
def zeroTrainItems : List Item :=
  .u8 0 :: trainConfigItems TrainConfig.zero ++
  [.u8 0, .u8 0, .u8 0, .u64 0, .u64 0, .u16 0] ++ optionalNumber .u16 none ++ [.u16 0, .u16 0, .u8 0] ++
  optionalItems none [.u8 0, .u32 0, .u8 0] ++ [.u8 0, .u8 0, .u32 0, .u8 0, .u8 0, .u8 0, .u8 0] ++
  optionalNumber .u8 none ++ optionalNumber .u8 none ++ optionalItems none [.u16 0, .u32 0]

/-- TRAIN QUERY (R156). 'The HEATING bed, or none' is sent as a present mark, the train's number and the bed's code:
the model's choice (log 51). -/
def State.trainQuery (s : State) (t : Nat) : Answer :=
  { state := s, result := if noTrain t then .noSuch else .ok,
    items :=
      (match s.train t with
       | some r => s.trainItems t r
       | none => zeroTrainItems) ++
      [.u32 s.dryerCapability] ++
      optionalItems (s.drc.heating.map (fun x => [.u8 x.1, .u8 (bedCode x.2)])) [.u8 0, .u8 0] ++
      [.u8 s.drc.queue.length] }

end Sys2Proof.Machine
end

