-- ==== Sys2Proof/Machine/LinkRequests.lean ====
section
/-! DEFINITION. Requests and reports of SMT, ORI, ALS and SLK: SAMPLE and POINT QUERY (02 R26 to R31), ORDER
QUERY (11 R177), ALERT QUERY and ALERT CONTROL (R179), LINK STATUS and LINK RESET (R181), and the STATUS
report (R180, R182). -/

namespace Sys2Proof.Machine

/-! ### SAMPLE and POINT QUERY -/

/-- SAMPLE (02 R26 to R30). -/
def State.sample (s : State) (pairs : List (Nat × Nat)) : Answer :=
  let r := s.takePairs pairs
  { state := r.1, result := acceptedResult (r.2.any (fun l => l.2.1 == .clamped)),
    items := listItems (fun l => [.u8 l.1, .u8 (outcomeByte l.2.1), .u32 l.2.2]) r.2 }

/-- One line of a POINT QUERY reply (02 R31). Every point's value takes 4 bytes, a code and a pressure too: the
model's choice (log 12). -/
def State.pointLine (s : State) (p : Nat) : List Item :=
  let x := s.point p
  [.u8 p, .u32 x.value, .u16 x.age, .u8 (qualityCode x.quality), .u8 (markCode x.clamped),
   .u8 (markCode ((pointKind p).any s.pointConfigured))]

/-- The run of numbers from `first`, shortened to end at `last` (02 R31, 11 R177). -/
def runOf (first count last : Nat) : List Nat := List.range' first (min count (last + 1 - first))

/-- POINT QUERY (02 R31). -/
def State.pointQuery (s : State) (first count : Nat) : Answer :=
  match firstFailure [(decide (40 < first), .badRange), (count == 0 || decide (16 < count), .badRange)] with
  | some r => { state := s, result := r, items := listItems s.pointLine [] }
  | none => { state := s, result := .ok, items := listItems s.pointLine (runOf first count 40) }

/-! ### ORDER QUERY (R177) -/

/-- An entry in a line of ORDER QUERY. Every entry's value takes 4 bytes, a valve, run and isolation value too, as
in the ORDER report of R182: the model's choice (log 12). -/
def orderItems (e : OrderEntry) : List Item :=
  [.u32 (orderWord e.value), .u32 e.second, .u8 (markCode e.unsent)]

def State.orderLine (s : State) (i : Nat) : List Item :=
  match s.order i with
  | some e => orderItems e
  | none => []

/-- ORDER QUERY (R177). -/
def State.orderQuery (s : State) (first count : Nat) : Answer :=
  match firstFailure [
    (first == 0 || decide (31 < first), .badRange),
    (count == 0 || decide (16 < count), .badRange)] with
  | some r => { state := s, result := r, items := listItems s.orderLine [] }
  | none => { state := s, result := .ok, items := listItems s.orderLine (runOf first count 31) }

/-! ### ALERT QUERY and ALERT CONTROL (R179) -/

/-- A mask of marks: kind k is bit k - 1 (R178). -/
def maskOf (f : AlertRecord → Bool) : List AlertRecord → Nat
  | [] => 0
  | r :: rest => markCode (f r) + 2 * maskOf f rest

/-- The number of the highest-priority kind pending and enabled, 0 for none (R179, R182). -/
def State.topAlert (s : State) : Nat :=
  ((s.als.findIdx? (fun r => r.pending && r.enabled)).map (· + 1)).getD 0

/-- ALERT QUERY (R179). -/
def State.alertQuery (s : State) : Answer :=
  let k := s.topAlert
  let r := (nth s.als k).getD (AlertRecord.clear false)
  { state := s, result := .ok,
    items := [.u8 k, .u8 r.count, .u8 r.object, .u32 r.second, .u32 (maskOf (·.pending) s.als),
              .u32 (maskOf (·.enabled) s.als)] }

/-- A bit of a mask. -/
def maskBit (m i : Nat) : Bool := m / 2 ^ i % 2 == 1

/-- One record under the three masks, in the order of R179; `i` is the kind's bit. -/
def AlertRecord.control (r : AlertRecord) (set clear pend i : Nat) : AlertRecord :=
  { r with enabled := (r.enabled || maskBit set i) && !maskBit clear i,
           pending := r.pending && !maskBit pend i }

/-- The alert set under the three masks. -/
def controlAlerts (set clear pend : Nat) : Nat → List AlertRecord → List AlertRecord
  | _, [] => []
  | i, r :: rest => r.control set clear pend i :: controlAlerts set clear pend (i + 1) rest

/-- A mask with a bit above bit 22 set. -/
def badMask (m : Nat) : Bool := decide (2 ^ 23 ≤ m)

def alertRefusal (set clear pend : Nat) : Option Result :=
  firstFailure [(badMask set || badMask clear || badMask pend, .badRange)]

/-- The effect of an accepted ALERT CONTROL: SNS is due where an enabled mark changes (R179). -/
def State.controlAlerts (s : State) (set clear pend : Nat) : State :=
  let s' := { s with als := Sys2Proof.Machine.controlAlerts set clear pend 0 s.als }
  if s'.als.map (·.enabled) = s.als.map (·.enabled) then s' else s'.makeSnapshotDue

/-- ALERT CONTROL (R179). Of the 'both masks' of the reply the pending mask comes first: the model's choice
(log 52). -/
def State.alertControl (s : State) (set clear pend : Nat) : Answer :=
  answerBy s (alertRefusal set clear pend) (s.controlAlerts set clear pend, .ok) (fun s =>
    [.u32 (maskOf (·.pending) s.als), .u32 (maskOf (·.enabled) s.als)])

/-! ### LINK STATUS and LINK RESET (R181) -/

/-- LINK STATUS (R181); it is in the receive queue itself when it is taken. -/
def State.linkStatus (s : State) : Answer :=
  { state := s, result := .ok,
    items := [.u16 s.slk.lengthTally, .u16 s.slk.crcTally, .u16 s.slk.timeoutTally, .u16 s.slk.overrunTally,
              .u8 s.slk.rx.length, .u8 s.occupancy, .u8 s.unsentCount, .u16 s.cfg.statusInterval] }

/-- A discarded ORDER report sets the unsent mark of its entry (R181). -/
def State.markUnsent (s : State) (r : Record) : State :=
  match r.orderActuator with
  | some i =>
    match s.order i with
    | some e => { s with ori := setNth s.ori i { e with unsent := true } }
    | none => s
  | none => s

/-- Steps 1 to 3 of LINK RESET: both queues discarded but for the LINK RESET itself, the parser in HUNT and
every tally 0 (R181). -/
def State.clearLink (s : State) : State :=
  let s1 := s.slk.tx.foldl State.markUnsent s
  { s1 with slk := { s1.slk with rx := s1.slk.rx.take 1, tx := [], parser := .hunt, lengthTally := 0,
                                 crcTally := 0, timeoutTally := 0, overrunTally := 0 } }

/-! ### The STATUS report (R180, R182) -/

/-- The metering figures of a STATUS report: zeros while BLANK (03 R46). -/
def State.meterFigures (s : State) : List Item :=
  if s.isBlank then [.u64 0, .u64 0, .u64 0, .i64 0, .u16 0, .u16 0]
  else [.u64 (s.mtu.injection.wh / 1000), .u64 (s.mtu.withdrawal.wh / 1000), .u64 (s.mtu.use.wh / 1000),
        .i64 s.mtu.done, .u16 s.mtu.estimated, .u16 s.mtu.cvDefault]

/-- The STATUS report composed now (R182). -/
def State.statusReport (s : State) : Record :=
  { kind := kindStatus, tag := 0,
    fields := [.u8 (stationCode s.sts.state), .u8 (markCode s.clk.valid), .u16 s.clk.gasDay,
               .u32 s.clk.second, .u32 s.clk.stationSeconds] ++ s.meterFigures ++
              [.u8 s.topAlert, .u8 s.slk.rx.length, .u8 s.occupancy, .u8 s.unsentCount] }

end Sys2Proof.Machine
end

