-- ==== Sys2Proof/Machine/Requests.lean ====
section
/-! DEFINITION. Taking requests (11 R174, 10 R159): the dispatch of a request to its block, its reply, and
the receive queue. -/

namespace Sys2Proof.Machine

/-- The answer of the block that owns a request, LINK RESET apart (R174 step 3). -/
def State.answer (s : State) (b : ReqBody) : Answer :=
  match b with
  | .setClock d t => s.setClock d t
  | .stationCommand a => s.stationCommand a
  | .stationStatus => s.stationStatus
  | .configureStation f => s.configureStation f
  | .sample ps => if 1 ≤ ps.length ∧ ps.length ≤ 16 then s.sample ps else { state := s, result := .badForm, items := [] }
  | .pointQuery f c => s.pointQuery f c
  | .configureShipper n a r => s.configureShipper n a r
  | .loadBalance n x => s.loadBalance n x
  | .transfer a b x h => s.requestTransfer a b x h
  | .accountQuery n c => s.accountQuery n c
  | .allocationQuery x n => s.allocationQuery x n
  | .nominate n f sp d q => s.nominate n f sp d q
  | .nominationQuery n f => s.nominationQuery n f
  | .planQuery => s.planQuery
  | .configureCavern j a f ia v => s.configureCavern j a f ia v
  | .cavernMode j a => s.cavernMode j a
  | .cavernQuery j => s.cavernQuery j
  | .configureUnit k a f => s.configureUnit k a f
  | .unitMode k a => s.unitMode k a
  | .unitQuery k => s.unitQuery k
  | .configureTrain t a f => s.configureTrain t a f
  | .trainMode t a => s.trainMode t a
  | .trainQuery t => s.trainQuery t
  | .orderQuery f c => s.orderQuery f c
  | .alertQuery => s.alertQuery
  | .alertControl a b c => s.alertControl a b c
  | .linkStatus => s.linkStatus
  | .linkReset => { state := s.clearLink, result := .ok, items := [] }
  | .malformed _ => { state := s, result := .badForm, items := [] }
  | .unknown k => { state := s, result := .badForm, items := [.u8 k] }

/-- The reply's kind: the request kind + 0x40, or 0x7F for an unknown kind (R174, R182). -/
def ReqBody.replyKind : ReqBody → Nat
  | .unknown _ => kindUnknown
  | b => b.kind + 0x40

/-- The reply to a request (R174). -/
def replyTo (r : Request) (a : Answer) : Record :=
  { kind := ReqBody.replyKind r.body, tag := r.tag, fields := .u8 (resultCode a.result) :: a.items }

/-- Take a request: its effect, then its reply queued; LINK RESET then offers every unsent entry (R174,
R181). -/
def State.handle (s : State) (r : Request) : State :=
  let a := s.answer r.body
  let s' := a.state.pushRecord (replyTo r a)
  if r.body = .linkReset then s'.resendUnsent else s'

/-- The kinds held while a close is in flight (10 R159). -/
def heldKinds : List Nat := [0x08, 0x09, 0x0A, 0x0B, 0x0C, 0x10, 0x11, 0x18]

/-- A request is held by an hour close in flight. -/
def State.held (s : State) (r : Request) : Bool := s.hcu.close.isSome && heldKinds.contains r.body.kind

/-- The head of the receive queue may be taken (R174). -/
def State.mayTake (s : State) (r : Request) : Bool := !s.held r && decide (s.occupancy < 48)

/-- Take the head of the receive queue, if there is one and nothing blocks it. It leaves the queue when its
reply is queued (R174). -/
def State.takeHead (s : State) : State :=
  match s.slk.rx with
  | [] => s
  | r :: _ =>
    if s.mayTake r then
      let s' := s.handle r
      { s' with slk := { s'.slk with rx := s'.slk.rx.drop 1 } }
    else s

/-- A complete frame whose check agrees joins the tail of the receive queue, or is discarded where the queue
holds 8 requests (R173). -/
def State.enqueue (s : State) (r : Request) : State :=
  if 8 ≤ s.slk.rx.length then
    { s with slk := { s.slk with overrunTally := satAdd 65535 s.slk.overrunTally 1 } }
  else { s with slk := { s.slk with rx := s.slk.rx ++ [r] } }

/-- What a received byte brings (R173). -/
def State.byteEvent (s : State) (e : ByteEvent) : State :=
  match e with
  | .none => s
  | .badLength => { s with slk := { s.slk with lengthTally := satAdd 65535 s.slk.lengthTally 1 } }
  | .badCheck => { s with slk := { s.slk with crcTally := satAdd 65535 s.slk.crcTally 1 } }
  | .frame r => (s.enqueue r).takeHead

/-- A byte on RXD (R173). -/
def State.takeByte (s : State) (x : Byte) : State :=
  let r := parseByte s.slk.parser x
  ({ s with slk := { s.slk with parser := r.1 } }).byteEvent r.2

/-- A parser timeout inside a frame (R173). -/
def State.parserTimeout (s : State) : State :=
  if s.slk.parser = .hunt then s
  else { s with slk := { s.slk with parser := .hunt, timeoutTally := satAdd 65535 s.slk.timeoutTally 1 } }

/-- The record at the head of the transmit queue has been sent; where occupancy falls below 28, ORI offers
every unsent entry (R175, R177), and where it falls below 48, a request that waited for it is taken at once (R174). -/
def State.recordSent (s : State) : State :=
  match s.slk.tx with
  | [] => s
  | _ :: rest =>
    let s' := { s with slk := { s.slk with tx := rest } }
    (if rest.length = 27 then s'.resendUnsent else s').takeHead

end Sys2Proof.Machine
end

