-- ==== Sys2Proof/Machine/Flags.lean ====
section
/-! DEFINITION. The steps the part makes due itself, each with the marks that make it due (log 1), and
`settle`, which carries out every due step in one fixed order before the next event from outside (log 3). -/

namespace Sys2Proof.Machine

/-! ### Minute event, hour boundary and status countdown (01 R2, 11 R180) -/

/-- MINUTE_EVENT (01 R2): the minute-driven work of CVC (ring, caps and split), then the requirement test of
CDU. The order of the two blocks is the model's choice (log 41). Both read the points as the second event left
them, aged and graded again: the model's choice too (log 45). -/
def stepMinute (s : State) : State :=
  if s.clk.minuteDue then
    (({ s with clk := { s.clk with minuteDue := false } } : State).cavernMinute).testRequirement
  else s

/-- The hour closed by a boundary: the one before the current hour (01 R2). -/
def State.endedHour (s : State) : Nat := hourPred s.currentHour

/-- The hand-over at a boundary taken outside BLANK (03 R43, 07 R122). -/
def State.handHour (s : State) : State :=
  if s.isBlank then s
  else
    let s1 := { s with hcu := { s.hcu with handOvers := s.hcu.handOvers ++ [s.handOver s.endedHour] } }
    ({ s1 with mtu := s1.mtu.newHour } : State).zeroVolumes

/-- HOUR_BOUNDARY: the trim sum returns to 0, the ended hour is handed over, and at the second of day 0 CVC
and CDU take the gas-day rollover (01 R2, R4). -/
def stepBoundary (s : State) : State :=
  if s.clk.boundaryDue then
    let s1 := ({ s with clk := { s.clk with boundaryDue := false, trimSum := 0 } } : State).handHour
    if s.clk.second = 0 then s1.gasDayRollover else s1
  else s

/-- The status countdown runs and has reached 0 (11 R180). -/
def State.statusDue (s : State) : Bool := decide (0 < s.cfg.statusInterval) && s.slk.statusCountdown == 0

/-- STATUS_COUNTDOWN_EXPIRY: a STATUS report is offered and the countdown reloaded (11 R180). -/
def stepStatus (s : State) : State :=
  if s.statusDue then
    let s1 := s.offerReport s.statusReport
    { s1 with slk := { s1.slk with statusCountdown := s1.cfg.statusInterval } }
  else s

/-! ### The begins of the three operations -/

/-- A close may begin: a hand-over waits and no close is in flight (10 R158). -/
def State.closeDue (s : State) : Bool := s.hcu.close.isNone && !s.hcu.handOvers.isEmpty

/-- HOUR_CLOSE_BEGIN (10 R158). -/
def stepCloseBegin (s : State) : State :=
  if s.closeDue then
    match s.hcu.handOvers with
    | h :: rest => { s with hcu := { s.hcu with close := some (s.closeFigures h), handOvers := rest } }
    | [] => s
  else s

/-- No close is in flight, and none is about to begin at a boundary that is due or a hand-over that waits. -/
def State.closeClear (s : State) : Bool :=
  s.hcu.close.isNone && s.hcu.handOvers.isEmpty && !s.clk.boundaryDue

/-- The conditions of R86. -/
def State.planDueNow (s : State) : Bool :=
  s.plu.due && s.plu.eval.isNone && s.clk.valid && !s.isBlank && s.closeClear

/-- PLAN_EVALUATION_BEGIN (06 R86, R87). -/
def stepPlanBegin (s : State) : State :=
  if s.planDueNow then { s with plu := { s.plu with due := false, eval := some s.gather } } else s

/-- The conditions of 01 R16. -/
def State.snapshotDueNow (s : State) : Bool :=
  s.sns.due && !s.isBlank && s.sns.state != .writing && s.closeClear

/-- SNAPSHOT_WRITE_BEGIN (01 R16). -/
def stepSnapshotBegin (s : State) : State := if s.snapshotDueNow then s.beginWrite else s

/-! ### Settling -/

/-- Carry out a list of steps in turn. -/
def runSteps (steps : List (State → State)) (s : State) : State := steps.foldl (fun s f => f s) s

/-- The expiries and other steps that a second event makes due, in the order the model gives them (log 3). -/
def secondSteps : List (State → State) :=
  cavernNumbers.map stepSettleExpiry ++ cavernNumbers.map stepValveFault ++
  unitNumbers.map stepTimeoutExpiry ++ unitNumbers.map stepMinRunExpiry ++
  unitNumbers.map stepMinStopExpiry ++ unitNumbers.map stepStartListDrop ++
  [stepHeatingExpiry] ++ trainNumbers.map stepCoolingExpiry ++
  trainNumbers.map stepOffspecEntry ++ trainNumbers.map stepOffspecRecovery ++
  [stepMinute, stepBoundary, stepStatus]

/-- The begins of the three operations, in the model's order (log 3). -/
def beginSteps : List (State → State) := [stepCloseBegin, stepPlanBegin, stepSnapshotBegin]

/-- The head of the receive queue is taken, and what that makes due begins. -/
def takeAndBegin (s : State) : State := stepSnapshotBegin (stepPlanBegin s.takeHead)

/-- The receive queue drained as far as it is not blocked: it holds at most 8 requests. -/
def drain : Nat → State → State
  | 0, s => s
  | n + 1, s => drain n (takeAndBegin s)

/-- The operations that may begin have begun, and the receive queue moves on in order as far as it is not blocked
(11 R174). That the begins come first is the model's choice (log 3). -/
def beginAndDrain (s : State) : State := drain 8 (runSteps beginSteps s)

/-- Every step that is due, in the model's order, before the next event from outside (log 1, log 3). A step that
the last second event brought so reads each point with its quality after that event's ageing (log 45). -/
def settle (s : State) : State := beginAndDrain (runSteps secondSteps s)

/-- An hour-close completion, and what it lets go on at once: the close of a waiting hand-over, before any held request
is taken, an evaluation and a snapshot write, and then the held requests (10 R158, R159, R168; log 3). -/
def State.closeCompleted (s : State) : State :=
  if s.hcu.close.isSome then beginAndDrain s.completeClose else s

end Sys2Proof.Machine
end

