-- ==== Sys2Proof/Machine/Events.lean ====
section
/-! DEFINITION. The meaning of each row of the table that is an event: those from outside, and those the part
makes due itself. An event the part makes due has no effect while it is not due (log 1), and no command but
the release has an effect while the part is held in reset (log 7). -/

namespace Sys2Proof.Machine

abbrev Step := Host.Outcome State Fault Refusal

/-- An event from outside: what is due comes first; held in reset, the part takes none (log 1, log 7). -/
def external (s : State) (f : State → State) : State := if s.sts.inReset then s else f (settle s)

/-- A step the part makes due itself; held in reset, nothing is due. -/
def internal (s : State) (f : State → State) : State := if s.sts.inReset then s else f s

/-! ### Reset, trip pin and time -/

/-- POWER_ON_OR_RESET (01 R17, R18). Without a RESET_ASSERTED before it, the reset is asserted first. -/
def execPowerOnOrReset (crcAgrees tripActive bsel1 bsel0 : Bool) (s : State) : Step :=
  let held := if s.sts.inReset then s else (settle s).assertReset
  .next (held.release crcAgrees tripActive bsel1 bsel0)

/-- RESET_ASSERTED (01 R14, R16). -/
def execResetAsserted (s : State) : Step := .next (external s State.assertReset)

/-- TRIP_N_ASSERTION: the pin is sensed active after being inactive (01 R9). -/
def execTripNAssertion (s : State) : Step :=
  .next (external s (fun s =>
    if s.sts.tripActive then s
    else ({ s with sts := { s.sts with tripActive := true } } : State).tripAsserted))

/-- TRIP_N_RELEASE: the pin state is recorded, and the station state does not change (01 R9). -/
def execTripNRelease (s : State) : Step :=
  .next (external s (fun s => { s with sts := { s.sts with tripActive := false } }))

/-- The status countdown one second on, while the interval is above 0 (11 R180). -/
def State.statusSecond (s : State) : State :=
  if 0 < s.cfg.statusInterval then
    { s with slk := { s.slk with statusCountdown := s.slk.statusCountdown - 1 } }
  else s

/-- What one second event brings, block by block (log 4). -/
def State.second (s : State) : State :=
  let s1 := s.clockSecond.meterSecond
  let s2 := (s1.forEach cavernNumbers State.cavernSecond).forEach unitNumbers State.unitSecond
  (s2.dryerSecond.statusSecond).agePoints

/-- SECOND_EVENT (01 R1). -/
def execSecondEvent (s : State) : Step := .next (external s State.second)

/-- MINUTE_EVENT (01 R2). -/
def execMinuteEvent (s : State) : Step := .next (internal s stepMinute)

/-- HOUR_BOUNDARY (01 R2). -/
def execHourBoundary (s : State) : Step := .next (internal s stepBoundary)

/-! ### The three operations -/

/-- HOUR_CLOSE_BEGIN (10 R158). -/
def execHourCloseBegin (s : State) : Step := .next (internal s stepCloseBegin)

/-- HOUR_CLOSE_COMPLETE (10 R168, with the requests it releases, 10 R159 and 11 R174). -/
def execHourCloseComplete (s : State) : Step := .next (external s State.closeCompleted)

/-- PLAN_EVALUATION_BEGIN (06 R86). -/
def execPlanEvaluationBegin (s : State) : Step := .next (internal s stepPlanBegin)

/-- PLAN_EVALUATION_COMPLETE (06 R97). -/
def execPlanEvaluationComplete (s : State) : Step := .next (external s State.completePlan)

/-- SNAPSHOT_WRITE_BEGIN (01 R16). -/
def execSnapshotWriteBegin (s : State) : Step := .next (internal s stepSnapshotBegin)

/-- SNAPSHOT_WRITE_COMPLETE (01 R16). -/
def execSnapshotWriteComplete (verifyPasses : Bool) (s : State) : Step :=
  .next (external s (fun s => s.completeWrite verifyPasses))

/-! ### Expiries -/

/-- SETTLE_TIMER_EXPIRY (07 R110). -/
def execSettleTimerExpiry (j : Nat) (s : State) : Step := .next (internal s (stepSettleExpiry j))

/-- VALVE_FAULT (07 R114). -/
def execValveFault (j : Nat) (s : State) : Step := .next (internal s (stepValveFault j))

/-- MIN_RUN_EXPIRY (08 R136). -/
def execMinRunExpiry (k : Nat) (s : State) : Step := .next (internal s (stepMinRunExpiry k))

/-- MIN_STOP_EXPIRY (08 R136). -/
def execMinStopExpiry (k : Nat) (s : State) : Step := .next (internal s (stepMinStopExpiry k))

/-- TIMEOUT_EXPIRY (08 R136). -/
def execTimeoutExpiry (k : Nat) (s : State) : Step := .next (internal s (stepTimeoutExpiry k))

/-- START_LIST_ENTRY_DROP (08 R135). -/
def execStartListEntryDrop (k : Nat) (s : State) : Step := .next (internal s (stepStartListDrop k))

/-- HEATING_EXPIRY (09 R151). -/
def execHeatingExpiry (s : State) : Step := .next (internal s stepHeatingExpiry)

/-- COOLING_EXPIRY (09 R151). -/
def execCoolingExpiry (t : Nat) (s : State) : Step := .next (internal s (stepCoolingExpiry t))

/-- OFFSPEC_ENTRY (09 R154). -/
def execOffspecEntry (t : Nat) (s : State) : Step := .next (internal s (stepOffspecEntry t))

/-- OFFSPEC_RECOVERY (09 R154). -/
def execOffspecRecovery (t : Nat) (s : State) : Step := .next (internal s (stepOffspecRecovery t))

/-- STATUS_COUNTDOWN_EXPIRY (11 R180). -/
def execStatusCountdownExpiry (s : State) : Step := .next (internal s stepStatus)

/-! ### The serial line -/

/-- FRAME_RECEIVED: the byte that completes a frame, the low byte of its check (11 R173). -/
def execFrameReceived (last : Byte) (s : State) : Step := .next (external s (fun s => s.takeByte last))

/-- BYTE_RECEIVED (11 R173). -/
def execByteReceived (x : Byte) (s : State) : Step := .next (external s (fun s => s.takeByte x))

/-- PARSER_TIMEOUT (11 R173). -/
def execParserTimeout (s : State) : Step := .next (external s State.parserTimeout)

/-- RECORD_SENT (11 R175, with the request it makes room for, R174). -/
def execRecordSent (s : State) : Step := .next (external s State.recordSent)

end Sys2Proof.Machine
end

