-- ==== Sys2Proof/Machine/Commands.lean ====
section
/-! DEFINITION. The meaning of each row of the table that is a request: the request arrives in the receive
queue and is taken as soon as nothing blocks it (11 R173, R174). -/

namespace Sys2Proof.Machine

/-- A request arrives whole (log 8), and is taken at once where it is at the head and not blocked. -/
def submit (r : Request) (s : State) : State := external s (fun s => (s.enqueue r).takeHead)

/-- A configuration of zeros, carried by a DECONFIGURE, which does not read it (07 R103). -/
def UnitFields.absent : UnitFields := ⟨none, none, none, none, none, none, none, none⟩

/-- The ten fields of a train, all absent. -/
def TrainFields.absent : TrainFields := ⟨none, none, none, none, none, none, none, none, none, none⟩

/-- The rights carried by an action that does not read them (04 R51). -/
def Rights.zero : Rights := ⟨0, 0, 0, 0⟩

/-- UNKNOWN_KIND (11 R174). -/
def execUnknownKind (tag kind : Nat) (s : State) : Step := .next (submit ⟨tag, .unknown kind⟩ s)

/-- SET_CLOCK (01 R3, R4). -/
def execSetClock (tag gasDay second : Nat) (s : State) : Step := .next (submit ⟨tag, .setClock gasDay second⟩ s)

/-- STATION_COMMAND_START (01 R7). -/
def execStationCommandStart (tag : Nat) (s : State) : Step := .next (submit ⟨tag, .stationCommand 0⟩ s)

/-- STATION_COMMAND_PARK (01 R8). -/
def execStationCommandPark (tag : Nat) (s : State) : Step := .next (submit ⟨tag, .stationCommand 1⟩ s)

/-- STATION_COMMAND_TRIP (01 R9). -/
def execStationCommandTrip (tag : Nat) (s : State) : Step := .next (submit ⟨tag, .stationCommand 2⟩ s)

/-- STATION_COMMAND_RESUME (01 R11). -/
def execStationCommandResume (tag : Nat) (s : State) : Step := .next (submit ⟨tag, .stationCommand 3⟩ s)

/-- STATION_STATUS (01 R13). -/
def execStationStatus (tag : Nat) (s : State) : Step := .next (submit ⟨tag, .stationStatus⟩ s)

/-- CONFIGURE_STATION (01 R6). -/
def execConfigureStation (tag : Nat) (f : Settings) (s : State) : Step :=
  .next (submit ⟨tag, .configureStation f⟩ s)

/-- SAMPLE (02 R26). -/
def execSample (tag : Nat) (pairs : List (Nat × Nat)) (s : State) : Step := .next (submit ⟨tag, .sample pairs⟩ s)

/-- POINT_QUERY (02 R31). -/
def execPointQuery (tag first count : Nat) (s : State) : Step := .next (submit ⟨tag, .pointQuery first count⟩ s)

/-- CONFIGURE_SHIPPER_OPEN (04 R52). -/
def execConfigureShipperOpen (tag n : Nat) (r : Rights) (s : State) : Step :=
  .next (submit ⟨tag, .configureShipper n 0 r⟩ s)

/-- CONFIGURE_SHIPPER_SET (04 R52). -/
def execConfigureShipperSet (tag n : Nat) (r : Rights) (s : State) : Step :=
  .next (submit ⟨tag, .configureShipper n 1 r⟩ s)

/-- CONFIGURE_SHIPPER_SUSPEND (04 R53). -/
def execConfigureShipperSuspend (tag n : Nat) (s : State) : Step :=
  .next (submit ⟨tag, .configureShipper n 2 Rights.zero⟩ s)

/-- CONFIGURE_SHIPPER_REACTIVATE (04 R53). -/
def execConfigureShipperReactivate (tag n : Nat) (s : State) : Step :=
  .next (submit ⟨tag, .configureShipper n 3 Rights.zero⟩ s)

/-- CONFIGURE_SHIPPER_CLOSE (04 R54). -/
def execConfigureShipperClose (tag n : Nat) (s : State) : Step :=
  .next (submit ⟨tag, .configureShipper n 4 Rights.zero⟩ s)

/-- LOAD_BALANCE (04 R55). -/
def execLoadBalance (tag n inventory : Nat) (s : State) : Step := .next (submit ⟨tag, .loadBalance n inventory⟩ s)

/-- TRANSFER (04 R63). -/
def execTransfer (tag source target amount hour : Nat) (s : State) : Step :=
  .next (submit ⟨tag, .transfer source target amount hour⟩ s)

/-- ACCOUNT_QUERY (04 R64). -/
def execAccountQuery (tag n : Nat) (clear : Bool) (s : State) : Step :=
  .next (submit ⟨tag, .accountQuery n clear⟩ s)

/-- ALLOCATION_QUERY (04 R65). -/
def execAllocationQuery (tag selector number : Nat) (s : State) : Step :=
  .next (submit ⟨tag, .allocationQuery selector number⟩ s)

/-- NOMINATE (05 R70). -/
def execNominate (tag n first span direction quantity : Nat) (s : State) : Step :=
  .next (submit ⟨tag, .nominate n first span direction quantity⟩ s)

/-- NOMINATION_QUERY (05 R82). -/
def execNominationQuery (tag n first : Nat) (s : State) : Step := .next (submit ⟨tag, .nominationQuery n first⟩ s)

/-- PLAN_QUERY (06 R101). -/
def execPlanQuery (tag : Nat) (s : State) : Step := .next (submit ⟨tag, .planQuery⟩ s)

/-- CONFIGURE_CAVERN (07 R103). -/
def execConfigureCavern (tag j : Nat) (f : CavernConfig) (invAction : Nat) (value : Int) (s : State) : Step :=
  .next (submit ⟨tag, .configureCavern j 0 f invAction value⟩ s)

/-- DECONFIGURE_CAVERN (07 R105). -/
def execDeconfigureCavern (tag j : Nat) (s : State) : Step :=
  .next (submit ⟨tag, .configureCavern j 1 CavernConfig.zero 0 0⟩ s)

/-- CAVERN_MODE_IN_SERVICE (07 R115). -/
def execCavernModeInService (tag j : Nat) (s : State) : Step := .next (submit ⟨tag, .cavernMode j 0⟩ s)

/-- CAVERN_MODE_OUT_OF_SERVICE (07 R115). -/
def execCavernModeOutOfService (tag j : Nat) (s : State) : Step := .next (submit ⟨tag, .cavernMode j 1⟩ s)

/-- ABANDON_SETTLE (07 R111). -/
def execAbandonSettle (tag j : Nat) (s : State) : Step := .next (submit ⟨tag, .cavernMode j 2⟩ s)

/-- CAVERN_QUERY (07 R124). -/
def execCavernQuery (tag j : Nat) (s : State) : Step := .next (submit ⟨tag, .cavernQuery j⟩ s)

/-- CONFIGURE_UNIT (08 R126). -/
def execConfigureUnit (tag k : Nat) (f : UnitFields) (s : State) : Step := .next (submit ⟨tag, .configureUnit k 0 f⟩ s)

/-- DECONFIGURE_UNIT (08 R126). -/
def execDeconfigureUnit (tag k : Nat) (s : State) : Step :=
  .next (submit ⟨tag, .configureUnit k 1 UnitFields.absent⟩ s)

/-- UNIT_MODE_AVAILABLE (08 R141). -/
def execUnitModeAvailable (tag k : Nat) (s : State) : Step := .next (submit ⟨tag, .unitMode k 0⟩ s)

/-- UNIT_MODE_UNAVAILABLE (08 R141). -/
def execUnitModeUnavailable (tag k : Nat) (s : State) : Step := .next (submit ⟨tag, .unitMode k 1⟩ s)

/-- UNIT_MODE_RELEASE (08 R141). -/
def execUnitModeRelease (tag k : Nat) (s : State) : Step := .next (submit ⟨tag, .unitMode k 2⟩ s)

/-- UNIT_QUERY (08 R143). -/
def execUnitQuery (tag k : Nat) (s : State) : Step := .next (submit ⟨tag, .unitQuery k⟩ s)

/-- CONFIGURE_TRAIN (09 R145). -/
def execConfigureTrain (tag t : Nat) (f : TrainFields) (s : State) : Step :=
  .next (submit ⟨tag, .configureTrain t 0 f⟩ s)

/-- DECONFIGURE_TRAIN (09 R145). -/
def execDeconfigureTrain (tag t : Nat) (s : State) : Step :=
  .next (submit ⟨tag, .configureTrain t 1 TrainFields.absent⟩ s)

/-- TRAIN_MODE_IN_SERVICE (09 R155). -/
def execTrainModeInService (tag t : Nat) (s : State) : Step := .next (submit ⟨tag, .trainMode t 0⟩ s)

/-- TRAIN_MODE_OUT_OF_SERVICE (09 R155). -/
def execTrainModeOutOfService (tag t : Nat) (s : State) : Step := .next (submit ⟨tag, .trainMode t 1⟩ s)

/-- SWITCH_BEDS (09 R155). -/
def execSwitchBeds (tag t : Nat) (s : State) : Step := .next (submit ⟨tag, .trainMode t 2⟩ s)

/-- TRAIN_QUERY (09 R156). -/
def execTrainQuery (tag t : Nat) (s : State) : Step := .next (submit ⟨tag, .trainQuery t⟩ s)

/-- ORDER_QUERY (11 R177). -/
def execOrderQuery (tag first count : Nat) (s : State) : Step := .next (submit ⟨tag, .orderQuery first count⟩ s)

/-- ALERT_QUERY (11 R179). -/
def execAlertQuery (tag : Nat) (s : State) : Step := .next (submit ⟨tag, .alertQuery⟩ s)

/-- ALERT_CONTROL (11 R179). -/
def execAlertControl (tag enableSet enableClear pendingClear : Nat) (s : State) : Step :=
  .next (submit ⟨tag, .alertControl enableSet enableClear pendingClear⟩ s)

/-- LINK_STATUS (11 R181). -/
def execLinkStatus (tag : Nat) (s : State) : Step := .next (submit ⟨tag, .linkStatus⟩ s)

/-- LINK_RESET (11 R181). -/
def execLinkReset (tag : Nat) (s : State) : Step := .next (submit ⟨tag, .linkReset⟩ s)

end Sys2Proof.Machine
end

