-- ==== Sys2Proof/Machine/Dispatch.lean ====
section
/-! DEFINITION. The dispatch: one arm per command, each one direct call of its meaning. -/

namespace Sys2Proof.Machine

def exec (i : Instr) (s : State) : Host.Outcome State Fault Refusal :=
  match i with
  | .powerOnOrReset crcAgrees tripActive bsel1 bsel0 => Sys2Proof.Machine.execPowerOnOrReset crcAgrees tripActive bsel1 bsel0 s
  | .resetAsserted => Sys2Proof.Machine.execResetAsserted s
  | .tripNAssertion => Sys2Proof.Machine.execTripNAssertion s
  | .tripNRelease => Sys2Proof.Machine.execTripNRelease s
  | .secondEvent => Sys2Proof.Machine.execSecondEvent s
  | .minuteEvent => Sys2Proof.Machine.execMinuteEvent s
  | .hourBoundary => Sys2Proof.Machine.execHourBoundary s
  | .hourCloseBegin => Sys2Proof.Machine.execHourCloseBegin s
  | .hourCloseComplete => Sys2Proof.Machine.execHourCloseComplete s
  | .planEvaluationBegin => Sys2Proof.Machine.execPlanEvaluationBegin s
  | .planEvaluationComplete => Sys2Proof.Machine.execPlanEvaluationComplete s
  | .snapshotWriteBegin => Sys2Proof.Machine.execSnapshotWriteBegin s
  | .snapshotWriteComplete verifyPasses => Sys2Proof.Machine.execSnapshotWriteComplete verifyPasses s
  | .settleTimerExpiry cavern => Sys2Proof.Machine.execSettleTimerExpiry cavern s
  | .valveFault cavern => Sys2Proof.Machine.execValveFault cavern s
  | .minRunExpiry unit => Sys2Proof.Machine.execMinRunExpiry unit s
  | .minStopExpiry unit => Sys2Proof.Machine.execMinStopExpiry unit s
  | .timeoutExpiry unit => Sys2Proof.Machine.execTimeoutExpiry unit s
  | .startListEntryDrop unit => Sys2Proof.Machine.execStartListEntryDrop unit s
  | .heatingExpiry => Sys2Proof.Machine.execHeatingExpiry s
  | .coolingExpiry train => Sys2Proof.Machine.execCoolingExpiry train s
  | .offspecEntry train => Sys2Proof.Machine.execOffspecEntry train s
  | .offspecRecovery train => Sys2Proof.Machine.execOffspecRecovery train s
  | .statusCountdownExpiry => Sys2Proof.Machine.execStatusCountdownExpiry s
  | .frameReceived last => Sys2Proof.Machine.execFrameReceived last s
  | .parserTimeout => Sys2Proof.Machine.execParserTimeout s
  | .recordSent => Sys2Proof.Machine.execRecordSent s
  | .unknownKind tag kind => Sys2Proof.Machine.execUnknownKind tag kind s
  | .setClock tag gasDay second => Sys2Proof.Machine.execSetClock tag gasDay second s
  | .stationCommandStart tag => Sys2Proof.Machine.execStationCommandStart tag s
  | .stationCommandPark tag => Sys2Proof.Machine.execStationCommandPark tag s
  | .stationCommandTrip tag => Sys2Proof.Machine.execStationCommandTrip tag s
  | .stationCommandResume tag => Sys2Proof.Machine.execStationCommandResume tag s
  | .stationStatus tag => Sys2Proof.Machine.execStationStatus tag s
  | .configureStation tag f => Sys2Proof.Machine.execConfigureStation tag f s
  | .sample tag pairs => Sys2Proof.Machine.execSample tag pairs s
  | .pointQuery tag first count => Sys2Proof.Machine.execPointQuery tag first count s
  | .configureShipperOpen tag n r => Sys2Proof.Machine.execConfigureShipperOpen tag n r s
  | .configureShipperSet tag n r => Sys2Proof.Machine.execConfigureShipperSet tag n r s
  | .configureShipperSuspend tag n => Sys2Proof.Machine.execConfigureShipperSuspend tag n s
  | .configureShipperReactivate tag n => Sys2Proof.Machine.execConfigureShipperReactivate tag n s
  | .configureShipperClose tag n => Sys2Proof.Machine.execConfigureShipperClose tag n s
  | .loadBalance tag n inventory => Sys2Proof.Machine.execLoadBalance tag n inventory s
  | .transfer tag source target amount hour => Sys2Proof.Machine.execTransfer tag source target amount hour s
  | .accountQuery tag n clear => Sys2Proof.Machine.execAccountQuery tag n clear s
  | .allocationQuery tag selector number => Sys2Proof.Machine.execAllocationQuery tag selector number s
  | .nominate tag n first span direction quantity => Sys2Proof.Machine.execNominate tag n first span direction quantity s
  | .nominationQuery tag n first => Sys2Proof.Machine.execNominationQuery tag n first s
  | .planQuery tag => Sys2Proof.Machine.execPlanQuery tag s
  | .configureCavern tag j f invAction value => Sys2Proof.Machine.execConfigureCavern tag j f invAction value s
  | .deconfigureCavern tag j => Sys2Proof.Machine.execDeconfigureCavern tag j s
  | .cavernModeInService tag j => Sys2Proof.Machine.execCavernModeInService tag j s
  | .cavernModeOutOfService tag j => Sys2Proof.Machine.execCavernModeOutOfService tag j s
  | .abandonSettle tag j => Sys2Proof.Machine.execAbandonSettle tag j s
  | .cavernQuery tag j => Sys2Proof.Machine.execCavernQuery tag j s
  | .configureUnit tag k f => Sys2Proof.Machine.execConfigureUnit tag k f s
  | .deconfigureUnit tag k => Sys2Proof.Machine.execDeconfigureUnit tag k s
  | .unitModeAvailable tag k => Sys2Proof.Machine.execUnitModeAvailable tag k s
  | .unitModeUnavailable tag k => Sys2Proof.Machine.execUnitModeUnavailable tag k s
  | .unitModeRelease tag k => Sys2Proof.Machine.execUnitModeRelease tag k s
  | .unitQuery tag k => Sys2Proof.Machine.execUnitQuery tag k s
  | .configureTrain tag t f => Sys2Proof.Machine.execConfigureTrain tag t f s
  | .deconfigureTrain tag t => Sys2Proof.Machine.execDeconfigureTrain tag t s
  | .trainModeInService tag t => Sys2Proof.Machine.execTrainModeInService tag t s
  | .trainModeOutOfService tag t => Sys2Proof.Machine.execTrainModeOutOfService tag t s
  | .switchBeds tag t => Sys2Proof.Machine.execSwitchBeds tag t s
  | .trainQuery tag t => Sys2Proof.Machine.execTrainQuery tag t s
  | .orderQuery tag first count => Sys2Proof.Machine.execOrderQuery tag first count s
  | .alertQuery tag => Sys2Proof.Machine.execAlertQuery tag s
  | .alertControl tag enableSet enableClear pendingClear => Sys2Proof.Machine.execAlertControl tag enableSet enableClear pendingClear s
  | .linkStatus tag => Sys2Proof.Machine.execLinkStatus tag s
  | .linkReset tag => Sys2Proof.Machine.execLinkReset tag s
  | .byteReceived x => Sys2Proof.Machine.execByteReceived x s

end Sys2Proof.Machine
end

