-- ==== Sys2Proof/Safety.lean ====
section
/-! DEFINITION. What statements are made in terms of: a state in which nothing is due, the shape of the
state's lists, and the laws a safe run keeps (01 R12, 04 R56, 09 R150, 11 R174, R175). -/

namespace Sys2Proof.Machine

/-! ### Nothing is due -/

/-- No step of a cavern is due: its settle timer has not reached 0, and its valve watch has not passed its
limit (07 R110, R114). -/
def Cavern.calm (c : Cavern) : Bool := c.settle != some 0 && !c.faultDue

/-- No step of a unit is due: no countdown has reached 0, and no start-list entry is 3,600 s old (08 R135,
R136). -/
def Compressor.calm (now : Nat) (u : Compressor) : Bool :=
  u.minRun != some 0 && u.minStop != some 0 && u.timeout != some 0 &&
  u.startList.all (fun e => decide (startAge now e < 3600))

/-- No step of a train is due: its cooling timer has not reached 0, and no off-spec count has reached the
delay (09 R151, R154). -/
def Train.calm (r : Train) : Bool :=
  r.cooling != some 0 && !(r.state == .online && decide (r.config.offspecDelay ≤ r.aboveSpec)) &&
  !(r.state == .offspec && decide (r.config.offspecDelay ≤ r.inSpec))

/-- No step of the plant blocks is due. -/
def State.plantCalm (s : State) : Bool :=
  s.cvc.all (fun c => c.all Cavern.calm) &&
  s.cdu.units.all (fun u => u.all (fun u => u.calm s.clk.stationSeconds)) &&
  s.drc.heatingTimer != some 0 && s.drc.trains.all (fun r => r.all Train.calm)

/-- No minute event, hour boundary or STATUS report is due. -/
def State.clockCalm (s : State) : Bool := !s.clk.minuteDue && !s.clk.boundaryDue && !s.statusDue

/-- The receive queue is empty, or its head is held or finds no room for its reply (11 R174). -/
def State.linkCalm (s : State) : Bool :=
  match s.slk.rx with
  | [] => true
  | r :: _ => !s.mayTake r

/-- Nothing is due: reset is released, no step the part makes itself is due, no operation may begin, and the
receive queue is empty or blocked. An event from outside then acts at once (log 1). -/
def State.quiet (s : State) : Bool :=
  !s.sts.inReset && s.plantCalm && s.clockCalm && !s.closeDue && !s.planDueNow && !s.snapshotDueNow &&
  s.linkCalm

/-- Quiet, with an empty receive queue and room for a reply: a request that arrives is taken at once, unless
its kind is held by a close in flight (11 R174, 10 R159). -/
def State.receptive (s : State) : Bool := s.quiet && s.slk.rx.isEmpty && decide (s.occupancy < 48)

/-- The state with one record more at the tail of the transmit queue. -/
def State.sends (s : State) (r : Record) : State := { s with slk := { s.slk with tx := s.slk.tx ++ [r] } }

/-- The state with the reply to a request of a kind and a tag queued (11 R174). -/
def State.replied (s : State) (kind tag : Nat) (result : Result) (items : List Item) : State :=
  s.sends { kind := kind + 0x40, tag := tag, fields := .u8 (resultCode result) :: items }

/-! ### Commands by what they are -/

/-- The rows that are steps the part makes due itself (log 1). -/
def ownSteps : Instr → Bool
  | .minuteEvent => true
  | .hourBoundary => true
  | .hourCloseBegin => true
  | .planEvaluationBegin => true
  | .snapshotWriteBegin => true
  | .settleTimerExpiry _ => true
  | .valveFault _ => true
  | .minRunExpiry _ => true
  | .minStopExpiry _ => true
  | .timeoutExpiry _ => true
  | .startListEntryDrop _ => true
  | .heatingExpiry => true
  | .coolingExpiry _ => true
  | .offspecEntry _ => true
  | .offspecRecovery _ => true
  | .statusCountdownExpiry => true
  | _ => false

/-- The request a row sends, where the row is one of the host's requests (11 R182). -/
def requestOf : Instr → Option Request
  | .unknownKind tag kind => some ⟨tag, .unknown kind⟩
  | .setClock tag d t => some ⟨tag, .setClock d t⟩
  | .stationCommandStart tag => some ⟨tag, .stationCommand 0⟩
  | .stationCommandPark tag => some ⟨tag, .stationCommand 1⟩
  | .stationCommandTrip tag => some ⟨tag, .stationCommand 2⟩
  | .stationCommandResume tag => some ⟨tag, .stationCommand 3⟩
  | .stationStatus tag => some ⟨tag, .stationStatus⟩
  | .configureStation tag f => some ⟨tag, .configureStation f⟩
  | .sample tag ps => some ⟨tag, .sample ps⟩
  | .pointQuery tag f c => some ⟨tag, .pointQuery f c⟩
  | .configureShipperOpen tag n r => some ⟨tag, .configureShipper n 0 r⟩
  | .configureShipperSet tag n r => some ⟨tag, .configureShipper n 1 r⟩
  | .configureShipperSuspend tag n => some ⟨tag, .configureShipper n 2 Rights.zero⟩
  | .configureShipperReactivate tag n => some ⟨tag, .configureShipper n 3 Rights.zero⟩
  | .configureShipperClose tag n => some ⟨tag, .configureShipper n 4 Rights.zero⟩
  | .loadBalance tag n x => some ⟨tag, .loadBalance n x⟩
  | .transfer tag a b x h => some ⟨tag, .transfer a b x h⟩
  | .accountQuery tag n c => some ⟨tag, .accountQuery n c⟩
  | .allocationQuery tag x n => some ⟨tag, .allocationQuery x n⟩
  | .nominate tag n f sp d q => some ⟨tag, .nominate n f sp d q⟩
  | .nominationQuery tag n f => some ⟨tag, .nominationQuery n f⟩
  | .planQuery tag => some ⟨tag, .planQuery⟩
  | .configureCavern tag j f ia v => some ⟨tag, .configureCavern j 0 f ia v⟩
  | .deconfigureCavern tag j => some ⟨tag, .configureCavern j 1 CavernConfig.zero 0 0⟩
  | .cavernModeInService tag j => some ⟨tag, .cavernMode j 0⟩
  | .cavernModeOutOfService tag j => some ⟨tag, .cavernMode j 1⟩
  | .abandonSettle tag j => some ⟨tag, .cavernMode j 2⟩
  | .cavernQuery tag j => some ⟨tag, .cavernQuery j⟩
  | .configureUnit tag k f => some ⟨tag, .configureUnit k 0 f⟩
  | .deconfigureUnit tag k => some ⟨tag, .configureUnit k 1 UnitFields.absent⟩
  | .unitModeAvailable tag k => some ⟨tag, .unitMode k 0⟩
  | .unitModeUnavailable tag k => some ⟨tag, .unitMode k 1⟩
  | .unitModeRelease tag k => some ⟨tag, .unitMode k 2⟩
  | .unitQuery tag k => some ⟨tag, .unitQuery k⟩
  | .configureTrain tag t f => some ⟨tag, .configureTrain t 0 f⟩
  | .deconfigureTrain tag t => some ⟨tag, .configureTrain t 1 TrainFields.absent⟩
  | .trainModeInService tag t => some ⟨tag, .trainMode t 0⟩
  | .trainModeOutOfService tag t => some ⟨tag, .trainMode t 1⟩
  | .switchBeds tag t => some ⟨tag, .trainMode t 2⟩
  | .trainQuery tag t => some ⟨tag, .trainQuery t⟩
  | .orderQuery tag f c => some ⟨tag, .orderQuery f c⟩
  | .alertQuery tag => some ⟨tag, .alertQuery⟩
  | .alertControl tag a b c => some ⟨tag, .alertControl a b c⟩
  | .linkStatus tag => some ⟨tag, .linkStatus⟩
  | .linkReset tag => some ⟨tag, .linkReset⟩
  | _ => none

/-! ### What an alert and a trip leave -/

/-- An alert record after one raising (11 R178). -/
def AlertRecord.raised (a : AlertRecord) (object second : Nat) : AlertRecord :=
  { a with pending := true, count := min 255 (a.count + 1), object := object, second := second }

/-- `t` follows `s` by a trip of unit `k`, whose record was `u`, with an alert (08 R137 to R139): trip count,
lockout, the state reached while the feedback does not show STOPPED and while it does, and the alerts. -/
def tookTrip (s t : State) (k : Nat) (u : Compressor) (kind : AlertKind) : Prop :=
  let trips := min 255 (u.trips + 1)
  let down : Compressor :=
    { u with state := .tripped, load := 0, timeout := none, minRun := none, trips := trips }
  (u.config.tripLimit ≤ trips →
    t.unit k = some { down with state := .lockedOut } ∧ t.runOrder k = .stop ∧ t.loadOrder k = 0 ∧
    t.alert .unitLockout = (s.alert .unitLockout).raised k s.clk.stationSeconds) ∧
  (trips < u.config.tripLimit →
    t.alert .unitLockout = s.alert .unitLockout ∧
    (s.showsStopped k = false → t.unit k = some down ∧ t.runOrder k = .stop ∧ t.loadOrder k = 0) ∧
    (s.showsStopped k = true → 0 < u.config.minStop →
      t.unit k = some { down with state := .resting, minStop := some u.config.minStop } ∧
      t.runOrder k = .stop ∧ t.loadOrder k = 0) ∧
    (∃ x, t.unit k = some x ∧ x.trips = trips ∧ x.runSeconds = u.runSeconds)) ∧
  t.alert kind = (s.alert kind).raised k s.clk.stationSeconds ∧
  (u.state.capable = true → t.plu.due = true) ∧
  { t with cdu := { t.cdu with units := s.cdu.units }, plu := { t.plu with due := s.plu.due }, ori := s.ori
           als := s.als, slk := { t.slk with tx := s.slk.tx } } = s

/-- In `t`, cavern `j`, whose record was `c`, has left its flow (07 R110): SETTLING with its whole settle time, or
IDLE where that is 0, set-point and rate 0, the valve at SHUT, last direction and reversal count kept. -/
def tookSettling (t : State) (j : Nat) (c : Cavern) : Prop :=
  ∃ x, t.cavern j = some x ∧ x.config = c.config ∧ x.lastDir = c.lastDir ∧ x.reversals = c.reversals ∧
    x.setPoint = 0 ∧ t.valveOrder j = .shut ∧ t.rateOrder j = 0 ∧
    (if c.config.settleTime = 0 then x.state = .idle ∧ x.settle = none
     else x.state = .settling ∧ x.settle = some (c.config.settleTime * 60))

/-! ### What an entry to PARKED or TRIPPED leaves (07 R116, 08 R140, 09 R147) -/

/-- Cavern `j`, whose record in `s` was `c`, once the station has entered PARKED or TRIPPED: a flowing one has left
its flow, any other keeps its record and its rate; every cap is 0, and a valve entry that changed has restarted the
watch (log 18). -/
def stoppedCavern (s t : State) (j : Nat) (c : Cavern) : Prop :=
  (c.state.flowing = true → tookSettling t j c) ∧
  ∃ x, t.cavern j = some x ∧ x.capInject = 0 ∧ x.capWithdraw = 0 ∧ x.refInject = 0 ∧ x.refWithdraw = 0 ∧
    x.disagreement = (if s.valveOrder j = .shut then c.disagreement else 0) ∧
    (c.state.flowing = false →
      x = { c with disagreement := x.disagreement, capInject := 0, capWithdraw := 0, refInject := 0
                   refWithdraw := 0 } ∧ t.rateOrder j = s.rateOrder j)

/-- Unit `k`, whose record in `s` was `u`, once the station has entered PARKED or TRIPPED: a STARTING or RUNNING one
is STOPPING with its timeout, or RESTING or READY where its feedback shows STOPPED already; any other keeps its
record; the load entry holds the unit's load. -/
def stoppedUnit (s t : State) (k : Nat) (u : Compressor) : Prop :=
  let timer (n : Nat) : Option Nat := if n = 0 then none else some n
  let down : Compressor := { u with load := 0, minRun := none }
  let x : Compressor :=
    if u.state ≠ .starting ∧ u.state ≠ .running then u
    else if s.showsStopped k = false then { down with state := .stopping, timeout := timer u.config.startTimeout }
    else { down with timeout := none, minStop := timer u.config.minStop
                     state := if u.config.minStop = 0 ∧ u.startList.length < u.config.startsPerHour then .ready
                              else .resting }
  t.unit k = some x ∧ t.loadOrder k = x.load

/-- The planning capacity of a train under a condition (09 R153). -/
def Train.planned (r : Train) (condition : Condition) : Nat :=
  if r.state = .offline ∨ r.state = .offspec then 0
  else match condition with
    | .normal => r.config.capacity
    | .derated => r.config.capacity * r.config.derate / 100
    | .breakthrough => 0

/-- A train record with its condition and its planning capacity formed again, by the two tables of 09 R153. -/
def Train.formed (r : Train) : Train :=
  let (line, other) := if r.bedA.state = .adsorbing then (r.bedA, r.bedB) else (r.bedB, r.bedA)
  let limit := r.config.bedCapacity * 1000000
  let condition : Condition :=
    if limit ≤ line.loading then .breakthrough
    else if limit * r.config.switchPoint / 100 ≤ line.loading ∧ other.state ≠ .ready then .derated
    else .normal
  { r with condition := condition, planCap := r.planned condition }

/-- A train record once the station has entered PARKED or TRIPPED: an ONLINE one is STANDBY with both off-spec
counts 0 (log 23), any other stands (09 R147). -/
def Train.parked (r : Train) : Train :=
  if r.state = .online then Train.formed { r with state := .standby, aboveSpec := 0, inSpec := 0 } else r

/-- A train record whose beds have switched: the other bed is in line, the old one in `st` (09 R149). -/
def Train.switched (r : Train) (st : BedState) : Train :=
  let old := r.inLine
  let new := otherBed old
  let x := (r.setBed new { r.bed new with state := .adsorbing }).setBed old { r.bed old with state := st }
  Train.formed { x with remainder := 0 }

/-! ### The shape of the lists -/

/-- The kind of value an order entry holds (11 R176). -/
def OrderValue.shape : OrderValue → Nat
  | .valve _ => 0
  | .rate _ => 1
  | .run _ => 2
  | .load _ => 3
  | .train _ _ _ => 4
  | .isolation _ => 5

/-- The kinds of the 31 entries, in actuator order (11 R176). -/
def orderShapes : List Nat := resetOrders.map (fun e => e.value.shape)

/-- A snapshot holds a record for every object (01, section "The snapshot"). -/
def Snapshot.shaped (c : Snapshot) : Bool :=
  c.act.accounts.length == 16 && c.entries.length == 16 && c.caverns.length == 8 && c.units.length == 6 &&
  c.trains.length == 2 && c.enabled.length == 23

/-- Every block holds as many records as the manual gives it (00_scope.md 1.1), in the live state and in the
stored snapshots, and the bed that is HEATING is one of a train it has. -/
def State.shaped (s : State) : Bool :=
  s.smt.length == 41 && s.act.accounts.length == 16 && s.nst.length == 16 && s.cvc.length == 8 &&
  s.cdu.units.length == 6 && s.drc.trains.length == 2 && s.als.length == 23 &&
  (s.ori.map (fun e => e.value.shape) == orderShapes) && s.drc.heating.all (fun x => trainNumbers.contains x.1) &&
  s.sns.content.all Snapshot.shaped && s.sns.copy.all Snapshot.shaped

/-! ### Laws of a safe run -/

/-- Every valve entry holds SHUT and every run entry STOP (01 R12). -/
def State.ordersSafe (s : State) : Bool :=
  cavernNumbers.all (fun j => s.valveOrder j == .shut) && unitNumbers.all (fun k => s.runOrder k == .stop)

/-- No cavern flows and no unit is STARTING or RUNNING (07 R116, 08 R140). -/
def State.atRest (s : State) : Bool :=
  cavernNumbers.all (fun j => !(s.cavern j).any (fun c => c.state.flowing)) &&
  unitNumbers.all (fun k => !(s.unit k).any (fun u => u.state.engaged))

/-- While the station is not RUNNING no flow and no compressor is ordered, and none runs (01 R12). -/
def State.orderLaw (s : State) : Bool := s.sts.state == .running || (s.ordersSafe && s.atRest)

/-- The queues are within their sizes (11 R174, R175). -/
def State.queueLaw (s : State) : Bool := decide (s.slk.rx.length ≤ 8) && decide (s.slk.tx.length ≤ 48)

/-- An imbalance lies within plus or minus its limit (04 R56). -/
def Account.within (a : Account) : Bool := decide (a.imbalance.natAbs ≤ a.rights.imbalanceLimit)

/-- Every imbalance lies within its limit, in the live state and in the stored snapshots (04 R56). -/
def State.imbalanceLaw (s : State) : Bool :=
  s.act.accounts.all Account.within &&
  s.sns.content.all (fun c => c.act.accounts.all Account.within) &&
  s.sns.copy.all (fun c => c.act.accounts.all Account.within)

/-- Exactly one of two beds is ADSORBING (09 R150). -/
def oneAdsorbing (a b : BedState) : Bool := (a == .adsorbing) != (b == .adsorbing)

/-- The state of a bed of train `t`. -/
def State.bedState (s : State) (t : Nat) (bed : Bed) : Option BedState := (s.train t).map (fun r => (r.bed bed).state)

/-- Every configured train has exactly one ADSORBING bed; the heater queue names each SPENT bed once and no
other; the HEATING bed is the heater's; a bed waits only while another is HEATING, or in TRIPPED (09 R150). -/
def State.heaterLaw (s : State) : Bool :=
  s.drc.trains.all (fun r => r.all (fun r => oneAdsorbing r.bedA.state r.bedB.state)) &&
  decide s.drc.queue.Nodup &&
  s.drc.queue.all (fun x => s.bedState x.1 x.2 == some .spent) &&
  trainNumbers.all (fun t => [Bed.a, Bed.b].all (fun bed =>
    (s.bedState t bed != some .spent || s.drc.queue.contains (t, bed)) &&
    ((s.bedState t bed == some .heating) == (s.drc.heating == some (t, bed))))) &&
  (s.drc.queue.isEmpty || s.drc.heating.isSome || s.sts.state == .tripped) &&
  s.sns.content.all (fun c => c.trains.all (fun r => r.all (fun r => oneAdsorbing r.bedA.state r.bedB.state))) &&
  s.sns.copy.all (fun c => c.trains.all (fun r => r.all (fun r => oneAdsorbing r.bedA.state r.bedB.state)))

/-- The point record agrees with 02 R20 and R23: a NEVER record is empty, every other record has the grade of
its age, and a point whose object is not configured is NEVER. -/
def State.pointFits (s : State) (p : Nat) : Bool :=
  let x := s.point p
  match pointKind p with
  | some k =>
    (if x.quality = .never then x == Point.never
     else s.pointConfigured k && x.quality == gradeOf (limitOf s.cfg.limits k) x.age)
  | none => true

/-- Every point record shows the grade of its age (02 R32). -/
def State.pointLaw (s : State) : Bool := (List.range 41).all s.pointFits

/-! ### The nominations (05 R68) -/

/-- In hours counted from hour `b` on, and within half of the hour numbers (01 R2), the entries stand in ascending
order of first hour and no two cover the same hour. -/
def inOrderFrom (b : Nat) (es : List NomEntry) : Bool :=
  es.all (fun e => decide (1 ≤ e.span) && decide (hourDiff e.first b + e.span ≤ 786432)) &&
  decide (es.Pairwise (fun e f => hourDiff e.first b + e.span ≤ hourDiff f.first b))

/-- The law of R68 for one partition whose entries lie from hour `b` on: order, no overlap, no two adjacent entries
with equal fields, and each field a value of its range. A span may pass 48 hours in one case, which R71 leaves out:
entries nominated before a SET CLOCK to an earlier day are joined with later ones. -/
def entriesFrom (b : Nat) (es : List NomEntry) : Bool :=
  inOrderFrom b es && decide (es.IsChain (fun e f => e.joins f = false)) &&
  es.all (fun e => decide (e.first < 1572864) && decide (1 ≤ e.quantity) && decide (e.quantity ≤ 10000000))

/-- The law of R68 for a partition with no current hour to count from: its entries lie from its own first hour on. -/
def entriesSound (es : List NomEntry) : Bool := entriesFrom ((es.head?.map (·.first)).getD 0) es

/-- The hours that have ended and are not closed, oldest first: that of the close in flight, those that wait, and
that of a boundary that is due. -/
def State.openHours (s : State) : List Nat :=
  (s.hcu.close.map (·.hand.hour)).toList ++ s.hcu.handOvers.map (·.hour) ++
  (if s.clk.boundaryDue then [s.endedHour] else [])

/-- The oldest hour that is not closed: no entry covers an hour before it (05 R68). -/
def State.oldestHour (s : State) : Nat := s.openHours.head?.getD s.currentHour

/-- No nomination stands, and no hour is being closed. -/
def State.noNominations (s : State) : Bool :=
  s.nst.all (fun p => p.entries.isEmpty) && s.hcu.close.isNone && s.hcu.handOvers.isEmpty

/-- Every partition keeps the law of R68: outside BLANK from the oldest hour that is not closed on, and within the
partition size. The hours not closed yet follow one another up to the current hour, and none is open while the
clock is invalid. The stored snapshots keep the same. -/
def State.nominationLaw (s : State) : Bool :=
  (if s.clk.valid then
     decide (s.clk.second < 86400) && s.nst.all (fun p => entriesFrom s.oldestHour p.entries) &&
     s.openHours.zipIdx.all (fun x => hourAdd x.1 (s.openHours.length - x.2) == s.currentHour % 1572864)
   else s.openHours.isEmpty && s.nst.all (fun p => entriesSound p.entries)) &&
  s.nst.all (fun p => decide (p.entries.length ≤ s.partitionSize)) &&
  (!s.isBlank || s.noNominations) &&
  [s.sns.content, s.sns.copy].all (fun x => x.all (fun c => c.entries.all (fun es =>
    entriesSound es && decide (es.length ≤ 256 / shipperCount c.settings.mode))))

/-! ### The books (10 R168) -/

/-- The booked inventories of the configured caverns, summed. -/
def State.bookedSum (s : State) : Int := (s.cvc.map (fun c => (c.map (·.booked)).getD 0)).sum

/-- The shipper inventories of an account table, summed with the station account. -/
def Accounts.balance (a : Accounts) : Int := ((a.accounts.map (·.inventory)).sum : Nat) + a.station

/-- An account table as the requests leave it: a VACANT record holds no inventory, and a pending transfer names
two open accounts (04 R47, R54, R63). -/
def Accounts.sound (a : Accounts) : Bool :=
  a.accounts.all (fun x => x.state != .vacant || x.inventory == 0) &&
  a.transfers.all (fun t => ((nth a.accounts t.source).any (fun x => x.state != .vacant)) &&
    ((nth a.accounts t.target).any (fun x => x.state != .vacant)))

/-- The books of a stored snapshot agree. -/
def Snapshot.balanced (c : Snapshot) : Bool :=
  c.act.sound && decide ((c.caverns.map (fun x => (x.map (·.booked)).getD 0)).sum = c.act.balance) &&
  c.act.accounts.zipIdx.all (fun x => x.1.state == .vacant || decide (x.2 < shipperCount c.settings.mode))

/-- What a close in flight took is what still stands: the included shippers with their inventories, the
transfers, and the configured caverns (10 R158, R159). -/
def State.closeCurrent (s : State) (f : CloseFigures) : Bool :=
  (f.shippers.map (fun x => x.map (·.inventory)) ==
    shipperNumbers.map (fun n => if (s.accountOf n).state = .vacant then none else some (s.accountOf n).inventory)) &&
  f.transfers == s.act.transfers

/-- The caverns of a hand-over are the configured ones (07 R122). -/
def State.handsCaverns (s : State) (h : HandOver) : Bool := h.volumes.map (·.isSome) == s.cvc.map (·.isSome)

/-- The books agree: the booked inventories of the configured caverns sum to the shipper inventories plus the
station account (10 R168), with what keeps them so between closes. -/
def State.booksLaw (s : State) : Bool :=
  s.act.sound && decide (s.bookedSum = s.act.balance) &&
  s.act.accounts.zipIdx.all (fun x => x.1.state == .vacant || decide (x.2 < s.shippers)) &&
  (!s.isBlank || (s.act.accounts.all (fun a => a.state == .vacant) && s.hcu.close.isNone &&
    s.hcu.handOvers.isEmpty)) &&
  s.hcu.handOvers.all s.handsCaverns &&
  s.hcu.close.all (fun f => s.closeCurrent f && s.handsCaverns f.hand) &&
  s.sns.content.all Snapshot.balanced && s.sns.copy.all Snapshot.balanced

end Sys2Proof.Machine
end

