-- ==== Sys2Proof/WellFormed.lean ====
section
/-! DEFINITION. Well-formed commands: every operand fits the field it travels in (11 R172), and every
object number names an object the block has. -/

namespace Sys2Proof

/-- A value that fits one byte. -/
def isByte (n : Nat) : Bool := n < 2 ^ 8
/-- A value that fits two bytes. -/
def isHalf (n : Nat) : Bool := n < 2 ^ 16
/-- A value that fits four bytes. -/
def isWord (n : Nat) : Bool := n < 2 ^ 32
/-- A value that fits eight bytes. -/
def isLong (n : Nat) : Bool := n < 2 ^ 64
/-- A value that fits a signed field. -/
def isSigned (x : Int) : Bool := -(2 ^ 63) ≤ x && x < 2 ^ 63
/-- An absent field, or one that passes a test. -/
def optFits (p : Nat → Bool) : Option Nat → Bool
  | none => true
  | some n => p n

def Limit.wf (l : Limit) : Bool := isHalf l.fresh && isHalf l.hold

def ClassLimits.wf (l : ClassLimits) : Bool :=
  l.meter.wf && l.cv.wf && l.pressure.wf && l.flow.wf && l.feedback.wf && l.water.wf

def Settings.wf (f : Settings) : Bool :=
  isByte f.mode && isByte f.lead && isByte f.warnLevel && isHalf f.defaultCv && isHalf f.gridMargin &&
  isByte f.tolerance && isHalf f.statusInterval && f.limits.wf

def Rights.wf (r : Rights) : Bool :=
  isLong r.space && isWord r.injection && isWord r.withdrawal && isWord r.imbalanceLimit

def CavernConfig.wf (f : CavernConfig) : Bool :=
  isHalf f.pressureMin && isHalf f.pressureMax && isHalf f.warnMargin && isHalf f.maxRamp &&
  isWord f.injectionLimit && isWord f.withdrawalLimit && isHalf f.settleTime && isByte f.maxReversals &&
  isHalf f.travelTime

def UnitFields.wf (f : UnitFields) : Bool :=
  optFits isWord f.capacity && optFits isWord f.minFlow && optFits isByte f.startsPerHour &&
  optFits isHalf f.minRun && optFits isHalf f.minStop && optFits isHalf f.startTimeout &&
  optFits isByte f.tripLimit && optFits isByte f.stopBand

def TrainFields.wf (f : TrainFields) : Bool :=
  optFits isWord f.capacity && optFits isHalf f.bedCapacity && optFits isByte f.switchPoint &&
  optFits isByte f.derate && optFits isHalf f.heatingTime && optFits isHalf f.coolingTime &&
  optFits isHalf f.regenRate && optFits isHalf f.outletSpec && optFits isHalf f.designInlet &&
  optFits isHalf f.offspecDelay

/-- Pairs of a SAMPLE that fit one frame: at most 248 bytes of FIELDS (11 R172). -/
def pairsWf (ps : List (Nat × Nat)) : Bool :=
  ps.length ≤ 49 && ps.all (fun p => isByte p.1 && isWord p.2)

/-- A command whose operands fit their fields. -/
def Instr.wf : Instr → Bool
  | .powerOnOrReset .. => true
  | .resetAsserted => true
  | .tripNAssertion => true
  | .tripNRelease => true
  | .secondEvent => true
  | .minuteEvent => true
  | .hourBoundary => true
  | .hourCloseBegin => true
  | .hourCloseComplete => true
  | .planEvaluationBegin => true
  | .planEvaluationComplete => true
  | .snapshotWriteBegin => true
  | .snapshotWriteComplete _ => true
  | .settleTimerExpiry j => 1 ≤ j && j ≤ 8
  | .valveFault j => 1 ≤ j && j ≤ 8
  | .minRunExpiry k => 1 ≤ k && k ≤ 6
  | .minStopExpiry k => 1 ≤ k && k ≤ 6
  | .timeoutExpiry k => 1 ≤ k && k ≤ 6
  | .startListEntryDrop k => 1 ≤ k && k ≤ 6
  | .heatingExpiry => true
  | .coolingExpiry t => 1 ≤ t && t ≤ 2
  | .offspecEntry t => 1 ≤ t && t ≤ 2
  | .offspecRecovery t => 1 ≤ t && t ≤ 2
  | .statusCountdownExpiry => true
  | .frameReceived _ => true
  | .parserTimeout => true
  | .recordSent => true
  | .unknownKind tag kind => isByte tag && isByte kind && !requestKinds.contains kind
  | .setClock tag d s => isByte tag && isHalf d && isWord s
  | .stationCommandStart tag => isByte tag
  | .stationCommandPark tag => isByte tag
  | .stationCommandTrip tag => isByte tag
  | .stationCommandResume tag => isByte tag
  | .stationStatus tag => isByte tag
  | .configureStation tag f => isByte tag && f.wf
  | .sample tag ps => isByte tag && pairsWf ps
  | .pointQuery tag f c => isByte tag && isByte f && isByte c
  | .configureShipperOpen tag n r => isByte tag && isByte n && r.wf
  | .configureShipperSet tag n r => isByte tag && isByte n && r.wf
  | .configureShipperSuspend tag n => isByte tag && isByte n
  | .configureShipperReactivate tag n => isByte tag && isByte n
  | .configureShipperClose tag n => isByte tag && isByte n
  | .loadBalance tag n x => isByte tag && isByte n && isLong x
  | .transfer tag s t a h => isByte tag && isByte s && isByte t && isWord a && isWord h
  | .accountQuery tag n _ => isByte tag && isByte n
  | .allocationQuery tag s n => isByte tag && isByte s && isByte n
  | .nominate tag n f s d q => isByte tag && isByte n && isWord f && isByte s && isByte d && isWord q
  | .nominationQuery tag n f => isByte tag && isByte n && isByte f
  | .planQuery tag => isByte tag
  | .configureCavern tag j f ia v => isByte tag && isByte j && f.wf && isByte ia && isSigned v
  | .deconfigureCavern tag j => isByte tag && isByte j
  | .cavernModeInService tag j => isByte tag && isByte j
  | .cavernModeOutOfService tag j => isByte tag && isByte j
  | .abandonSettle tag j => isByte tag && isByte j
  | .cavernQuery tag j => isByte tag && isByte j
  | .configureUnit tag k f => isByte tag && isByte k && f.wf
  | .deconfigureUnit tag k => isByte tag && isByte k
  | .unitModeAvailable tag k => isByte tag && isByte k
  | .unitModeUnavailable tag k => isByte tag && isByte k
  | .unitModeRelease tag k => isByte tag && isByte k
  | .unitQuery tag k => isByte tag && isByte k
  | .configureTrain tag t f => isByte tag && isByte t && f.wf
  | .deconfigureTrain tag t => isByte tag && isByte t
  | .trainModeInService tag t => isByte tag && isByte t
  | .trainModeOutOfService tag t => isByte tag && isByte t
  | .switchBeds tag t => isByte tag && isByte t
  | .trainQuery tag t => isByte tag && isByte t
  | .orderQuery tag f c => isByte tag && isByte f && isByte c
  | .alertQuery tag => isByte tag
  | .alertControl tag a b c => isByte tag && isWord a && isWord b && isWord c
  | .linkStatus tag => isByte tag
  | .linkReset tag => isByte tag
  | .byteReceived _ => true

end Sys2Proof
end

