-- ==== Sys2Proof/Certificates/Slice0/Obligations.lean ====
section
/-! DEFINITION. The statements for the provers, chapter by chapter. A request arrives in a `receptive` state
and an event from outside in a `quiet` one: nothing is due, so the command acts at once. Every statement gives
the next state whole, or names what may change and gives the rest by one equation. -/

open Sys2Proof Sys2Proof.Machine

/-! ### The step and the commands -/

/-- The step takes the command at the front of the queue; on an empty queue the block idles (log 2). -/
def Obligations.StepTakesFrontCommand : Prop :=
  (∀ (c : Instr) (s : State), step { s with pending := c :: s.pending } = exec c s) ∧
  (∀ s : State, s.pending = [] → step s = .next s)

/-- No command stops the part, and none touches the commands that wait (log 36). Held in reset, the part takes
only its release (log 7); and a step the part makes due itself has no effect while nothing is due (log 1). -/
def Obligations.EveryCommandAnswersNextState : Prop :=
  (∀ (c : Instr) (s : State), ∃ t, exec c s = .next t ∧ t.pending = s.pending) ∧
  ((∀ (c : Instr) (s : State), s.sts.inReset = true →
    (∀ a b d e, c ≠ .powerOnOrReset a b d e) → exec c s = .next s) ∧
  (∀ (c : Instr) (s : State), ownSteps c = true → s.quiet = true → exec c s = .next s))

/-- `State.reset` is the blank start of R18 with the store EMPTY (the inactive pin and the line speed are
log 5), and it keeps every law stated below. -/
def Obligations.ResetStateIsBlankStart : Prop :=
  let s := State.reset
  s.sts = ⟨.blank, false, false⟩ ∧ s.clk.valid = false ∧ s.clk.gasDay = 0 ∧ s.clk.stationSeconds = 0 ∧
  (∀ n ∈ shipperNumbers, s.account n = some Account.vacant ∧ (s.partition n).entries = []) ∧
  s.act.station = 0 ∧ s.act.transfers = [] ∧ s.cfg = blankSettings ∧
  (∀ j, s.cavern j = none) ∧ (∀ k, s.unit k = none) ∧ (∀ t, s.train t = none) ∧
  s.hcu = ⟨none, [], true, none, none⟩ ∧ s.plu = ⟨none, false, none⟩ ∧ s.sns = ⟨.empty, false, none, none⟩ ∧
  (∀ p, s.point p = Point.never) ∧ s.mtu = Meter.zero ∧ s.cdu.required = true ∧
  s.drc.queue = [] ∧ s.drc.heating = none ∧ s.drc.rate = 0 ∧
  s.slk.rx = [] ∧ s.slk.tx = [] ∧ s.slk.parser = .hunt ∧
  (s.slk.lengthTally, s.slk.crcTally, s.slk.timeoutTally, s.slk.overrunTally) = (0, 0, 0, 0) ∧
  (∀ k : AlertKind, s.alert k = ⟨false, true, 0, 0, 0⟩) ∧ s.attnN = true ∧ s.trippedPin = false ∧
  (∀ j ∈ cavernNumbers, s.order j = some ⟨.valve .shut, 0, false⟩ ∧ s.order (8 + j) = some ⟨.rate 0, 0, false⟩) ∧
  (∀ k ∈ unitNumbers, s.order (16 + k) = some ⟨.run .stop, 0, false⟩ ∧
    s.order (22 + k) = some ⟨.load 0, 0, false⟩) ∧
  (∀ t ∈ trainNumbers, s.order (28 + t) = some ⟨.train .offline .a .none, 0, false⟩) ∧
  s.order 31 = some ⟨.isolation .isolate, 0, false⟩ ∧ s.pending = [] ∧
  s.shaped = true ∧ s.orderLaw = true ∧ s.queueLaw = true ∧ s.imbalanceLaw = true ∧ s.heaterLaw = true ∧
  s.pointLaw = true ∧ s.nominationLaw = true ∧ s.booksLaw = true

/-! ### Laws that every step keeps -/

/-- Every block keeps as many records as 00_scope.md 1.1 gives it. -/
def Obligations.StepKeepsShape : Prop :=
  ∀ s t : State, s.shaped = true → step s = .next t → t.shaped = true

/-- While the station is not RUNNING, every valve entry holds SHUT and every run entry STOP, and no cavern
flows and no unit runs. -/
def Obligations.StepKeepsSafeOrders : Prop :=
  ∀ s t : State, s.shaped = true → s.orderLaw = true → step s = .next t → t.orderLaw = true

/-- The receive queue holds at most 8 requests and the transmit queue at most 48 records. -/
def Obligations.StepKeepsQueueSizes : Prop :=
  ∀ s t : State, s.queueLaw = true → step s = .next t → t.queueLaw = true

/-- Every shipper's imbalance lies within plus or minus its imbalance limit. -/
def Obligations.StepKeepsImbalanceWithinLimit : Prop :=
  ∀ s t : State, s.imbalanceLaw = true → step s = .next t → t.imbalanceLaw = true

/-- Every configured train has exactly one ADSORBING bed, the heater queue names each SPENT bed once, and the
heater holds the one HEATING bed. -/
def Obligations.StepKeepsOneAdsorbingBed : Prop :=
  ∀ s t : State, s.shaped = true → s.heaterLaw = true → step s = .next t → t.heaterLaw = true

/-- Every point's quality follows from its age, its class limits and whether it has left NEVER. -/
def Obligations.StepKeepsPointGrades : Prop :=
  ∀ s t : State, s.shaped = true → s.pointLaw = true → step s = .next t → t.pointLaw = true

/-! ### The serial line -/

/-- Every well-formed request row is read back from the bytes of its kind, its tag and its FIELDS (a SAMPLE with
1 to 16 pairs). A whole frame takes the parser from HUNT to HUNT; its last byte brings the request, and no byte
before it brings anything. The field widths are log 12, the codes of a row that names an action log 34. -/
def Obligations.RequestFramesAreReadBack : Prop :=
  (∀ (c : Instr) (r : Request), c.wf = true → requestOf c = some r →
    (∀ ps, r.body = .sample ps → 1 ≤ ps.length ∧ ps.length ≤ 16) →
    decodeRequest (BitVec.ofNat 8 r.body.kind) (BitVec.ofNat 8 r.tag) r.body.bytes = r) ∧
  (∀ (kind tag : Byte) (fields : List Byte), fields.length ≤ 248 →
    parseBytes .hunt (requestFrame kind tag fields) =
      (.hunt, List.replicate (fields.length + 5) ByteEvent.none ++ [.frame (decodeRequest kind tag fields)]))

/-- The table of R173, byte by byte, the four tallies, the timeout, and the two ways back to HUNT with every
tally 0. That FRAME_RECEIVED acts as BYTE_RECEIVED does, in every parser state, is log 33. -/
def Obligations.ParserTakesBytesByState : Prop :=
  (∀ (x : Byte) (s : State), exec (.frameReceived x) s = exec (.byteReceived x) s) ∧
  (∀ (x : Byte) (s : State), s.quiet = true → s.slk.parser = .hunt →
    exec (.byteReceived x) s =
      .next (if x = 0xC5 then { s with slk := { s.slk with parser := .length } } else s)) ∧
  (∀ (x : Byte) (s : State), s.quiet = true → s.slk.parser = .length →
    exec (.byteReceived x) s =
      .next (if 2 ≤ x.toNat ∧ x.toNat ≤ 250 then { s with slk := { s.slk with parser := .body x.toNat [x] } }
             else { s with slk := { s.slk with parser := .hunt
                                               lengthTally := min 65535 (s.slk.lengthTally + 1) } })) ∧
  (∀ (x : Byte) (s : State) (n : Nat) (kept : List Byte), s.quiet = true → s.slk.parser = .body n kept →
    exec (.byteReceived x) s =
      .next { s with slk := { s.slk with
        parser := if n ≤ 1 then .check1 (kept ++ [x]) else .body (n - 1) (kept ++ [x]) } }) ∧
  (∀ (x : Byte) (s : State) (kept : List Byte), s.quiet = true → s.slk.parser = .check1 kept →
    exec (.byteReceived x) s = .next { s with slk := { s.slk with parser := .check2 kept x } }) ∧
  (∀ (x high : Byte) (s : State) (kept : List Byte), s.quiet = true → s.slk.parser = .check2 kept high →
    crc16 kept ≠ high.toNat * 256 + x.toNat →
    exec (.byteReceived x) s =
      .next { s with slk := { s.slk with parser := .hunt, crcTally := min 65535 (s.slk.crcTally + 1) } }) ∧
  (∀ (x high len kind tag : Byte) (fields : List Byte) (s : State), s.quiet = true →
    s.slk.parser = .check2 (len :: kind :: tag :: fields) high →
    crc16 (len :: kind :: tag :: fields) = high.toNat * 256 + x.toNat →
    exec (.byteReceived x) s =
      .next (if 8 ≤ s.slk.rx.length then
               { s with slk := { s.slk with parser := .hunt, overrunTally := min 65535 (s.slk.overrunTally + 1) } }
             else if s.slk.rx = [] then
               ({ s with slk := { s.slk with parser := .hunt, rx := [decodeRequest kind tag fields] } } :
                 State).takeHead
             else
               { s with slk := { s.slk with parser := .hunt
                                            rx := s.slk.rx ++ [decodeRequest kind tag fields] } })) ∧
  (∀ s : State, s.quiet = true → s.slk.parser = .hunt → exec .parserTimeout s = .next s) ∧
  (∀ s : State, s.quiet = true → s.slk.parser ≠ .hunt →
    exec .parserTimeout s =
      .next { s with slk := { s.slk with parser := .hunt, timeoutTally := min 65535 (s.slk.timeoutTally + 1) } }) ∧
  (∀ c s t, (c = .resetAsserted ∨ ∃ a b d e, c = .powerOnOrReset a b d e) → s.quiet = true →
    exec c s = .next t → t.slk.parser = .hunt ∧
      (t.slk.lengthTally, t.slk.crcTally, t.slk.timeoutTally, t.slk.overrunTally) = (0, 0, 0, 0)) ∧
  (∀ (tag : Nat) (s t : State), s.receptive = true → exec (.linkReset tag) s = .next t →
    t.slk.parser = .hunt ∧
      (t.slk.lengthTally, t.slk.crcTally, t.slk.timeoutTally, t.slk.overrunTally) = (0, 0, 0, 0))

/-- A request that reaches the head while a close is in flight is held where its kind is one of the eight; any
other kind is taken at once. At the completion a held request stays held where a waiting close begins; else it is taken,
and the queue moves on in order to its end where the replies find room. -/
def Obligations.CloseHoldsTheAccountRequests : Prop :=
  (∀ (c : Instr) (r : Request) (s : State), requestOf c = some r → s.receptive = true → s.hcu.close.isSome = true →
    (r.body.kind ∈ [0x0B, 0x0C, 0x08, 0x09, 0x0A, 0x10, 0x11, 0x18] →
      exec c s = .next { s with slk := { s.slk with rx := [r] } }) ∧
    (r.body.kind ∉ [0x0B, 0x0C, 0x08, 0x09, 0x0A, 0x10, 0x11, 0x18] →
      ∃ t, exec c s = .next t ∧ t.slk.rx = [] ∧
        ∃ more, t.slk.tx = (if r.body = .linkReset then [] else s.slk.tx) ++ more ∧ more ≠ [])) ∧
  (∀ (r : Request) (more : List Request) (s : State), s.quiet = true → s.shaped = true →
    s.hcu.close.isSome = true → s.slk.rx = r :: more → more.length < 8 →
    r.body.kind ∈ [0x0B, 0x0C, 0x08, 0x09, 0x0A, 0x10, 0x11, 0x18] → (∀ k, r.body ≠ .unknown k) →
    ∃ t, exec .hourCloseComplete s = .next t ∧
      (s.hcu.handOvers ≠ [] → t.hcu.close.isSome = true ∧ t.slk.rx = r :: more) ∧
      (s.hcu.handOvers = [] → s.slk.tx.length < 40 →
        t.hcu.close = none ∧ t.slk.rx = [] ∧
        (more = [] → ∃ x, t.slk.tx.getLast? = some x ∧ x.kind = r.body.kind + 0x40 ∧ x.tag = r.tag)))

/-! ### 01: reset, the trip pin and the clock -/

/-- A release with the store EMPTY or INVALID: the blank start, STORE_FAULT for an INVALID store, then STATION_TRIP
for an active pin. RESET_N asserted: a write in flight leaves the store INVALID, an hour close in flight ends
without its posting, and the part is held with nothing volatile kept. A POWER_ON_OR_RESET that finds the part running
acts on the state that RESET_ASSERTED leaves. Both are log 7. -/
def Obligations.ResetWithoutSnapshotStartsBlank : Prop :=
  (∀ (crc trip b1 b0 : Bool) (s : State), s.sts.inReset = true →
    (s.sns.state = .valid → crc = false) →
    let fault := s.sns.state ≠ .empty
    let raised : AlertRecord := ⟨true, true, 1, 0, 0⟩
    let silent : AlertRecord := ⟨false, true, 0, 0, 0⟩
    let report (k : Nat) : Record := ⟨0x83, 0, [.u8 k, .u8 1, .u8 0, .u32 0]⟩
    exec (.powerOnOrReset crc trip b1 b0) s = .next
      { State.reset with
          sts := ⟨.blank, trip, false⟩
          sns := ⟨if fault then .invalid else .empty, false, none, none⟩
          als := (if trip then raised else silent) :: (if fault then raised else silent) ::
                 List.replicate 21 silent
          slk := { State.reset.slk with
                     lineSpeed := lineSpeedOf b1 b0
                     tx := (if fault then [report 2] else []) ++ (if trip then [report 1] else []) }
          pending := s.pending }) ∧
  (∀ s : State, s.quiet = true →
    exec .resetAsserted s = .next
      { State.reset with
          sts := ⟨.blank, false, true⟩
          sns := ⟨if s.sns.state = .writing then .invalid else s.sns.state, false,
                  if s.sns.state = .valid then s.sns.content else none, none⟩
          pending := s.pending }) ∧
  (∀ (crc trip b1 b0 : Bool) (s : State), s.quiet = true →
    ∃ h, exec .resetAsserted s = .next h ∧
      exec (.powerOnOrReset crc trip b1 b0) s = exec (.powerOnOrReset crc trip b1 b0) h)

/-- A release with a VALID store: the snapshot restored with the adjustments of R17, PARKED, PLU due. For an
inactive pin the heater takes the head of the rebuilt queue, with its step HEAT as the one order; for an active
pin the trip entry from PARKED, its 17 orders before its STATION_TRIP. A train's condition and planning
capacity are formed from the restored loadings by the tables of 09 R153; that a loaded bed so raises no alert is
log 21. -/
def Obligations.ReleaseWithSnapshotRestores : Prop :=
  ∀ (trip b1 b0 : Bool) (s : State) (c : Snapshot), s.sts.inReset = true → s.sns.state = .valid →
    s.sns.content = some c → c.shaped = true →
    let after (x : SnapTrain) (bed : Bed) : BedState :=
      let recorded := match bed with
        | .a => x.bedA.state
        | .b => x.bedB.state
      if recorded = .heating ∨ recorded = .cooling then .spent else recorded
    ∃ t, exec (.powerOnOrReset true trip b1 b0) s = .next t ∧
      t.sts = ⟨if trip then .tripped else .parked, trip, false⟩ ∧
      t.clk = { State.reset.clk with gasDay := c.gasDay } ∧
      t.sns = ⟨.valid, false, some c, none⟩ ∧ t.cfg = c.settings ∧ t.act = c.act ∧
      t.nst = c.entries.map (fun es => { entries := es, disarmed := false }) ∧
      t.plu = ⟨none, true, none⟩ ∧ t.mtu = Meter.zero ∧ t.smt = List.replicate 41 Point.never ∧
      t.hcu = ⟨none, [], true, c.lastClosed, none⟩ ∧ t.pending = s.pending ∧
      (∀ j ∈ cavernNumbers, t.cavern j = ((nth c.caverns j).join).map (fun x =>
        { config := x.config, lastDir := x.lastDir, reversals := x.reversals, booked := x.booked
          state := if x.state = .injecting ∨ x.state = .withdrawing ∨ x.state = .settling then .idle else x.state
          settle := none, disagreement := 0, full := false, empty := false, rampDisarmed := false, setPoint := 0,
          refInject := 0, refWithdraw := 0, capInject := 0, capWithdraw := 0, volInject := 0, volWithdraw := 0,
          qInject := 0, qWithdraw := 0, ring := [], faultDue := false })) ∧
      (∀ k ∈ unitNumbers, t.unit k = ((nth c.units k).join).map (fun x =>
        { config := x.config, runSeconds := x.runSeconds, trips := x.trips
          state := if x.state = .unavailable ∨ x.state = .lockedOut then x.state else .ready
          startList := [], minRun := none, minStop := none, timeout := none, load := 0 })) ∧
      t.cdu.required = true ∧
      (∀ n ∈ trainNumbers, ∀ x, (nth c.trains n).join = some x →
        let r : Train :=
          { config := x.config, state := if x.state = .offline then .offline else .standby
            bedA := ⟨after x .a, x.bedA.loading⟩, bedB := ⟨after x .b, x.bedB.loading⟩
            remainder := 0, cooling := none, aboveSpec := 0, inSpec := 0, condition := .normal, lastRegen := none
            planCap := 0 }
        ((∀ bed : Bed, t.drc.heating ≠ some (n, bed)) → t.train n = some r.formed) ∧
        (∀ bed : Bed, t.drc.heating = some (n, bed) →
          t.train n = some (r.setBed bed { r.bed bed with state := .heating }).formed ∧
          t.drc.heatingTimer = some (x.config.heatingTime * 60) ∧ t.drc.rate = x.config.regenRate)) ∧
      (∀ n ∈ trainNumbers, (nth c.trains n).join = none → t.train n = none) ∧
      (let spent : List (Nat × Bed) := [(1, .a), (1, .b), (2, .a), (2, .b)].filter (fun q =>
         (nth c.trains q.1).join.any (fun x => after x q.2 == .spent))
       if trip then t.drc.queue = spent ∧ t.drc.heating = none
       else t.drc.queue = spent.drop 1 ∧ t.drc.heating = spent.head?) ∧
      t.drc.gasRemainder = 0 ∧ t.drc.volume = 0 ∧
      (t.drc.heating = none → t.drc.heatingTimer = none ∧ t.drc.rate = 0) ∧
      t.slk.rx = [] ∧ t.slk.parser = .hunt ∧ t.slk.statusCountdown = c.settings.statusInterval ∧
      t.slk.lineSpeed = lineSpeedOf b1 b0 ∧
      (trip = false → t.als = c.enabled.map (fun e => ⟨false, e, 0, 0, 0⟩) ∧
        (∀ i, i ≤ 28 ∨ i = 31 → t.order i = State.reset.order i) ∧
        (∀ n ∈ trainNumbers, (∀ bed, t.drc.heating ≠ some (n, bed)) → t.order (28 + n) = State.reset.order (28 + n)) ∧
        (∀ n bed, t.drc.heating = some (n, bed) →
          t.order (28 + n) = some ⟨.train .offline .a (.heat bed), 0, false⟩) ∧
        t.slk.tx = match t.drc.heating with
          | some (n, bed) => [⟨0x80, 0, [.u8 (28 + n), .u32 (0x02000100 + bedCode bed), .u32 0]⟩]
          | none => []) ∧
      (trip = true →
        t.als = (c.enabled.map (fun e => ⟨false, e, 0, 0, 0⟩)).modifyHead (fun r =>
          { r with pending := true, count := 1 }) ∧
        t.ori = State.reset.ori ∧
        t.slk.tx =
          ([1, 2, 3, 4, 5, 6, 7, 8].map (fun i => ⟨0x80, 0, [.u8 i, .u32 0, .u32 0]⟩) ++
           [17, 18, 19, 20, 21, 22].map (fun i => ⟨0x80, 0, [.u8 i, .u32 1, .u32 0]⟩) ++
           [29, 30].map (fun i => ⟨0x80, 0, [.u8 i, .u32 0x02000000, .u32 0]⟩) ++
           [⟨0x80, 0, [.u8 31, .u32 1, .u32 0]⟩]) ++
          (if c.enabled.head? = some true then [⟨0x83, 0, [.u8 1, .u8 1, .u8 0, .u32 0]⟩] else []))

/-- The pin: an assertion in BLANK or TRIPPED raises STATION_TRIP again and repeats no order; a pin that was
active already brings nothing; a release is only recorded. -/
def Obligations.TripPinIsRecorded : Prop :=
  (∀ s : State, s.quiet = true → s.sts.tripActive = false → s.sts.state = .blank ∨ s.sts.state = .tripped →
    exec .tripNAssertion s =
      .next (({ s with sts := { s.sts with tripActive := true } } : State).raise .stationTrip 0)) ∧
  (∀ s : State, s.quiet = true → s.sts.tripActive = true → exec .tripNAssertion s = .next s) ∧
  (∀ s : State, s.quiet = true →
    exec .tripNRelease s = .next { s with sts := { s.sts with tripActive := false } }) ∧
  (∀ (tag : Nat) (s : State), s.receptive = true → s.sts.state = .tripped →
    exec (.stationCommandTrip tag) s = .next ((s.raise .stationTrip 0).replied 0x02 tag .ok []))

/-- The entry to TRIPPED from PARKED or RUNNING, by the pin or by the TRIP command: every safe order written at the
present second, the caverns, units and trains stopped, and a heating under way aborted with its step NONE. The watch
of a valve entry that changed restarts (log 18); the off-spec counts of STANDBY are log 23. The records offered join
the transmit queue, and the OK reply to the TRIP command comes last. The alert records of TRAIN_DERATED,
TRAIN_BREAKTHROUGH and REPORTS_DROPPED, which the entry may raise besides STATION_TRIP, are left open. -/
def Obligations.TripEntryMakesTheStationSafe : Prop :=
  ∀ (c : Instr) (s : State), s.shaped = true → s.heaterLaw = true → s.sts.state = .parked ∨ s.sts.state = .running →
    (c = .tripNAssertion ∧ s.quiet = true ∧ s.sts.tripActive = false) ∨
      (∃ tag, c = .stationCommandTrip tag ∧ s.receptive = true) →
    let now := s.clk.stationSeconds
    let heats (n : Nat) : Prop := s.drc.heating = some (n, .a) ∨ s.drc.heating = some (n, .b)
    ∃ t, exec c s = .next t ∧
      t.sts = { s.sts with state := .tripped, tripActive := s.sts.tripActive || c == .tripNAssertion } ∧
      t.trippedPin = true ∧
      (∀ j ∈ cavernNumbers, ∃ u, t.order j = some ⟨.valve .shut, now, u⟩) ∧
      (∀ k ∈ unitNumbers, ∃ u, t.order (16 + k) = some ⟨.run .stop, now, u⟩) ∧
      (∀ n ∈ trainNumbers,
        (heats n → ∃ u, t.order (28 + n) = some ⟨.train .offline (s.trainOrder n).2.1 .none, now, u⟩) ∧
        (¬ heats n → ∃ u,
          t.order (28 + n) = some ⟨.train .offline (s.trainOrder n).2.1 (s.trainOrder n).2.2, now, u⟩)) ∧
      (∃ u, t.order 31 = some ⟨.isolation .isolate, now, u⟩) ∧
      t.plu = { s.plu with due := true } ∧
      (∀ n bed, s.drc.heating = some (n, bed) →
        t.drc = { s.drc with trains := t.drc.trains, heating := none, heatingTimer := none, rate := 0
                             queue := (n, bed) :: s.drc.queue } ∧
        (∀ r, s.train n = some r →
          let x : Train := { r.setBed bed { r.bed bed with state := .spent } with
                               lastRegen := some ⟨bed, s.drc.volume, .aborted⟩ }
          t.train n = some x.formed.parked)) ∧
      (s.drc.heating = none → t.drc = { s.drc with trains := t.drc.trains }) ∧
      (∀ n ∈ trainNumbers, ∀ r, s.train n = some r → ¬ heats n → t.train n = some r.parked) ∧
      (let a := s.alert .stationTrip
       t.alert .stationTrip = { a with pending := true, count := min 255 (a.count + 1), object := 0,
                                       second := now }) ∧
      (∀ b, b ∉ [AlertKind.stationTrip, .trainDerated, .trainBreakthrough, .reportsDropped] →
        t.alert b = s.alert b) ∧
      t.atRest = true ∧
      (∀ j ∈ cavernNumbers, ∀ x, s.cavern j = some x → stoppedCavern s t j x) ∧
      (∀ k ∈ unitNumbers, ∀ u, s.unit k = some u → stoppedUnit s t k u) ∧
      (∀ j ∈ cavernNumbers, s.cavern j = none → t.cavern j = none ∧ t.order (8 + j) = s.order (8 + j)) ∧
      (∀ k ∈ unitNumbers, s.unit k = none → t.unit k = none ∧ t.order (22 + k) = s.order (22 + k)) ∧
      t.cdu.required = s.cdu.required ∧
      (∀ n ∈ trainNumbers, ∀ r, t.train n = some r → r.state ≠ .online) ∧
      (∃ more, t.slk.tx = s.slk.tx ++ more) ∧
      (∀ tag, c = .stationCommandTrip tag → ∃ more, t.slk.tx = s.slk.tx ++ more ++ [⟨0x42, tag, [.u8 0]⟩]) ∧
      { t with sts := s.sts, plu := s.plu, cvc := s.cvc, cdu := s.cdu, drc := s.drc, ori := s.ori, als := s.als
               slk := { t.slk with tx := s.slk.tx } } = s

/-- SET CLOCK while the clock is invalid (the station is not RUNNING then: START asks for a valid clock), and as a
trim of a valid clock; the trim sum is 0 when the clock becomes valid and returns to 0 at each hour boundary. -/
def Obligations.SetClockSetsOrTrims : Prop :=
  (∀ (tag day sec : Nat) (s : State), s.receptive = true → s.clk.valid = false → s.sts.state ≠ .running →
    let hour := day * 24 + sec / 3600
    if sec > 86399 ∨ (∃ h, s.hcu.lastClosed = some h ∧ hourAtOrBefore hour h = true) then
      exec (.setClock tag day sec) s = .next (s.replied 0x01 tag .badRange [])
    else ∃ t, exec (.setClock tag day sec) s = .next t ∧
      t.clk = { s.clk with valid := true, gasDay := day, second := sec, trimSum := 0 } ∧
      (∀ n ∈ shipperNumbers, (t.partition n).entries =
        (s.partition n).entries.flatMap (fun e => e.retire (hourPred hour))) ∧
      t.plu = { s.plu with due := true } ∧ t.sns = { s.sns with due := true } ∧
      (day = s.clk.gasDay → t.cvc = s.cvc ∧ t.cdu = s.cdu) ∧
      (day ≠ s.clk.gasDay →
        (∀ j ∈ cavernNumbers, ∀ c, t.cavern j = some c → c.reversals = 0 ∧
          ∃ c', s.cavern j = some c' ∧ c.state = c'.state ∧ c.settle = c'.settle ∧ c.lastDir = c'.lastDir ∧
            c.booked = c'.booked) ∧
        (∀ k ∈ unitNumbers, t.unit k = (s.unit k).map (fun u => { u with trips := 0 }))) ∧
      { t with clk := s.clk, nst := s.nst, plu := s.plu, sns := s.sns, cvc := s.cvc, cdu := s.cdu } =
        s.replied 0x01 tag .ok []) ∧
  ((∀ (tag day sec : Nat) (s : State), s.receptive = true → s.clk.valid = true →
    let change : Int := ((day * 86400 + sec : Nat) : Int) - ((s.clk.gasDay * 86400 + s.clk.second : Nat) : Int)
    if sec > 86399 ∨ change > 120 ∨ change < -120 ∨
        day * 24 + sec / 3600 ≠ s.clk.gasDay * 24 + s.clk.second / 3600 ∨
        s.clk.trimSum + change > 120 ∨ s.clk.trimSum + change < -120 then
      exec (.setClock tag day sec) s = .next (s.replied 0x01 tag .badRange [])
    else
      exec (.setClock tag day sec) s = .next
        (({ s with clk := { s.clk with second := sec, trimSum := s.clk.trimSum + change } } : State).replied 0x01
          tag .ok [])) ∧
  (∀ s t : State, s.sts.inReset = false → s.clk.boundaryDue = true → exec .hourBoundary s = .next t →
    t.clk.trimSum = 0))

/-- START, taken in PARKED with a valid clock and a configured cavern; refused in any other case. That the entry
forms the caps and makes no split is log 15. -/
def Obligations.StartOpensTheStation : Prop :=
  ∀ (tag : Nat) (s : State), s.receptive = true → s.shaped = true →
    let now := s.clk.stationSeconds
    if s.sts.state = .parked ∧ s.clk.valid = true ∧ s.cvc.any Option.isSome = true then
      ∃ t, exec (.stationCommandStart tag) s = .next t ∧
        t.sts = { s.sts with state := .running } ∧ t.plu = { s.plu with due := true } ∧
        (∀ sec u, s.order 31 = some ⟨.isolation .isolate, sec, u⟩ →
          if s.occupancy < 38 then
            t.order 31 = some ⟨.isolation .open, now, false⟩ ∧
            t.slk.tx = s.slk.tx ++ [⟨0x80, 0, [.u8 31, .u32 0, .u32 now]⟩, ⟨0x42, tag, [.u8 0]⟩]
          else t.order 31 = some ⟨.isolation .open, now, true⟩ ∧ t.slk.tx = s.slk.tx ++ [⟨0x42, tag, [.u8 0]⟩]) ∧
        (∀ sec u, s.order 31 = some ⟨.isolation .open, sec, u⟩ →
          t.ori = s.ori ∧ t.slk.tx = s.slk.tx ++ [⟨0x42, tag, [.u8 0]⟩]) ∧
        (∀ i, i ≠ 31 → t.order i = s.order i) ∧
        (∀ j ∈ cavernNumbers, ∀ c, t.cavern j = some c → ∃ c', s.cavern j = some c' ∧
          c = { c' with capInject := c.capInject, capWithdraw := c.capWithdraw, refInject := c.refInject
                        refWithdraw := c.refWithdraw } ∧
          c.capInject = t.formCap j c .inject ∧ c.capWithdraw = t.formCap j c .withdraw) ∧
        { t with sts := s.sts, plu := s.plu, cvc := s.cvc, ori := s.ori, slk := { t.slk with tx := s.slk.tx } } = s
    else exec (.stationCommandStart tag) s = .next (s.replied 0x02 tag .wrongState [])

/-- PARK, taken in RUNNING; refused in any other state. The safe orders are written at the present second; every
flowing cavern leaves its flow and every other keeps its state and its timer; every STARTING or RUNNING unit goes
to STOPPING, and on to RESTING or READY where its feedback shows STOPPED already; every ONLINE train goes to
STANDBY, its off-spec counts 0 (log 23). The watch of a valve entry that changed restarts (log 18). -/
def Obligations.ParkStopsTheStation : Prop :=
  ∀ (tag : Nat) (s : State), s.receptive = true → s.shaped = true →
    let now := s.clk.stationSeconds
    if s.sts.state = .running then
      ∃ t, exec (.stationCommandPark tag) s = .next t ∧
        t.sts = { s.sts with state := .parked } ∧ t.plu = { s.plu with due := true } ∧
        (∀ j ∈ cavernNumbers, ∃ u, t.order j = some ⟨.valve .shut, now, u⟩) ∧
        (∀ k ∈ unitNumbers, ∃ u, t.order (16 + k) = some ⟨.run .stop, now, u⟩) ∧
        (∀ n ∈ trainNumbers, ∃ u,
          t.order (28 + n) = some ⟨.train .offline (s.trainOrder n).2.1 (s.trainOrder n).2.2, now, u⟩) ∧
        t.order 31 = s.order 31 ∧ t.atRest = true ∧
        (∀ j ∈ cavernNumbers, ∀ c, s.cavern j = some c → stoppedCavern s t j c) ∧
        (∀ k ∈ unitNumbers, ∀ u, s.unit k = some u → stoppedUnit s t k u) ∧ t.cdu.required = s.cdu.required ∧
        (∀ n ∈ trainNumbers, ∀ r, s.train n = some r → t.train n = some r.parked) ∧
        (∃ more, t.slk.tx = s.slk.tx ++ more ++ [⟨0x42, tag, [.u8 0]⟩]) ∧
        { t with sts := s.sts, plu := s.plu, cvc := s.cvc, cdu := s.cdu, ori := s.ori, als := s.als
                 drc := { t.drc with trains := s.drc.trains }, slk := { t.slk with tx := s.slk.tx } } = s
    else exec (.stationCommandPark tag) s = .next (s.replied 0x02 tag .wrongState [])

/-- RESUME, taken in TRIPPED with the pin inactive; refused in any other case. No valve, rate, run, train mode or
isolation order is sent: the image holds them already (`orderLaw`); a load is sent only where it differs. Caverns and
units keep their records, the caps being 0. The heater then serves its queue: its head begins HEATING. -/
def Obligations.ResumeParksATrippedStation : Prop :=
  ∀ (tag : Nat) (s : State), s.receptive = true → s.shaped = true → s.orderLaw = true →
    if s.sts.state = .tripped ∧ s.sts.tripActive = false then
      let idle := s.drc.queue = [] ∨ s.drc.heating ≠ none
      ∃ t, exec (.stationCommandResume tag) s = .next t ∧
        t.sts = { s.sts with state := .parked } ∧ t.trippedPin = false ∧ t.plu = { s.plu with due := true } ∧
        (∀ i, i ≤ 22 ∨ i = 31 → t.order i = s.order i) ∧
        (∀ k ∈ unitNumbers, ∀ u, s.unit k = some u → t.loadOrder k = u.load) ∧
        (∀ k ∈ unitNumbers, (∀ u, s.unit k = some u → u.load = s.loadOrder k) →
          t.order (22 + k) = s.order (22 + k)) ∧
        (∀ j ∈ cavernNumbers, t.cavern j = (s.cavern j).map (fun c =>
          { c with capInject := 0, capWithdraw := 0, refInject := 0, refWithdraw := 0 })) ∧
        t.cdu = s.cdu ∧
        (∀ n ∈ trainNumbers, (t.trainOrder n).1 = (s.trainOrder n).1) ∧
        (∀ n ∈ trainNumbers, (∀ bed, s.drc.queue.head? ≠ some (n, bed)) ∨ idle →
          t.order (28 + n) = s.order (28 + n) ∧ t.train n = (s.train n).map Train.parked) ∧
        (idle → t.drc = { s.drc with trains := t.drc.trains }) ∧
        (∀ n bed rest r, s.drc.queue = (n, bed) :: rest → s.drc.heating = none → s.train n = some r →
          t.drc = { s.drc with trains := t.drc.trains, queue := rest, heating := some (n, bed)
                               rate := r.config.regenRate, heatingTimer := some (r.config.heatingTime * 60)
                               volume := 0 } ∧
          t.train n = some (Train.formed
            (r.parked.setBed bed { r.bed bed with state := .heating })) ∧
          t.trainOrder n = ((s.trainOrder n).1, (s.trainOrder n).2.1, .heat bed)) ∧
        (∃ more, t.slk.tx = s.slk.tx ++ more ++ [⟨0x42, tag, [.u8 0]⟩]) ∧
        { t with sts := s.sts, plu := s.plu, cvc := s.cvc, cdu := s.cdu, drc := s.drc, ori := s.ori, als := s.als
                 slk := { t.slk with tx := s.slk.tx } } = s
    else exec (.stationCommandResume tag) s = .next (s.replied 0x02 tag .wrongState [])

/-- While the station is BLANK, a request of one of the eleven kinds is answered WRONG_STATE and changes
nothing. -/
def Obligations.BlankRefusesPlantAndBooks : Prop :=
  ∀ (c : Instr) (r : Request) (s : State), requestOf c = some r → s.receptive = true → s.sts.state = .blank →
    s.hcu.close = none →
    r.body.kind ∈ [0x02, 0x08, 0x09, 0x0A, 0x10, 0x18, 0x19, 0x1C, 0x1D, 0x20, 0x21] →
    (∀ k, r.body ≠ .unknown k) →
    ∃ items, exec c s = .next (s.replied r.body.kind r.tag .wrongState items)

/-- STATION STATUS is taken in every state and replies OK with the items of R13 as they stand, and the plan-due
mark that 06 R84 has it show. The codes of the trip pin and the clock-valid mark are the model's (log 13), as are
the widths (log 12) and the place of the plan-due mark (log 38). -/
def Obligations.StationStatusShowsTheState : Prop :=
  ∀ (tag : Nat) (s : State), s.receptive = true →
    exec (.stationStatus tag) s = .next (s.replied 0x03 tag .ok
      ([.u8 (stationCode s.sts.state), .u8 (if s.sts.tripActive then 0 else 1), .u8 (markCode s.clk.valid),
        .u16 s.clk.gasDay, .u32 s.clk.second,
        .u8 (markCode s.clk.valid),
        .u32 (if s.clk.valid then s.clk.gasDay * 24 + s.clk.second / 3600 else 0),
        .u32 s.clk.stationSeconds, .u8 (markCode s.hcu.lastClosed.isSome), .u32 (s.hcu.lastClosed.getD 0),
        .u8 (snapCode s.sns.state), .u8 (markCode s.sns.due), .u8 (markCode s.hcu.close.isSome),
        .u8 (markCode s.plu.eval.isSome), .u8 (markCode s.plu.due)]))

/-- CONFIGURE STATION: the mode check, the settings as applied, what they change at once, and the way out of
BLANK. The reply shows the station state and the settings. The regrade raises METER_STALE and CV_STALE exactly where
point 0 or 2 goes STALE by it; only through a wellhead pressure or a run feedback does it reach caverns, units,
orders and PLU. That it comes before the way out of BLANK is log 39. -/
def Obligations.ConfigureStationAppliesSettings : Prop :=
  ∀ (tag : Nat) (f : Settings) (s : State), s.receptive = true → s.shaped = true →
    let lim (l : Limit) : Limit :=
      ⟨max 1 (min 65000 l.fresh), max (max 1 (min 65000 l.fresh)) (max 1 (min 65000 l.hold))⟩
    let reply (t : State) (r : Result) : Record :=
      ⟨0x44, tag, [.u8 (resultCode r), .u8 (stationCode t.sts.state)] ++ settingsItems t.cfg⟩
    let now := s.clk.stationSeconds
    (2 < f.mode → exec (.configureStation tag f) s = .next (s.sends (reply s .badRange))) ∧
    (f.mode ≤ 2 → f.mode ≠ s.cfg.mode → s.sts.state ≠ .blank → s.noShippers = false →
      exec (.configureStation tag f) s = .next (s.sends (reply s .notIdle))) ∧
    (f.mode ≤ 2 → (f.mode = s.cfg.mode ∨ s.sts.state = .blank ∨ s.noShippers = true) →
      ∃ t, exec (.configureStation tag f) s = .next t ∧
        t.cfg = { mode := f.mode, lead := max 1 (min 4 f.lead), warnLevel := max 50 (min 100 f.warnLevel)
                  defaultCv := max 30000 (min 48000 f.defaultCv), gridMargin := min 5000 f.gridMargin
                  tolerance := min 20 f.tolerance
                  statusInterval := if f.statusInterval = 0 then 0 else max 10 (min 3600 f.statusInterval)
                  limits := ⟨lim f.limits.meter, lim f.limits.cv, lim f.limits.pressure, lim f.limits.flow,
                             lim f.limits.feedback, lim f.limits.water⟩ } ∧
        t.nst = s.nst.map (fun p => { p with disarmed := false }) ∧
        t.slk.statusCountdown = t.cfg.statusInterval ∧ t.sns = { s.sns with due := true } ∧
        (s.sts.state ≠ .blank → t.sts = s.sts) ∧
        (s.sts.state = .blank → s.sts.tripActive = false → t.sts = { s.sts with state := .parked } ∧
          t.plu.due = true) ∧
        (s.sts.state = .blank → s.sts.tripActive = true → t.sts = { s.sts with state := .tripped } ∧
          t.plu.due = true ∧ t.ordersSafe = true ∧ t.atRest = true ∧
          t.alert .stationTrip = (s.alert .stationTrip).raised 0 now) ∧
        (∀ p k, p < 41 → pointKind p = some k → t.point p =
          (let x := s.point p
           if x.quality = .never ∨ limitOf t.cfg.limits k = limitOf s.cfg.limits k then x
           else { x with quality := gradeOf (limitOf t.cfg.limits k) x.age })) ∧
        (let changes (p : Nat) : Prop := (t.point p).quality ≠ (s.point p).quality
         let stales (p : Nat) : Prop := (s.point p).quality ≠ .stale ∧ (t.point p).quality = .stale
         let pressuresStand : Prop := ∀ j ∈ cavernNumbers, ¬ changes (pressurePoint j)
         let feedbacksStand : Prop := ∀ k ∈ unitNumbers, ¬ stales (feedbackPoint k)
         (stales 0 → t.alert .meterStale = (s.alert .meterStale).raised 0 now) ∧
         (¬ stales 0 → t.alert .meterStale = s.alert .meterStale) ∧
         (stales 2 → t.alert .cvStale = (s.alert .cvStale).raised 0 now) ∧
         (¬ stales 2 → t.alert .cvStale = s.alert .cvStale) ∧
         (∀ j ∈ cavernNumbers, ∀ c, s.cavern j = some c → c.state.flowing = true → stales (pressurePoint j) →
           tookSettling t j c ∧ t.plu.due = true) ∧
         (let g : State := { s with cfg := t.cfg, nst := t.nst, smt := t.smt, sns := t.sns
                                    slk := { s.slk with statusCountdown := t.slk.statusCountdown } }
          ∀ k ∈ unitNumbers, ∀ u, s.unit k = some u → u.state = .running → s.sts.state ≠ .blank →
            stales (feedbackPoint k) → (∀ p, p ≠ feedbackPoint k → ¬ changes p) → tookTrip g t k u .unitTrip) ∧
         (s.sts.state ≠ .blank ∨ s.sts.tripActive = false →
           t.drc = s.drc ∧ (pressuresStand → t.cvc = s.cvc) ∧ (feedbacksStand → t.cdu = s.cdu) ∧
           (pressuresStand → feedbacksStand → t.ori = s.ori ∧ (s.sts.state ≠ .blank → t.plu = s.plu) ∧
             (∀ a, a ≠ .meterStale → a ≠ .cvStale → a ≠ .reportsDropped → t.alert a = s.alert a)))) ∧
        (s.sts.state ≠ .blank → t.cfg.limits = s.cfg.limits →
          { t with cfg := s.cfg, nst := s.nst, sns := s.sns
                   slk := { t.slk with statusCountdown := s.slk.statusCountdown } } =
            s.sends (reply t (if t.cfg = f then .ok else .clamped))) ∧
        (∃ more, t.slk.tx = s.slk.tx ++ more ++ [reply t (if t.cfg = f then .ok else .clamped)]) ∧
        { t with sts := s.sts, cfg := s.cfg, nst := s.nst, sns := s.sns, smt := s.smt, cvc := s.cvc, cdu := s.cdu
                 drc := s.drc, ori := s.ori, als := s.als, plu := { t.plu with due := s.plu.due }
                 slk := { t.slk with statusCountdown := s.slk.statusCountdown, tx := s.slk.tx } } = s)

/-- A snapshot write: its begin takes a copy of every item as it stands, its completion makes the copy VALID
or, where the verify fails, leaves the store INVALID and raises STORE_FAULT. The outcome of the verify is an operand
(log 6). -/
def Obligations.SnapshotWriteCopiesAtItsBegin : Prop :=
  (∀ s : State, s.sts.inReset = false → s.sns.due = true → s.sts.state ≠ .blank → s.sns.state ≠ .writing →
    s.hcu.close = none → s.hcu.handOvers = [] → s.clk.boundaryDue = false →
    exec .snapshotWriteBegin s = .next
      { s with sns :=
          { state := .writing, due := false, content := none
            copy := some
              { settings := s.cfg, act := s.act, entries := s.nst.map (·.entries)
                caverns := s.cvc.map (·.map (fun c => ⟨c.config, c.state, c.booked, c.lastDir, c.reversals⟩))
                units := s.cdu.units.map (·.map (fun u => ⟨u.config, u.state, u.runSeconds, u.trips⟩))
                trains := s.drc.trains.map (·.map (fun r => ⟨r.config, r.state, r.bedA, r.bedB⟩))
                enabled := s.als.map (·.enabled), lastClosed := s.hcu.lastClosed, gasDay := s.clk.gasDay } } }) ∧
  (∀ s : State, s.sns.due = false ∨ s.sts.state = .blank ∨ s.sns.state = .writing ∨ s.hcu.close.isSome = true →
    exec .snapshotWriteBegin s = .next s) ∧
  (∀ s : State, s.quiet = true → s.sns.state = .writing →
    exec (.snapshotWriteComplete true) s = .next
      { s with sns := { state := .valid, due := s.sns.due, content := s.sns.copy, copy := none } } ∧
    exec (.snapshotWriteComplete false) s = .next
      (({ s with sns := { state := .invalid, due := s.sns.due, content := none, copy := none } } : State).raise
        .storeFault 0))

/-! ### 02, 03: points, the second event and metering -/

/-- SAMPLE: the outcome of each pair in turn, what it stores, the lines of the reply and its result. What an
arrival or a quality change brings in CVC and CDU is stated with those blocks. -/
def Obligations.SamplePairsAreTakenInTurn : Prop :=
  ∀ (tag : Nat) (ps : List (Nat × Nat)) (s : State), s.receptive = true → 1 ≤ ps.length → ps.length ≤ 16 →
    let one (smt : List Point) (p v : Nat) : List Point × Outcome × Nat :=
      match pointKind p with
      | none => (smt, .noSuch, 0)
      | some k =>
        if s.pointConfigured k = false then (smt, .noSuch, 0)
        else match pointRange k with
          | .numeric lo hi =>
            if hi < v then (smt.set p ⟨hi, 0, .good, true⟩, .clamped, hi)
            else if v < lo then (smt.set p ⟨lo, 0, .good, true⟩, .clamped, lo)
            else (smt.set p ⟨v, 0, .good, false⟩, .taken, v)
          | .codes n =>
            if v < n then (smt.set p ⟨v, 0, .good, false⟩, .taken, v)
            else (smt, .ignored, (smt.getD p Point.never).value)
    let all := ps.foldl (fun (acc : List Point × List (Nat × Outcome × Nat)) q =>
      let r := one acc.1 q.1 q.2
      (r.1, acc.2 ++ [(q.1, r.2)])) (s.smt, [])
    ∃ t more, exec (.sample tag ps) s = .next t ∧ t.smt = all.1 ∧
      t.slk.tx = s.slk.tx ++ more ++
        [⟨0x45, tag, .u8 (if all.2.any (fun l => l.2.1 == .clamped) then 1 else 0) :: .u8 ps.length ::
          all.2.flatMap (fun l => [.u8 l.1, .u8 (outcomeByte l.2.1), .u32 l.2.2])⟩] ∧
      { t with smt := s.smt, plu := { t.plu with due := s.plu.due }, cvc := s.cvc, ori := s.ori, als := s.als
               cdu := { t.cdu with units := s.cdu.units }, slk := { t.slk with tx := s.slk.tx } } = s

/-- The second event: the counts of the clock, the minute event and the hour boundary it brings, and every
point one second older with the grade of its new age. A meter rate or a calorific value that goes STALE raises its
alert once, and a flowing cavern whose wellhead pressure goes STALE leaves its flow. -/
def Obligations.SecondAdvancesClockAndAgesPoints : Prop :=
  ∀ s : State, s.quiet = true → s.shaped = true →
    ∃ t, exec .secondEvent s = .next t ∧
      t.clk.stationSeconds = (s.clk.stationSeconds + 1) % 2 ^ 32 ∧
      (s.clk.valid = false → t.clk = { s.clk with
        stationSeconds := t.clk.stationSeconds, minuteDue := t.clk.stationSeconds % 60 == 0
        boundaryDue := false }) ∧
      (s.clk.valid = true → s.clk.second < 86399 → t.clk = { s.clk with
        stationSeconds := t.clk.stationSeconds, second := s.clk.second + 1
        minuteDue := (s.clk.second + 1) % 60 == 0, boundaryDue := (s.clk.second + 1) % 3600 == 0 }) ∧
      (s.clk.valid = true → s.clk.second = 86399 → t.clk = { s.clk with
        stationSeconds := t.clk.stationSeconds, second := 0, gasDay := (s.clk.gasDay + 1) % 65536
        minuteDue := true, boundaryDue := true }) ∧
      (∀ p k, p < 41 → pointKind p = some k →
        let x := s.point p
        let age := min 65535 (x.age + 1)
        let l := limitOf s.cfg.limits k
        (x.quality = .never → t.point p = x) ∧
        (x.quality ≠ .never → t.point p =
          ⟨x.value, age, if age ≤ l.fresh then .good else if age ≤ l.hold then .held else .stale, x.clamped⟩)) ∧
      (let stales (p : Nat) : Prop := (s.point p).quality ≠ .stale ∧ (t.point p).quality = .stale
       let now := t.clk.stationSeconds
       (stales 0 → t.alert .meterStale = (s.alert .meterStale).raised 0 now) ∧
       (¬ stales 0 → t.alert .meterStale = s.alert .meterStale) ∧
       (stales 2 → t.alert .cvStale = (s.alert .cvStale).raised 0 now) ∧
       (¬ stales 2 → t.alert .cvStale = s.alert .cvStale) ∧
       (∀ j ∈ cavernNumbers, ∀ c, s.cavern j = some c → c.state.flowing = true → stales (pressurePoint j) →
         tookSettling t j c ∧ t.plu.due = true)) ∧
      t.slk.statusCountdown = s.slk.statusCountdown - (if s.cfg.statusInterval = 0 then 0 else 1) ∧
      (t.sts, t.sns, t.cfg, t.act, t.nst, t.hcu, t.plu.record, t.plu.eval, t.slk.rx, t.pending) =
        (s.sts, s.sns, s.cfg, s.act, s.nst, s.hcu, s.plu.record, s.plu.eval, s.slk.rx, s.pending)

/-- The metering second: rate, direction and calorific value chosen, the energy integrated with its remainder,
the station use in its three places, and the two counts; nothing while BLANK. -/
def Obligations.SecondIntegratesTheMeter : Prop :=
  ∀ s : State, s.quiet = true →
    let rate := s.point 0
    let dirp := s.point 1
    let r := if rate.usable then rate.value else (s.plu.record.map (·.target)).getD 0
    let dir : Option Dir :=
      if rate.usable ∧ dirp.usable then
        (if dirp.value = 1 then some .inject else if dirp.value = 2 then some .withdraw else none)
      else s.plu.record.bind (·.dir)
    let c := if (s.point 2).usable then (s.point 2).value else s.cfg.defaultCv
    let f := if (s.point 3).usable then (s.point 3).value else 0
    let g := s.drc.rate
    let add (x : Acc) (p : Nat) : Acc := ⟨min (2 ^ 48 - 1) (x.wh + (p + x.q) / 12960), (p + x.q) % 12960⟩
    ∃ t, exec .secondEvent s = .next t ∧
      t.mtu =
        if s.sts.state = .blank then s.mtu
        else
          { injection := if dir = some .inject then add s.mtu.injection (r * c) else s.mtu.injection
            withdrawal := if dir = some .withdraw then add s.mtu.withdrawal (r * c) else s.mtu.withdrawal
            use := add s.mtu.use ((f + g) * c), fuel := add s.mtu.fuel (f * c), regen := add s.mtu.regen (g * c)
            estimated := if rate.usable ∧ dirp.usable then s.mtu.estimated else min 65535 (s.mtu.estimated + 1)
            cvDefault := if (s.point 2).usable then s.mtu.cvDefault else min 65535 (s.mtu.cvDefault + 1) }

/-- What a second event counts in the plant blocks: hour volumes, run seconds and unit countdowns, bed loadings with
their remainder, off-spec counts, conditions with their alerts, the regeneration gas and the timers; then the switch
test of each train, in train order, which waits by the mark `switchDue` where a heating or a cooling timer has reached
0 (log 22). A loading that comes exactly to its limit keeps its remainder (log 42); the condition is formed from the
new loading before any expiry (log 44), and train 1's before train 2's (log 4). A unit's record stands apart from these
counts unless a RUNNING unit's feedback changes quality in the event, which may be a trip (SMT acts last, log 4). -/
def Obligations.SecondCountsThePlant : Prop :=
  ∀ s : State, s.quiet = true → s.shaped = true → s.heaterLaw = true →
    let less (o : Option Nat) : Option Nat := o.map (· - 1)
    let ran (u : Compressor) : Nat := if u.state = .running then min (2 ^ 32 - 1) (u.runSeconds + 1) else u.runSeconds
    let after (n : Nat) (r : Train) : Train :=
      let pf := s.point (trainFlowPoint n)
      let pin := s.point (inletPoint n)
      let pout := s.point (outletPoint n)
      let f := if pf.usable then pf.value else if (s.trainOrder n).1 = .online then r.config.capacity else 0
      let dw := (if pin.usable then pin.value else r.config.designInlet) -
                (if pout.usable then pout.value else r.config.outletSpec)
      let sum := f * dw + r.remainder
      let limit := r.config.bedCapacity * 1000000
      let b := r.bed r.inLine
      let above := pout.usable = true ∧ r.config.outletSpec < pout.value
      let within := pout.usable = true ∧ pout.value ≤ r.config.outletSpec
      Train.formed { r.setBed r.inLine { b with loading := min limit (b.loading + sum / 3600) } with
        remainder := if limit < b.loading + sum / 3600 then 0 else sum % 3600
        aboveSpec := (if r.state = .online then (if above then r.aboveSpec + 1 else 0)
                      else if r.state = .offspec then r.aboveSpec else 0)
        inSpec := (if r.state = .offspec then (if within then r.inSpec + 1 else 0)
                   else if r.state = .online then r.inSpec else 0)
        cooling := less r.cooling }
    let trains : List (Nat × Train × Train) :=
      trainNumbers.filterMap (fun n => (s.train n).map (fun r => (n, r, after n r)))
    let expiry := less s.drc.heatingTimer = some 0 ∨ ∃ x ∈ trains, x.2.2.cooling = some 0
    let passes (y : Train) : Bool :=
      decide (y.config.bedCapacity * 1000000 * y.config.switchPoint / 100 ≤ (y.bed y.inLine).loading) &&
      (y.bed (otherBed y.inLine)).state == .ready
    let switching := trains.filter (fun x => passes x.2.2)
    let spent := switching.map (fun x => (x.1, x.2.1.inLine))
    let busy := s.drc.heating ≠ none ∨ s.sts.state = .tripped
    let reached (p : Train × Train → Bool) : List Nat := (trains.filter (fun x => p x.2)).map (·.1)
    ∃ t, exec .secondEvent s = .next t ∧
      (∀ j ∈ cavernNumbers, ∀ c, s.cavern j = some c → ∃ c', t.cavern j = some c' ∧
        (let p := s.point (flowPoint j)
         let f := if p.usable then p.value else c.setPoint
         (c'.volInject, c'.qInject) =
           (if c.state = .injecting then
              (min (2 ^ 32 - 1) (c.volInject + (f + c.qInject) / 3600), (f + c.qInject) % 3600)
            else (c.volInject, c.qInject)) ∧
         (c'.volWithdraw, c'.qWithdraw) =
           (if c.state = .withdrawing then
              (min (2 ^ 32 - 1) (c.volWithdraw + (f + c.qWithdraw) / 3600), (f + c.qWithdraw) % 3600)
            else (c.volWithdraw, c.qWithdraw)))) ∧
      (∀ k ∈ unitNumbers, ∀ u, s.unit k = some u → ∃ u', t.unit k = some u' ∧ u'.runSeconds = ran u) ∧
      ((∀ k ∈ unitNumbers, ∀ u, s.unit k = some u → u.state = .running →
          (t.point (28 + k)).quality = (s.point (28 + k)).quality) →
        ∀ k ∈ unitNumbers, t.unit k = (s.unit k).map (fun u =>
          { u with runSeconds := ran u, minRun := less u.minRun, minStop := less u.minStop
                   timeout := less u.timeout })) ∧
      (∀ x ∈ trains, expiry ∨ passes x.2.2 = false →
        t.train x.1 = some x.2.2 ∧ t.order (28 + x.1) = s.order (28 + x.1)) ∧
      (∀ x ∈ trains, x.2.1.planCap ≠ x.2.2.planCap → t.plu.due = true) ∧
      t.drc.gasRemainder = (s.drc.rate + s.drc.gasRemainder) % 3600 ∧
      (expiry ∨ switching = [] →
        t.drc = { s.drc with trains := t.drc.trains, heatingTimer := less s.drc.heatingTimer
                             volume := s.drc.volume + (s.drc.rate + s.drc.gasRemainder) / 3600
                             gasRemainder := t.drc.gasRemainder, switchDue := decide expiry } ∧
        t.alert .trainDerated =
          (reached (fun x => x.1.condition == .normal && x.2.condition == .derated)).foldl
            (fun a n => a.raised n t.clk.stationSeconds) (s.alert .trainDerated) ∧
        t.alert .trainBreakthrough =
          (reached (fun x => x.1.condition != .breakthrough && x.2.condition == .breakthrough)).foldl
            (fun a n => a.raised n t.clk.stationSeconds) (s.alert .trainBreakthrough)) ∧
      (¬ expiry →
        t.drc.switchDue = false ∧
        (∀ x ∈ switching, ∃ st : BedState, t.train x.1 = some (x.2.2.switched st) ∧
          (t.trainOrder x.1).1 = (s.trainOrder x.1).1 ∧ (t.trainOrder x.1).2.1 = otherBed x.2.1.inLine ∧
          (if t.drc.heating = some (x.1, x.2.1.inLine) then
             st = .heating ∧ (t.trainOrder x.1).2.2 = .heat x.2.1.inLine
           else st = .spent ∧ (t.trainOrder x.1).2.2 = (s.trainOrder x.1).2.2)) ∧
        (busy → t.drc.queue = s.drc.queue ++ spent ∧ t.drc.heating = s.drc.heating ∧
          t.drc.heatingTimer = less s.drc.heatingTimer ∧ t.drc.rate = s.drc.rate) ∧
        (¬ busy → t.drc.queue = spent.drop 1 ∧ t.drc.heating = spent.head? ∧
          ∀ x, switching.head? = some x → t.drc.heatingTimer = some (x.2.1.config.heatingTime * 60) ∧
            t.drc.rate = x.2.1.config.regenRate ∧ t.drc.volume = 0))

/-- HOUR_BOUNDARY: outside BLANK the ended hour is handed over, each accumulator keeps its leftover, the counts
and the cavern volumes return to 0 and every remainder is kept; at the second of day 0 the gas-day rollover
zeroes the reversal and trip counts in every station state, and the caps formed again from those counts bring what
any cap change brings (log 14). More than one hand-over may wait (log 20). -/
def Obligations.HourBoundaryHandsOver : Prop :=
  ∀ s : State, s.sts.inReset = false → s.shaped = true → s.clk.boundaryDue = true →
    let rest (x : Acc) : Acc := ⟨x.wh % 1000, x.q⟩
    let midnight := s.clk.second = 0
    let handed : State :=
      if s.sts.state = .blank then { s with clk := { s.clk with boundaryDue := false, trimSum := 0 } }
      else
        { s with
          clk := { s.clk with boundaryDue := false, trimSum := 0 }
          hcu := { s.hcu with handOvers := s.hcu.handOvers ++
            [{ hour := (s.clk.gasDay * 24 + s.clk.second / 3600 + 1572863) % 1572864
               injection := s.mtu.injection.wh / 1000, withdrawal := s.mtu.withdrawal.wh / 1000
               use := s.mtu.use.wh / 1000, fuel := s.mtu.fuel.wh / 1000, regen := s.mtu.regen.wh / 1000
               estimated := s.mtu.estimated, cvDefault := s.mtu.cvDefault
               volumes := s.cvc.map (·.map (fun c => (c.volInject, c.volWithdraw))) }] }
          mtu := ⟨rest s.mtu.injection, rest s.mtu.withdrawal, rest s.mtu.use, rest s.mtu.fuel, rest s.mtu.regen, 0, 0⟩
          cvc := s.cvc.map (·.map (fun c => { c with volInject := 0, volWithdraw := 0 })) }
    let rolled : State :=
      { handed with
        cvc := handed.cvc.map (·.map (fun c => { c with reversals := 0 }))
        cdu := { s.cdu with units := s.cdu.units.map (·.map (fun u => { u with trips := 0 })) } }
    ∃ t, exec .hourBoundary s = .next t ∧
      (¬ midnight → t = handed) ∧ (midnight → t = rolled.cavernsChanged) ∧
      (t.clk, t.hcu, t.mtu) = (handed.clk, handed.hcu, handed.mtu) ∧
      (midnight → t.cdu = rolled.cdu) ∧
      (∀ j ∈ cavernNumbers, ∀ c, s.cavern j = some c → ∃ c', t.cavern j = some c' ∧
        (s.sts.state ≠ .blank → c'.volInject = 0 ∧ c'.volWithdraw = 0) ∧
        c'.qInject = c.qInject ∧ c'.qWithdraw = c.qWithdraw ∧ c'.booked = c.booked ∧
        (midnight → s.sts.state ≠ .running → c'.reversals = 0) ∧
        (midnight → c'.reversals ≤ 1 ∧ (c'.reversals = 1 → c'.lastDir ≠ c.lastDir))) ∧
      (t.sts, t.sns, t.cfg, t.smt, t.act, t.nst, t.drc, t.plu.record, t.plu.eval, t.slk.rx) =
        (s.sts, s.sns, s.cfg, s.smt, s.act, s.nst, s.drc, s.plu.record, s.plu.eval, s.slk.rx)

/-! ### 04: accounts -/

/-- CONFIGURE SHIPPER: the five actions by the account's state, and NO_SUCH for number 0 and above P, answered
with state VACANT and rights of 0 (log 35). CLOSE takes the account from an evaluation in flight: its completion
writes no confirmation there (log 26). -/
def Obligations.ConfigureShipperActsByAccountState : Prop :=
  ∀ (tag n : Nat) (r : Rights) (s : State), s.receptive = true → s.hcu.close = none → s.sts.state ≠ .blank →
    s.shaped = true →
    let a := s.accountOf n
    let rights : Rights := ⟨min (2 ^ 40) r.space, min 10000000 r.injection, min 10000000 r.withdrawal,
                            min 1000000000 r.imbalanceLimit⟩
    let put (x : Account) : State := { s with act := { s.act with accounts := s.act.accounts.set (n - 1) x }
                                              sns := { s.sns with due := true } }
    let due (t : State) : State := { t with plu := { t.plu with due := true } }
    let reply (st : AccountState) (x : Rights) : List Item :=
      [.u8 n, .u8 (accountCode st), .u64 x.space, .u32 x.injection, .u32 x.withdrawal, .u32 x.imbalanceLimit]
    let limited : Result := if rights = r then .ok else .clamped
    let same (res : Result) : Host.Outcome State Fault Refusal :=
      .next (s.replied 0x08 tag res (reply a.state a.rights))
    if n = 0 ∨ s.shippers < n then
      ∀ m ∈ [Instr.configureShipperOpen tag n r, .configureShipperSet tag n r, .configureShipperSuspend tag n,
          .configureShipperReactivate tag n, .configureShipperClose tag n],
        exec m s = .next (s.replied 0x08 tag .noSuch (reply .vacant ⟨0, 0, 0, 0⟩))
    else
      (exec (.configureShipperOpen tag n r) s =
        if a.state = .vacant then
          .next ((due (put { Account.vacant with state := .active, rights := rights })).replied 0x08 tag limited
            (reply .active rights))
        else same .notIdle) ∧
      (a.state = .vacant →
        exec (.configureShipperSet tag n r) s = same .noSuch ∧
        exec (.configureShipperSuspend tag n) s = same .noSuch ∧
        exec (.configureShipperReactivate tag n) s = same .noSuch ∧
        exec (.configureShipperClose tag n) s = same .noSuch) ∧
      (a.state ≠ .vacant →
        (let held : Int := max (-(rights.imbalanceLimit : Int)) (min (rights.imbalanceLimit : Int) a.imbalance)
         let t := put { a with rights := rights, imbalance := held, saturated := a.saturated || held != a.imbalance }
         exec (.configureShipperSet tag n r) s = .next
           ((if held = a.imbalance then t else t.raise .imbalanceSaturated n).replied 0x08 tag limited
             (reply a.state rights))) ∧
        exec (.configureShipperSuspend tag n) s = .next
          ((if a.state = .suspended then put a else due (put { a with state := .suspended })).replied 0x08 tag .ok
            (reply .suspended a.rights)) ∧
        exec (.configureShipperReactivate tag n) s = .next
          ((if a.state = .active then put a else due (put { a with state := .active })).replied 0x08 tag .ok
            (reply .active a.rights)) ∧
        exec (.configureShipperClose tag n) s =
          if a.inventory = 0 ∧ (s.partition n).entries = [] ∧
            (∀ x ∈ s.act.transfers, x.source ≠ n ∧ x.target ≠ n) then
            let forgotten (e : Evaluation) : Evaluation :=
              { e with shippers := e.shippers.modify (n - 1) (fun x => { x with writable := false }) }
            let t := due (put Account.vacant)
            .next (({ t with plu := { t.plu with eval := s.plu.eval.map forgotten } } : State).replied 0x08 tag .ok
              (reply .vacant ⟨0, 0, 0, 0⟩))
          else same .notIdle)

/-- LOAD BALANCE: its checks in order; the inventory takes the new value and the station account the opposite
change, so their sum stands. The two inventories of 0 in a NO_SUCH reply to a number that names no account are
log 35. -/
def Obligations.LoadBalanceMovesTheStationAccount : Prop :=
  ∀ (tag n x : Nat) (s : State), s.receptive = true → s.hcu.close = none → s.shaped = true →
    let a := s.accountOf n
    let same (r : Result) : Host.Outcome State Fault Refusal :=
      .next (s.replied 0x09 tag r [.u8 n, .u64 a.inventory, .u64 a.inventory, .i64 s.act.station])
    if s.sts.state ≠ .parked then exec (.loadBalance tag n x) s = same .wrongState
    else if n = 0 ∨ s.shippers < n ∨ a.state = .vacant then exec (.loadBalance tag n x) s = same .noSuch
    else if 2 ^ 47 - 1 < x then exec (.loadBalance tag n x) s = same .badRange
    else
      let station := s.act.station - ((x : Int) - (a.inventory : Int))
      let t : State :=
        { s with act := { s.act with accounts := s.act.accounts.set (n - 1) { a with inventory := x }
                                     station := station }
                 sns := { s.sns with due := true } }
      exec (.loadBalance tag n x) s = .next
        ((if a.rights.space < x then t.raise .shipperOverSpace n else t).replied 0x09 tag .ok
          [.u8 n, .u64 a.inventory, .u64 x, .i64 station])

/-- TRANSFER: its checks in order; an accepted one stands after every entry with an equal or earlier hour, so right
after the last such entry, also where a later one (01 R2) stands before that. The position 0 of a refusal is log 35,
and an hour number beyond every hour, not covered here, log 11. -/
def Obligations.TransferJoinsThePendingList : Prop :=
  ∀ (tag src tgt amount hour : Nat) (s : State), s.receptive = true → s.hcu.close = none → hour < 1572864 →
    let run := exec (.transfer tag src tgt amount hour) s
    let refused (r : Result) : Host.Outcome State Fault Refusal :=
      .next (s.replied 0x0A tag r [.u8 0, .u8 s.act.transfers.length])
    if s.sts.state = .blank ∨ s.clk.valid = false then run = refused .wrongState
    else if src = 0 ∨ s.shippers < src ∨ tgt = 0 ∨ s.shippers < tgt then run = refused .noSuch
    else if src = tgt ∨ amount = 0 ∨ 1000000000 < amount then run = refused .badRange
    else if hourBefore hour s.currentHour = true then run = refused .tooLate
    else if hourAfter hour s.nextDayEnd = true then run = refused .badRange
    else if (s.accountOf src).state = .vacant ∨ (s.accountOf tgt).state = .vacant then run = refused .noSuch
    else if 16 ≤ s.act.transfers.length then run = refused .storeFull
    else ∃ before after, s.act.transfers = before ++ after ∧
      (∀ x, before.getLast? = some x → hourAtOrBefore x.hour hour = true) ∧
      (∀ x ∈ after, hourAtOrBefore x.hour hour = false) ∧
      run = .next
        (({ s with act := { s.act with transfers := before ++ [⟨src, tgt, amount, hour⟩] ++ after }
                   sns := { s.sns with due := true } } : State).replied 0x0A tag .ok
          [.u8 (before.length + 1), .u8 (s.act.transfers.length + 1)])

/-- ACCOUNT QUERY, ALLOCATION QUERY, PLAN QUERY, POINT QUERY and NOMINATION QUERY show what is asked for, each
record field by field; only the clear option of ACCOUNT QUERY changes anything, and it clears one saturated mark.
The field widths are log 12; the fields of a refusal, zeros and empty lists, are log 35, and the partition size and
warning level that NOMINATION QUERY gives a number that names no partition log 54. A SHIPPER number above P still gets
the line that the record holds for it, in a NO_SUCH reply: the model's choice (log 53). -/
def Obligations.BookAndPlanQueriesShowTheRecords : Prop :=
  let optional (shown : Option (List Item)) (zeros : List Item) : List Item :=
    .u8 (markCode shown.isSome) :: shown.getD zeros
  let line (l : Option AllocLine) : List Item :=
    optional (l.map (fun l => [.u32 l.hour, .i64 l.confirmed, .i64 l.deviationShare, .u64 l.useShare,
        .i64 l.guardAdjustment, .i64 l.allocated, .i64 l.transferNet]))
      [.u32 0, .i64 0, .i64 0, .u64 0, .i64 0, .i64 0, .i64 0]
  (∀ (tag n sel : Nat) (clear : Bool) (s : State), s.receptive = true → s.hcu.close = none → s.shaped = true →
    (let confirmation (c : Option Confirmation) : List Item :=
       optional (c.map (fun c => [.u32 c.hour, .u8 (dirLastCode c.dir), .u32 c.nominated, .u32 c.confirmed,
         .u8 (confCode c.state)])) [.u32 0, .u8 0, .u32 0, .u32 0, .u8 0]
     let account (a : Account) : List Item :=
       [.u8 (accountCode a.state), .u64 a.rights.space, .u32 a.rights.injection, .u32 a.rights.withdrawal,
        .u32 a.rights.imbalanceLimit, .u64 a.inventory, .i64 a.imbalance, .u8 (markCode a.saturated),
        .u32 a.injected.count, .u32 a.withdrawn.count, .u32 a.useCharged.count, .u16 a.injected.epoch,
        .u16 a.withdrawn.epoch, .u16 a.useCharged.epoch, .u16 a.overruns] ++
       confirmation a.current ++ confirmation a.next ++ line a.line
     let naming : Item := .u8 (s.act.transfers.filter (fun t => t.source == n || t.target == n)).length
     let cleared : State :=
       { s with act := { s.act with accounts := s.act.accounts.modify (n - 1) (fun a =>
           { a with saturated := a.saturated && !clear }) } }
     exec (.accountQuery tag n clear) s =
      if n = 0 then
        .next (s.replied 0x0B tag .ok (.i64 s.act.station :: .u8 s.act.transfers.length ::
          s.act.transfers.flatMap (fun t => [.u8 t.source, .u8 t.target, .u32 t.amount, .u32 t.hour])))
      else if s.shippers < n then .next (s.replied 0x0B tag .noSuch (account Account.vacant ++ [naming]))
      else .next (cleared.replied 0x0B tag .ok
        (account (s.accountOf n) ++ [naming]))) ∧
    (sel < 3 →
      let header (r : CloseRecord) : List Item :=
        let h := r.hand
        [.u32 r.hour, .u8 (markCode r.first), .u8 (if 0 < h.estimated then 1 else 0),
         .u8 (if 0 < h.cvDefault then 1 else 0), .u64 h.injection, .u64 h.withdrawal,
         .i64 ((h.injection : Int) - (h.withdrawal : Int)), .u64 h.fuel, .u64 h.regen, .u64 h.use, .i64 r.net,
         .i64 r.deviation, .i64 r.residue, .i64 r.guardTotal, .i64 r.stationChange, .u16 h.estimated,
         .u16 h.cvDefault]
      let chosen (r : CloseRecord) : List Item :=
        if sel = 1 then line (nth r.shippers n).join
        else if sel = 2 then
          optional ((nth r.caverns n).join.map (fun l => [.i64 l.volume, .i64 l.posting, .u8 (markCode l.balancing)]))
            [.i64 0, .i64 0, .u8 0]
        else []
      let blank : CloseRecord := ⟨0, false, ⟨0, 0, 0, 0, 0, 0, 0, 0, []⟩, 0, 0, 0, 0, 0, [], []⟩
      exec (.allocationQuery tag sel n) s = match s.hcu.record with
        | none => .next (s.replied 0x0C tag .noSuch (header blank ++ chosen blank))
        | some r => .next (s.replied 0x0C tag
            (if (sel = 1 ∧ (n = 0 ∨ s.shippers < n)) ∨ (sel = 2 ∧ (n = 0 ∨ 8 < n)) then .noSuch else .ok)
            (header r ++ chosen r)))) ∧
  (∀ (tag first count n : Nat) (s : State), s.receptive = true →
    (let plan : List Item := optional
       (s.plu.record.map (fun r =>
         [.u32 r.hour, .u8 r.revision, .u8 (dirLastCode r.dir), .i64 r.net, .u32 r.target,
          .u32 r.capability, .u32 r.cavernCap, .u32 r.compressionCap, .u32 r.dryerCap, .u8 (markCode r.required),
          .u8 (limitingCode r.limiting), .u32 r.curtailed, .u64 r.eDone, .u16 r.sLeft]))
       [.u32 0, .u8 0, .u8 0, .i64 0, .u32 0, .u32 0, .u32 0, .u32 0, .u32 0, .u8 0, .u8 0, .u32 0, .u64 0, .u16 0]
     exec (.planQuery tag) s = .next (s.replied 0x14 tag .ok
       (plan ++ [.u8 (markCode s.plu.due), .u8 (markCode s.plu.eval.isSome)]))) ∧
    (exec (.pointQuery tag first count) s =
      if 40 < first ∨ count = 0 ∨ 16 < count then .next (s.replied 0x06 tag .badRange [.u8 0])
      else
        let run := min count (41 - first)
        let point (p : Nat) : List Item :=
          let x := s.point p
          [.u8 p, .u32 x.value, .u16 x.age, .u8 (qualityCode x.quality), .u8 (markCode x.clamped),
           .u8 (markCode ((pointKind p).any s.pointConfigured))]
        .next (s.replied 0x06 tag .ok (.u8 run :: (List.range' first run).flatMap point))) ∧
    (s.hcu.close = none →
      let named := n ≠ 0 ∧ n ≤ s.shippers
      let entries := (s.partition n).entries
      let head : List Item :=
        [.u8 n, .u8 (if named then entries.length else 0), .u8 (256 / s.shippers),
         .u8 ((s.cfg.warnLevel * (256 / s.shippers) + 99) / 100), .u8 (markCode (s.partition n).disarmed),
         .u8 s.cfg.lead]
      let shown := (entries.drop (first - 1)).take 16
      let entry (e : NomEntry) : List Item := [.u32 e.first, .u8 e.span, .u8 (dirCode e.dir), .u32 e.quantity]
      exec (.nominationQuery tag n first) s =
        if ¬ named then .next (s.replied 0x11 tag .noSuch (head ++ [.u8 0]))
        else if first = 0 then .next (s.replied 0x11 tag .badRange (head ++ [.u8 0]))
        else .next (s.replied 0x11 tag .ok (head ++ .u8 shown.length :: shown.flatMap entry))))

/-! ### 05: nominations -/

/-- NOMINATE: its checks in order, the edited list, the near-full warning, and PLU due where the edit span
includes the current or the next hour. The end of the span is tested in hours counted from the current hour, and an
hour number beyond every hour is not covered (log 11). That a lead of 1 lets the last hour of gas day 65,535 pass in
the hour before it is the model's choice (log 50). The counts of a refusal are log 35, and the size that a number
which names no partition is answered log 54. -/
def Obligations.NominateEditsThePartition : Prop :=
  ∀ (tag n first span dir q : Nat) (s : State), s.receptive = true → s.hcu.close = none → s.shaped = true →
    first < 1572864 →
    let run := exec (.nominate tag n first span dir q) s
    let size := 256 / s.shippers
    let before := if n = 0 ∨ s.shippers < n then 0 else (s.partition n).entries.length
    let e : NomEntry := ⟨first, span, if dir = 1 then .withdraw else .inject, q⟩
    let ahead (x : Nat) : Nat := (x + (1572864 - s.currentHour % 1572864)) % 1572864
    let edited := editEntries (s.partition n).entries e
    let refused (r : Result) (after : Nat) : Host.Outcome State Fault Refusal :=
      .next (s.replied 0x10 tag r [.u8 n, .u8 before, .u8 after, .u8 size, .u8 0])
    if s.sts.state = .blank ∨ s.clk.valid = false then run = refused .wrongState before
    else if n = 0 ∨ s.shippers < n then run = refused .noSuch before
    else if 1 < dir ∨ span = 0 ∨ 48 < span ∨ 10000000 < q then run = refused .badRange before
    else if hourBefore first ((s.currentHour + s.cfg.lead) % 1572864) = true then run = refused .tooLate before
    else if ahead s.nextDayEnd < ahead first + (span - 1) then run = refused .badRange before
    else if (s.accountOf n).state = .vacant then run = refused .noSuch before
    else if size < edited.length then run = refused .storeFull edited.length
    else
      let touches := e.covers s.currentHour || e.covers ((s.currentHour + 1) % 1572864)
      let p := s.partition n
      let level := (s.cfg.warnLevel * size + 99) / 100
      let warned := !p.disarmed && decide (p.entries.length < edited.length) && decide (level ≤ edited.length)
      let mark := if warned then true else if edited.length < level then false else p.disarmed
      let t : State :=
        { s with nst := s.nst.set (n - 1) ⟨edited, mark⟩
                 plu := { s.plu with due := s.plu.due || touches }, sns := { s.sns with due := true } }
      run = .next ((if warned then t.raise .nomStoreNearFull n else t).replied 0x10 tag .ok
        [.u8 n, .u8 before, .u8 edited.length, .u8 size, .u8 (markCode touches)])

/-- After an edit every hour of the span carries the new nomination, or none for an erase, and every other hour
carries the nomination it had; the entries stay in ascending order without overlap and joined. `inOrderFrom b` counts
the hours from `b` on, across the wrap, and the first hours are hour numbers (01 R2). And every step keeps every partition so: its entries in order, joined, within
the partition size and at or after the oldest hour that is not closed. The law is stated while no second hand-over
waits, which 10 R157 gives and the model does not enforce (log 20). -/
def Obligations.NominationsStayOrderedAndEditsActByHour : Prop :=
  (∀ (p : Partition) (b : Nat) (new : NomEntry) (x : Nat),
    let ahead (y : Nat) : Nat := (y + (1572864 - b % 1572864)) % 1572864
    inOrderFrom b p.entries = true → (∀ e ∈ p.entries, e.first < 1572864) → new.first < 1572864 →
    1 ≤ new.span → ahead new.first + new.span ≤ 786432 →
    x < 1572864 → ahead x < 786432 →
    let q : Partition := { p with entries := editEntries p.entries new }
    q.nomination x =
      (if ahead new.first ≤ ahead x ∧ ahead x < ahead new.first + new.span then
        (if new.quantity = 0 then none else some (new.dir, new.quantity))
       else p.nomination x) ∧
    inOrderFrom b q.entries = true ∧
    q.entries.IsChain (fun e f => ¬ (ahead e.first + e.span = ahead f.first ∧ e.dir = f.dir ∧ e.quantity = f.quantity))) ∧
  (∀ s t : State, s.shaped = true → s.nominationLaw = true → s.hcu.handOvers.length ≤ 1 → step s = .next t →
    t.nominationLaw = true)

/-! ### 06: the hour plan -/

/-- An evaluation begins when the five conditions hold, and takes each figure as it stands; while one of them fails
nothing begins. A completion whose hour is still current writes the confirmations, replaces the record, raises
CURTAILMENT where the plant cut the hour and queues a PLAN report. While RUNNING it brings the split, then a duty
evaluation (their order is log 40), and DRC places the trains. A completion overtaken by the hour is discarded
whole. -/
def Obligations.PlanEvaluationBeginsAndCompletes : Prop :=
  ((∀ s : State, s.sts.inReset = false → s.plu.due = true → s.plu.eval = none → s.clk.valid = true →
    s.sts.state ≠ .blank → s.hcu.close = none → s.hcu.handOvers = [] → s.clk.boundaryDue = false →
    let h := s.clk.gasDay * 24 + s.clk.second / 3600
    exec .planEvaluationBegin s = .next
      { s with plu :=
          { record := s.plu.record, due := false
            eval := some
              { hour := h, sLeft := 3600 - s.clk.second % 3600
                cv := if (s.point 2).usable then (s.point 2).value else s.cfg.defaultCv
                eDone := ((s.mtu.injection.wh / 1000 : Nat) : Int) - ((s.mtu.withdrawal.wh / 1000 : Nat) : Int)
                station := s.sts.state
                shippers := shipperNumbers.map (fun n =>
                  let a := s.accountOf n
                  { state := a.state, rights := a.rights, inventory := a.inventory, current := a.current
                    nomNow := (s.partition n).nomination h, nomNext := (s.partition n).nomination ((h + 1) % 1572864)
                    writable := true })
                cavernInject := (s.cvc.map (fun c => (c.map (·.capInject)).getD 0)).sum
                cavernWithdraw := (s.cvc.map (fun c => (c.map (·.capWithdraw)).getD 0)).sum
                compression := (s.cdu.units.map (fun u => match u with
                  | some u =>
                    if u.state = .ready ∨ u.state = .starting ∨ u.state = .running then u.config.capacity else 0
                  | none => 0)).sum
                required := s.cdu.required
                dryer := (s.drc.trains.map (fun r => match r with
                  | some r => if r.state = .standby ∨ r.state = .online then r.planCap else 0
                  | none => 0)).sum
                record := s.plu.record } } }) ∧
  (∀ s : State, s.plu.due = false ∨ s.plu.eval.isSome = true ∨ s.clk.valid = false ∨ s.sts.state = .blank ∨
    s.hcu.close.isSome = true → exec .planEvaluationBegin s = .next s)) ∧
  (∀ (s : State) (e : Evaluation), s.quiet = true → s.shaped = true → s.plu.eval = some e →
    (e.hour ≠ s.clk.gasDay * 24 + s.clk.second / 3600 →
      exec .planEvaluationComplete s = .next { s with plu := { s.plu with eval := none, due := true } }) ∧
    (e.hour = s.clk.gasDay * 24 + s.clk.second / 3600 →
      let r := e.work
      ∃ t, exec .planEvaluationComplete s = .next t ∧ t.plu.record = some r.record ∧ t.plu.eval = none ∧
        (∀ n x a c d, nth e.shippers n = some x → nth s.act.accounts n = some a → nth r.current n = some c →
          nth r.next n = some d →
          nth t.act.accounts n = some
            (if a.state ≠ .vacant ∧ x.writable = true then
               { a with current := if c.isSome then c else a.current, next := if d.isSome then d else a.next }
             else a)) ∧
        t.act.station = s.act.station ∧ t.act.transfers = s.act.transfers ∧
        (let a := s.alert .curtailment
         t.alert .curtailment =
           if 0 < r.delta then { a with pending := true, count := min 255 (a.count + 1), object := 0
                                        second := s.clk.stationSeconds }
           else a) ∧
        (s.occupancy < 27 → planReport r.record ∈ t.slk.tx) ∧
        (∀ n ∈ trainNumbers, ∀ x, s.train n = some x → s.sts.state = .running → ∃ y, t.train n = some y ∧
          y.state = (if r.record.dir = some .withdraw then (if x.state = .standby then .online else x.state)
                     else (if x.state = .online then .standby else x.state)) ∧
          (t.trainOrder n).1 = trainModeFor y.state r.record.dir) ∧
        (s.sts.state = .running →
          let u := (s.applyPlan e).runSplit.cavernsChanged
          t.cvc = u.cvc ∧ (∀ i, i ≤ 16 → t.order i = u.order i) ∧
          t.cdu = u.evaluateDuty.cdu ∧ (∀ i, i ≤ 28 → t.order i = u.evaluateDuty.order i)) ∧
        (s.sts.state ≠ .running →
          { t with act := s.act, plu := { t.plu with record := s.plu.record, eval := s.plu.eval }, als := s.als
                   slk := { t.slk with tx := s.slk.tx } } = s) ∧
        (t.clk, t.sts, t.sns, t.cfg, t.smt, t.mtu, t.nst, t.hcu, t.slk.rx) =
          (s.clk, s.sts, s.sns, s.cfg, s.smt, s.mtu, s.nst, s.hcu, s.slk.rx)))

/-- The proportional share procedure: with weights that sum to 0 the residue is the total; otherwise every
share is the floor of its part or one more, the ones going to the largest remainders and the lower index among
equals, and shares and residue sum to the total, with caps or without. -/
def Obligations.ProportionalSharesSumToTheTotal : Prop :=
  ∀ (total : Nat) (weights caps : List Nat),
    let w := weights.sum
    let sh := shareOut total weights
    let cut := shareOutCapped total weights caps
    (w = 0 → sh.shares = weights.map (fun _ => 0) ∧ sh.residue = total) ∧
    (0 < w → sh.residue = 0 ∧ sh.shares.sum = total ∧ sh.shares.length = weights.length ∧
      (∀ i, i < weights.length →
        sh.shares.getD i 0 = total * weights.getD i 0 / w ∨
        (sh.shares.getD i 0 = total * weights.getD i 0 / w + 1 ∧ 0 < total * weights.getD i 0 % w)) ∧
      (∀ i j, i < weights.length → j < weights.length →
        sh.shares.getD i 0 = total * weights.getD i 0 / w + 1 → sh.shares.getD j 0 = total * weights.getD j 0 / w →
        total * weights.getD j 0 % w < total * weights.getD i 0 % w ∨
        (total * weights.getD j 0 % w = total * weights.getD i 0 % w ∧ i < j))) ∧
    (caps.length = weights.length → cut.shares = List.zipWith min sh.shares caps ∧
      cut.shares.sum + cut.residue = total)

/-- An evaluation worked out from the figures it took: the hour-start and the kept confirmations, the net and its
direction, the capability rate and the limiting factor, the curtailment of exactly what the plant cannot carry,
divided by the share procedure over the net side, the record and the next-hour confirmations. The net of the
confirmations it forms is the N' of its record, and no confirmation is raised. The target rate is 0 where what is
confirmed is done, and otherwise spreads the rest over the seconds left, rounded half up, within the capability
rate and 2,000,000. -/
def Obligations.CurtailmentAndTargetFollowTheCapability : Prop :=
  (∀ e : Evaluation,
    let allowed (x : EvalShipper) (nom : Option (Dir × Nat)) : Nat := match x.state, nom with
      | .active, some (.inject, q) => min q (min x.rights.injection (x.rights.space - x.inventory))
      | .active, some (.withdraw, q) => min q (min x.rights.withdrawal x.inventory)
      | _, _ => 0
    let fresh (x : EvalShipper) (h : Nat) (nom : Option (Dir × Nat)) (st : ConfState) : Confirmation :=
      ⟨h, nom.map (·.1), (nom.map (·.2)).getD 0, allowed x nom, st⟩
    let begun (x : EvalShipper) : Option Confirmation :=
      if x.state = .vacant then none
      else match x.current.filter (fun c => c.hour == e.hour) with
        | some c =>
          some (if x.state = .suspended ∧ 0 < c.confirmed then { c with confirmed := 0, state := .curtailed } else c)
        | none => some (fresh x e.hour x.nomNow .confirmed)
    let before := e.shippers.map begun
    let on (d : Dir) (c : Option Confirmation) : Nat := (c.map (fun c => if c.dir = some d then c.confirmed else 0)).getD 0
    let n : Int := ((before.map (on .inject)).sum : Int) - ((before.map (on .withdraw)).sum : Int)
    let side : Dir := if 0 < n then .inject else .withdraw
    let caverns := if n = 0 then 0 else if 0 < n then e.cavernInject else e.cavernWithdraw
    let rate :=
      if e.station ≠ .running then 0
      else if 0 < n then min caverns e.compression
      else if n < 0 then min caverns (if e.required then min e.dryer e.compression else e.dryer)
      else 0
    let done := (signOf n * e.eDone).toNat
    let feasible := done + rate * e.cv * e.sLeft / 12960000
    let delta := n.natAbs - feasible
    let weights := if n = 0 then before.map (fun _ => 0) else before.map (on side)
    let share (i : Nat) : Nat := (shareOutCapped delta weights weights).shares.getD i 0
    let mark := decide (0 < n) || (decide (n < 0) && e.required)
    let earlier : Option PlanRecord := e.record.filter (fun p => p.hour == e.hour)
    let r := e.work
    r.delta = delta ∧ netEnergy r.current = r.record.net ∧
    r.record =
      { hour := e.hour, revision := (earlier.map (fun p => min 255 (p.revision + 1))).getD 0
        dir := dirOf (signOf n * (min n.natAbs feasible : Nat)), net := signOf n * (min n.natAbs feasible : Nat)
        target := r.record.target, capability := rate, cavernCap := caverns
        compressionCap := if n = 0 then 0 else e.compression, dryerCap := if n = 0 then 0 else e.dryer
        required := mark
        limiting :=
          if n = 0 ∨ delta = 0 then .none
          else if e.station ≠ .running then .stationState
          else if caverns = rate then .caverns
          else if mark = true ∧ e.compression = rate then .compression
          else .drying
        curtailed := min 160000000 ((earlier.map (·.curtailed)).getD 0 + delta), eDone := done, sLeft := e.sLeft } ∧
    (∀ i, i < before.length →
      r.current[i]? = before[i]?.map (fun c => c.map (fun c =>
        if 0 < share i then { c with confirmed := c.confirmed - share i, state := .curtailed } else c))) ∧
    r.current.length = before.length ∧
    r.next = e.shippers.map (fun x =>
      if x.state = .vacant then none else some (fresh x ((e.hour + 1) % 1572864) x.nomNext .provisional)) ∧
    (∀ (i : Nat) (c : Option Confirmation), before[i]? = some c → ∃ c', r.current[i]? = some c' ∧
      (c' = c ∨ ∃ x y : Confirmation, c = some x ∧ c' = some y ∧ x.dir = dirOf n ∧ y.confirmed < x.confirmed ∧
        y = { x with confirmed := y.confirmed, state := .curtailed }))) ∧
  (∀ e : Evaluation, 0 < e.cv → 0 < e.sLeft →
    let r := e.work.record
    let left := r.net.natAbs - r.eDone
    let exact := left * 12960000
    let unit := e.cv * e.sLeft
    r.target ≤ r.capability ∧ r.target ≤ 2000000 ∧ (r.dir = none → r.target = 0) ∧
    (r.net.natAbs ≤ r.eDone → r.target = 0) ∧
    (r.eDone < r.net.natAbs → r.target = min 2000000 (min r.capability ((2 * exact + unit) / (2 * unit)))) ∧
    (e.station ≠ .running → r.capability = 0))

/-! ### 07: caverns -/

/-- Whenever CVC forms the caps again, each configured cavern's two caps are those of R117, and the cavern
capability is their sum. The further splits on the way are log 14. -/
def Obligations.CapsFollowLimitsRampAndHeadroom : Prop :=
  ∀ s : State, s.shaped = true →
    let t := s.cavernsChanged
    let cap (c : Cavern) (d : Dir) (j : Nat) : Nat :=
      let p := t.point (pressurePoint j)
      let limit := if d = .inject then c.config.injectionLimit else c.config.withdrawalLimit
      let ramp := rampOf c.ring
      let room := if d = .inject then c.config.pressureMax - p.value else p.value - c.config.pressureMin
      let tapered := if 4 * c.config.maxRamp < 5 * ramp then
        limit * 5 * (c.config.maxRamp - ramp) / c.config.maxRamp else limit
      if t.sts.state ≠ .running ∨ c.state = .offline ∨ c.state = .fault ∨ p.usable = false ∨
        ((c.state.flowing = true ∨ c.state = .settling) ∧ c.lastDir = some (opposite d)) ∨
        (c.state = .idle ∧ c.lastDir = some (opposite d) ∧ c.reversals = c.config.maxReversals) ∨
        (d = .inject ∧ c.full = true) ∨ (d = .withdraw ∧ c.empty = true) ∨ room = 0 then 0
      else if room < c.config.warnMargin then tapered * room / c.config.warnMargin else tapered
    (∀ j ∈ cavernNumbers, ∀ c, t.cavern j = some c → c.capInject = cap c .inject j ∧
      c.capWithdraw = cap c .withdraw j) ∧
    (∀ d, t.cavernCapability d =
      (cavernNumbers.map (fun j => ((t.cavern j).map (fun c => cap c d j)).getD 0)).sum)

/-- The split: no share above its cap, the whole target placed where the caps allow, a cavern that would need a
reversal spared while the others can carry the target; then the table of R120, cavern by cavern, with the marks an
entry clears and REVERSAL_LIMIT for each cavern whose count reaches its limit. With HOLD or a target of 0 every
flowing cavern leaves its flow. While RUNNING a plan completion and a minute event bring the split, and the further
splits of cap changes (log 14). -/
def Obligations.SplitSharesTheTargetRate : Prop :=
  (∀ (s : State) (d : Dir), s.shaped = true → s.sts.state = .running → s.planDir = some d → 0 < s.planTarget →
    let share (j : Nat) : Nat := s.splitShares.getD (j - 1) 0
    let t := s.runSplit
    let fit (p : Cavern → Bool) : Nat :=
      (cavernNumbers.map (fun j => ((s.cavern j).map (fun c => if p c then c.cap d else 0)).getD 0)).sum
    let free := fit (fun c => c.needsNoReversal d)
    let all := fit (fun c => c.needsNoReversal d || c.needsReversal d)
    let atLimit (j : Nat) : Bool := (s.cavern j).any (fun c => c.state == .idle && decide (0 < share j) &&
      c.lastDir == some (opposite d) && c.reversals + 1 == c.config.maxReversals)
    (let reached := cavernNumbers.filter atLimit
     let a := s.alert .reversalLimit
     t.alert .reversalLimit =
       if reached = [] then a
       else { a with pending := true, count := min 255 (a.count + reached.length), object := reached.getLastD 0
                     second := s.clk.stationSeconds }) ∧
    (∀ j ∈ cavernNumbers, ∀ c, s.cavern j = some c → share j ≤ c.cap d) ∧
    (s.planTarget ≤ free → ∀ j ∈ cavernNumbers, ∀ c, s.cavern j = some c → c.needsNoReversal d = false →
      share j = 0) ∧
    (cavernNumbers.map share).sum = min s.planTarget (if s.planTarget ≤ free then free else all) ∧
    (∀ j ∈ cavernNumbers, ∀ c, s.cavern j = some c → ∃ c', t.cavern j = some c' ∧
      (c.state = .idle → 0 < share j → c'.state = flowState d ∧ c'.lastDir = some d ∧ c'.setPoint = share j ∧
        c'.reversals = c.reversals + (if c.lastDir = some (opposite d) then 1 else 0) ∧
        c'.full = (d != .withdraw && c.full) ∧ c'.empty = (d != .inject && c.empty) ∧
        t.valveOrder j = flowValve d ∧ t.rateOrder j = share j) ∧
      (c.state = .settling → c.lastDir = some d → 0 < share j →
        c'.state = flowState d ∧ c'.settle = none ∧ c'.setPoint = share j ∧ c'.reversals = c.reversals ∧
        t.valveOrder j = flowValve d ∧ t.rateOrder j = share j) ∧
      (c.state = flowState d → 0 < share j → c'.state = c.state ∧ c'.setPoint = share j ∧
        (let gap := if s.rateOrder j ≤ share j then share j - s.rateOrder j else s.rateOrder j - share j
         t.rateOrder j = if max 500 (c.limit d / 100) < gap then share j else s.rateOrder j)) ∧
      (c.state.flowing = true → share j = 0 → c'.setPoint = 0 ∧ c'.lastDir = c.lastDir ∧
        (if c.config.settleTime = 0 then c'.state = .idle ∧ c'.settle = none
         else c'.state = .settling ∧ c'.settle = some (c.config.settleTime * 60)) ∧
        t.valveOrder j = .shut ∧ t.rateOrder j = 0) ∧
      (c.state.flowing = false → share j = 0 → c' = c))) ∧
  (let stopped (s t : State) : Prop := ∀ j ∈ cavernNumbers, ∀ c, s.cavern j = some c → c.state.flowing = true →
     tookSettling t j c
   let idle (s : State) : Prop := s.planDir = none ∨ s.planTarget = 0
   (∀ s : State, s.shaped = true → idle s → stopped s s.runSplit ∧
     (∀ j ∈ cavernNumbers, ∀ c, s.cavern j = some c → c.state.flowing = false → s.runSplit.cavern j = some c)) ∧
   (∀ (s : State) (e : Evaluation), s.quiet = true → s.shaped = true → s.sts.state = .running →
     s.plu.eval = some e → e.hour = s.clk.gasDay * 24 + s.clk.second / 3600 →
     let u := s.applyPlan e
     ∃ t, exec .planEvaluationComplete s = .next t ∧ u.planDir = e.work.record.dir ∧
       u.planTarget = e.work.record.target ∧ t.cvc = u.runSplit.cavernsChanged.cvc ∧
       (∀ i, i ≤ 16 → t.order i = u.runSplit.cavernsChanged.order i) ∧ (idle u → stopped s t)) ∧
   (∀ s : State, s.sts.inReset = false → s.shaped = true → s.clk.minuteDue = true → s.sts.state = .running →
     let u := (s.forEach cavernNumbers State.pushPressure).formAllCaps.1
     ∃ t, exec .minuteEvent s = .next t ∧ t.cvc = u.runSplit.cavernsChanged.cvc ∧
       (∀ i, i ≤ 16 → t.order i = u.runSplit.cavernsChanged.order i) ∧ (idle s → stopped s t)))

/-- CONFIGURE CAVERN and DECONFIGURE: the checks in order, the configuration as applied, the inventory action
with its station account change, and the return to unconfigured with its points at NEVER; the reply shows the
cavern as it then stands. The zeros it shows for a number that names no cavern and for an unconfigured one are
log 35. That a cavern configured again keeps its ring is the model's choice: log 56. -/
def Obligations.ConfigureCavernChecksAndApplies : Prop :=
  ∀ (tag j inv : Nat) (f : CavernConfig) (value : Int) (s : State), s.receptive = true → s.hcu.close = none →
    s.shaped = true → s.sts.state ≠ .blank →
    let old := s.cavern j
    let count := (old.map (·.reversals)).getD 0
    let lo := min 30000 f.pressureMin
    let hi := min 30000 f.pressureMax
    let a : CavernConfig :=
      { pressureMin := lo, pressureMax := hi, warnMargin := if hi - lo < f.warnMargin then 0 else f.warnMargin
        maxRamp := max 10 (min 2000 f.maxRamp), injectionLimit := min 600000 f.injectionLimit
        withdrawalLimit := min 600000 f.withdrawalLimit, settleTime := min 720 f.settleTime
        maxReversals := max count (min 12 f.maxReversals), travelTime := max 30 (min 600 f.travelTime) }
    let fields (c : CavernConfig) : List Item :=
      [.u16 c.pressureMin, .u16 c.pressureMax, .u16 c.warnMargin, .u16 c.maxRamp, .u32 c.injectionLimit,
       .u32 c.withdrawalLimit, .u16 c.settleTime, .u8 c.maxReversals, .u16 c.travelTime]
    let reply (o : Option Cavern) : List Item := match o with
      | some c => [.u8 j, .u8 1, .u8 (cavernCode c.state)] ++ fields c.config ++ [.i64 c.booked]
      | none => [.u8 j, .u8 0, .u8 0] ++ fields ⟨0, 0, 0, 0, 0, 0, 0, 0, 0⟩ ++ [.i64 0]
    let refused (r : Result) : Host.Outcome State Fault Refusal := .next (s.replied 0x18 tag r (reply old))
    let fresh (c : CavernConfig) : Cavern :=
      { config := c, state := .offline, lastDir := none, reversals := 0, settle := none, disagreement := 0
        full := false, empty := false, rampDisarmed := false, setPoint := 0, refInject := 0, refWithdraw := 0
        capInject := 0, capWithdraw := 0, volInject := 0, volWithdraw := 0, qInject := 0, qWithdraw := 0
        booked := 0, ring := [], faultDue := false }
    let base : Cavern := match old with
      | some c => { c with config := a }
      | none => fresh a
    let run := exec (.configureCavern tag j f inv value) s
    (if j = 0 ∨ 8 < j then run = refused .noSuch
     else if 1 < inv then run = refused .badRange
     else if ∃ c, old = some c ∧ c.state ≠ .offline then run = refused .notIdle
     else if hi ≤ lo then run = refused .badRange
     else if inv = 1 ∧ s.sts.state ≠ .parked then run = refused .wrongState
     else if inv = 1 ∧ 2 ^ 47 - 1 < value.natAbs then run = refused .badRange
     else
       let c := if inv = 1 then { base with booked := value } else base
       let t : State :=
         { s with cvc := s.cvc.set (j - 1) (some c)
                  act := { s.act with station := s.act.station + (if inv = 1 then value - base.booked else 0) } }
       let u : State := { t.cavernsChanged with sns := { s.sns with due := true } }
       run = .next (u.replied 0x18 tag (if a = f then .ok else .clamped) (reply (some c)))) ∧
    (let run := exec (.deconfigureCavern tag j) s
     if j = 0 ∨ 8 < j ∨ old = none then run = refused .noSuch
     else if ∃ c, old = some c ∧ (c.state ≠ .offline ∨ c.booked ≠ 0) then run = refused .notIdle
     else
       let t : State :=
         { s with cvc := s.cvc.set (j - 1) none
                  smt := ((s.smt.set (3 * j + 2) Point.never).set (3 * j + 3) Point.never).set (3 * j + 4)
                    Point.never }
       let u : State := { t.cavernsChanged with sns := { s.sns with due := true } }
       run = .next (u.replied 0x18 tag .ok (reply none)))

/-- CAVERN MODE by the cavern's state: IN_SERVICE asks for a valve that shows SHUT, OUT_OF_SERVICE gives a shut
order and may bring a split, ABANDON_SETTLE ends a settling; an accepted one makes SNS due. The reply gives the state
after the request and shows the valve only where IN_SERVICE is refused. The zeros of a NO_SUCH reply are log 35. -/
def Obligations.CavernModeActsByCavernState : Prop :=
  ∀ (tag j : Nat) (c : Cavern) (s : State), s.receptive = true → s.shaped = true → s.sts.state ≠ .blank →
    let items (t : State) : List Item := [.u8 j, .u8 (((t.cavern j).map (fun c => cavernCode c.state)).getD 0)]
    let p := s.point (valvePoint j)
    let hidden : List Item := [.u8 0, .u8 0, .u8 0]
    let shown : List Item := [.u8 1, .u8 p.value, .u8 (qualityCode p.quality)]
    let done (t : State) : Host.Outcome State Fault Refusal :=
      let u : State := { t with sns := { s.sns with due := true } }
      .next (u.replied 0x19 tag .ok (items u ++ hidden))
    let moved (t : State) (x : Cavern) : State :=
      State.cavernsChanged { t with cvc := t.cvc.set (j - 1) (some x), plu := { t.plu with due := true } }
    (s.cavern j = none →
      ∀ m ∈ [Instr.cavernModeInService tag j, .cavernModeOutOfService tag j, .abandonSettle tag j],
        exec m s = .next (s.replied 0x19 tag .noSuch [.u8 j, .u8 0, .u8 0, .u8 0, .u8 0])) ∧
    (s.cavern j = some c →
      (exec (.cavernModeInService tag j) s =
        if c.state = .offline ∨ c.state = .fault then
          if p.usable = true ∧ p.value = 0 then
            done (moved s { c with state := .idle, disagreement := 0, faultDue := false })
          else .next (s.replied 0x19 tag .notIdle (items s ++ shown))
        else done s) ∧
      (c.state = .offline → exec (.cavernModeOutOfService tag j) s = done s) ∧
      (c.state ≠ .offline → ∃ t c', exec (.cavernModeOutOfService tag j) s = .next t ∧ t.cavern j = some c' ∧
        c'.state = .offline ∧ c'.settle = none ∧ c'.setPoint = 0 ∧
        t.valveOrder j = .shut ∧ t.rateOrder j = 0 ∧
        (c'.lastDir, c'.reversals, c'.full, c'.empty, c'.booked, c'.ring, c'.config) =
          (c.lastDir, c.reversals, c.full, c.empty, c.booked, c.ring, c.config) ∧
        t.plu.due = true ∧ t.sns = { s.sns with due := true } ∧
        (s.sts.state ≠ .running ∨ s.planDir = none → ∀ i ∈ cavernNumbers, i ≠ j →
          (t.cavern i).map (·.state) = (s.cavern i).map (·.state) ∧ t.valveOrder i = s.valveOrder i ∧
          t.rateOrder i = s.rateOrder i) ∧
        (∃ more, t.slk.tx = s.slk.tx ++ more ++
          [⟨0x59, tag, [.u8 0, .u8 j, .u8 (cavernCode .offline), .u8 0, .u8 0, .u8 0]⟩]) ∧
        { t with cvc := s.cvc, ori := s.ori, als := s.als, plu := { t.plu with due := s.plu.due }, sns := s.sns
                 slk := { t.slk with tx := s.slk.tx } } = s) ∧
      exec (.abandonSettle tag j) s =
        (if c.state = .settling then done (moved s { c with state := .idle, settle := none })
         else .next (s.replied 0x19 tag .notIdle (items s ++ hidden))))

/-- A settle timer that has reached 0 takes its cavern to IDLE; a valve watch past its limit shuts the cavern,
takes it to FAULT and raises CAVERN_FAULT. The second event counts the disagreement and marks the fault due at its
limits; it counts the settle timer and keeps the state where no quality change of a wellhead pressure comes between
(SMT acts last in the event, log 4). -/
def Obligations.SettleExpiryAndValveFault : Prop :=
  (∀ (j : Nat) (c : Cavern) (s : State), s.sts.inReset = false → s.shaped = true → s.cavern j = some c →
    c.state = .settling → c.settle = some 0 →
    exec (.settleTimerExpiry j) s = .next
      (State.cavernsChanged { s with cvc := s.cvc.set (j - 1) (some { c with settle := none, state := .idle })
                                     plu := { s.plu with due := true } })) ∧
  (∀ (j : Nat) (c : Cavern) (s : State), s.sts.inReset = false → s.shaped = true → s.cavern j = some c →
    c.state ≠ .offline → c.state ≠ .fault → c.faultDue = true →
    ∃ t c', exec (.valveFault j) s = .next t ∧ t.cavern j = some c' ∧ c'.state = .fault ∧ c'.settle = none ∧
      c'.setPoint = 0 ∧ c'.lastDir = c.lastDir ∧ c'.reversals = c.reversals ∧ c'.faultDue = false ∧
      t.valveOrder j = .shut ∧ t.rateOrder j = 0 ∧ t.plu = { s.plu with due := true } ∧
      (let a := s.alert .cavernFault
       t.alert .cavernFault = { a with pending := true, count := min 255 (a.count + 1), object := j
                                       second := s.clk.stationSeconds }) ∧
      { t with plu := s.plu, cvc := s.cvc, ori := s.ori, als := s.als, slk := { t.slk with tx := s.slk.tx } } = s) ∧
  (∀ (j : Nat) (c : Cavern) (s : State), s.quiet = true → s.shaped = true → j ∈ cavernNumbers →
    s.cavern j = some c → c.state ≠ .offline → c.state ≠ .fault →
    let p := s.point (valvePoint j)
    let agrees := p.usable && p.value == valveCode (s.valveOrder j)
    let n := min 65535 (c.disagreement + 1)
    ∃ t x, exec .secondEvent s = .next t ∧ t.cavern j = some x ∧
      x.faultDue = (!agrees && ((p.usable && p.value != 3 && decide (c.config.travelTime < n)) ||
        decide (2 * c.config.travelTime < n))) ∧
      ((s.sts.state ≠ .running ∧ c.state.flowing = false) ∨
          (∀ i ∈ cavernNumbers, (t.point (pressurePoint i)).quality = (s.point (pressurePoint i)).quality) →
        x.state = c.state ∧ x.settle = c.settle.map (· - 1) ∧ x.disagreement = (if agrees then 0 else n)))

/-- MINUTE_EVENT: every ring takes one entry and drops its oldest at 62, CAVERN_RAMP is raised where a ramp becomes
high, and the compression requirement is tested. That ring and test read each point with the quality it has after the
ageing of the same second event is the model's choice (log 45), as is the test after the split (log 41). A SAMPLE of a
wellhead pressure: a cavern that flows and stands at its window edge is stopped with its mark and its alert, whatever
quality the point had (log 37) and whichever way the plan goes, and a mark clears past the warn margin. A split may
put such a cavern into the plan's other direction at once only where its settle time is 0; with nothing to split
nothing else moves. -/
def Obligations.CavernPressuresAreFollowed : Prop :=
  (∀ s : State, s.sts.inReset = false → s.shaped = true → s.clk.minuteDue = true →
    ∃ t, exec .minuteEvent s = .next t ∧ t.clk = { s.clk with minuteDue := false } ∧
      (∀ j ∈ cavernNumbers, ∀ c, s.cavern j = some c → ∃ c', t.cavern j = some c' ∧
        (let p := s.point (pressurePoint j)
         let ring := c.ring ++ [if p.usable then some p.value else none]
         let high := decide (4 * c.config.maxRamp < 5 * rampOf c'.ring)
         c'.ring = (if 62 ≤ ring.length then ring.drop 1 else ring) ∧ c'.rampDisarmed = high ∧
         (c.rampDisarmed = false → high = true → (t.alert .cavernRamp).pending = true) ∧
         (c'.config, c'.booked, c'.volInject, c'.volWithdraw) = (c.config, c.booked, c.volInject, c.volWithdraw))) ∧
      (s.sts.state ≠ .blank →
        t.cdu.required =
          (!(s.point 4).usable || cavernNumbers.any (fun j => (t.cavern j).any (fun c =>
            let p := s.point (pressurePoint j)
            c.state != .offline && c.state != .fault && !c.empty && p.usable &&
            decide (p.value < (s.point 4).value + s.cfg.gridMargin))))) ∧
      (s.cdu.required ≠ t.cdu.required → t.plu.due = true) ∧ t.cdu.units = s.cdu.units ∧
      { t with clk := s.clk, cvc := s.cvc, cdu := s.cdu, plu := { t.plu with due := s.plu.due }, ori := s.ori
               als := s.als, slk := { t.slk with tx := s.slk.tx } } = s) ∧
  (∀ (tag j value : Nat) (c : Cavern) (s : State), s.receptive = true → s.shaped = true → s.cavern j = some c →
    let v := min 30000 value
    let now := s.clk.stationSeconds
    let splits (d : Dir) : Prop := s.sts.state = .running ∧ s.planDir = some d
    let atMax := c.state = .injecting ∧ c.config.pressureMax ≤ v
    let atMin := c.state = .withdrawing ∧ v ≤ c.config.pressureMin
    let full := (decide atMax || c.full) && !decide (v < c.config.pressureMax - c.config.warnMargin)
    let empty := (decide atMin || c.empty) && !decide (c.config.pressureMin + c.config.warnMargin < v)
    ∃ t x, exec (.sample tag [(pressurePoint j, value)]) s = .next t ∧ t.cavern j = some x ∧
      t.point (pressurePoint j) = ⟨v, 0, .good, decide (30000 < value)⟩ ∧
      (¬ splits .withdraw → x.full = full) ∧ (¬ splits .inject → x.empty = empty) ∧
      (atMax → t.plu.due = true ∧ t.alert .cavernFull = (s.alert .cavernFull).raised j now ∧
        (¬ splits .withdraw ∨ (c.config.settleTime ≠ 0 ∧ c.lastDir = some .inject) →
          tookSettling t j c ∧ x.full = full ∧ x.empty = empty)) ∧
      (atMin → t.plu.due = true ∧ t.alert .cavernEmpty = (s.alert .cavernEmpty).raised j now ∧
        (¬ splits .inject ∨ (c.config.settleTime ≠ 0 ∧ c.lastDir = some .withdraw) →
          tookSettling t j c ∧ x.full = full ∧ x.empty = empty)) ∧
      (¬ atMax → ¬ atMin → ¬ splits .inject → ¬ splits .withdraw →
        x.state = c.state ∧ x.settle = c.settle ∧ t.ori = s.ori ∧ t.als = s.als))

/-! ### Queries: each only replies -/

/-- CAVERN QUERY, UNIT QUERY and TRAIN QUERY show the object's record and the station's figures, and change
nothing. The field widths, those of numbers with no stated range among them, are log 12, the code of a train's
condition log 13, the settle timer sent twice and the zero order entries of an unconfigured object log 28, the zeros of
a NO_SUCH reply log 35, the place in the heater queue, counted from 1, log 48, and where the loading percentages
stand, what an order entry shows and how the HEATING bed is spelt log 51. -/
def Obligations.PlantQueriesShowTheRecords : Prop :=
  ∀ (tag n : Nat) (s : State), s.receptive = true → s.shaped = true →
    let number (item : Nat → Item) (o : Option Nat) : List Item := [.u8 (markCode o.isSome), item (o.getD 0)]
    let cavern (c : Cavern) : List Item :=
      let f := c.config
      let config : List Item :=
        [.u8 1, .u16 f.pressureMin, .u16 f.pressureMax, .u16 f.warnMargin, .u16 f.maxRamp, .u32 f.injectionLimit,
         .u32 f.withdrawalLimit, .u16 f.settleTime, .u8 f.maxReversals, .u16 f.travelTime]
      let flow : List Item := [.u8 (cavernCode c.state), .u8 (dirFirstCode c.lastDir), .u8 c.reversals]
      let rest : List Item :=
        [.u16 c.disagreement, .u8 (markCode c.full), .u8 (markCode c.empty), .u8 (markCode c.rampDisarmed),
         .u32 c.setPoint, .u32 c.refInject, .u32 c.refWithdraw, .u32 c.volInject, .u32 c.volWithdraw,
         .u16 c.qInject, .u16 c.qWithdraw, .i64 c.booked, .u16 (rampOf c.ring), .u32 c.capInject,
         .u32 c.capWithdraw, .u8 (c.ring.filter Option.isSome).length]
      config ++ flow ++ number .u16 c.settle ++ rest ++ number .u16 c.settle
    let unit (u : Compressor) : List Item :=
      let f := u.config
      let p := s.point (28 + n)
      let config : List Item :=
        [.u8 1, .u32 f.capacity, .u32 f.minFlow, .u8 f.startsPerHour, .u16 f.minRun, .u16 f.minStop,
         .u16 f.startTimeout, .u8 f.tripLimit, .u8 f.stopBand]
      let now : List Item := [.u8 (unitCode u.state), .u32 u.runSeconds, .u8 u.startList.length]
      let ages : List Item := u.startList.map (fun e => .u16 (startAge s.clk.stationSeconds e))
      let rest : List Item :=
        [.u8 u.trips, .u32 u.load, .u8 p.value, .u8 (qualityCode p.quality), .u8 (runCode (s.runOrder n)),
         .u32 (s.loadOrder n)]
      config ++ now ++ ages ++ number .u16 u.minRun ++ number .u16 u.minStop ++ number .u16 u.timeout ++ rest
    let train (r : Train) : List Item :=
      let f := r.config
      let order := s.trainOrder n
      let limit := f.bedCapacity * 1000000
      let place (bed : Bed) : Option Nat := (s.drc.queue.findIdx? (fun x => x == (n, bed))).map (· + 1)
      let config : List Item :=
        [.u8 1, .u32 f.capacity, .u16 f.bedCapacity, .u8 f.switchPoint, .u8 f.derate, .u16 f.heatingTime,
         .u16 f.coolingTime, .u16 f.regenRate, .u16 f.outletSpec, .u16 f.designInlet, .u16 f.offspecDelay]
      let beds : List Item :=
        [.u8 (trainCode r.state), .u8 (bedStateCode r.bedA.state), .u8 (bedStateCode r.bedB.state),
         .u64 r.bedA.loading, .u64 r.bedB.loading, .u16 r.remainder]
      let counts : List Item := [.u16 r.aboveSpec, .u16 r.inSpec, .u8 (conditionCode r.condition)]
      let last : List Item := match r.lastRegen with
        | some l => [.u8 1, .u8 (bedCode l.bed), .u32 l.volume, .u8 (outcomeCode l.outcome)]
        | none => [.u8 0, .u8 0, .u32 0, .u8 0]
      let figures : List Item :=
        [.u8 (r.bedA.loading * 100 / limit), .u8 (r.bedB.loading * 100 / limit), .u32 r.planCap,
         .u8 (modeCode order.1), .u8 (bedCode order.2.1), .u8 (stepCode order.2.2), .u8 (stepBedCode order.2.2)]
      let heating : List Item :=
        if s.drc.heating = some (n, .a) ∨ s.drc.heating = some (n, .b) then
          [.u8 1, .u16 (s.drc.heatingTimer.getD 0), .u32 s.drc.volume]
        else [.u8 0, .u16 0, .u32 0]
      config ++ beds ++ number .u16 r.cooling ++ counts ++ last ++ figures ++ number .u8 (place .a) ++
        number .u8 (place .b) ++ heating
    let unitFigures : List Item :=
      [.u32 s.compressionCapability, .u8 (markCode s.cdu.required), .u16 s.cfg.gridMargin]
    let heater : List Item := match s.drc.heating with
      | some x => [.u32 s.dryerCapability, .u8 1, .u8 x.1, .u8 (bedCode x.2), .u8 s.drc.queue.length]
      | none => [.u32 s.dryerCapability, .u8 0, .u8 0, .u8 0, .u8 s.drc.queue.length]
    exec (.cavernQuery tag n) s = .next (s.replied 0x1A tag (if n = 0 ∨ 8 < n then .noSuch else .ok)
      (((s.cavern n).map cavern).getD zeroCavernItems)) ∧
    exec (.unitQuery tag n) s = .next (s.replied 0x1E tag (if n = 0 ∨ 6 < n then .noSuch else .ok)
      (((s.unit n).map unit).getD zeroUnitItems ++ unitFigures)) ∧
    exec (.trainQuery tag n) s = .next (s.replied 0x22 tag (if n = 0 ∨ 2 < n then .noSuch else .ok)
      (((s.train n).map train).getD zeroTrainItems ++ heater))

/-- ORDER QUERY, ALERT QUERY and LINK STATUS show the order image, the alert set and the link; a request of an
unknown kind is answered with kind 0x7F, BAD_FORM and the kind received. Nothing else changes. Of the requests that no
row spells, sent as a frame: FIELDS that fail the form check are answered BAD_FORM in every station state, BLANK too, a
SAMPLE of no pair, of more than 16 or of a broken pair among them; an action code outside its list is BAD_RANGE, and
WRONG_STATE in BLANK. The widths are log 12, the count 0 of a refused ORDER QUERY log 35, the action codes log 34. -/
def Obligations.LinkQueriesShowTheLink : Prop :=
  (∀ (tag first count kind : Nat) (s : State), s.receptive = true → s.shaped = true →
    (exec (.orderQuery tag first count) s =
      if first = 0 ∨ 31 < first ∨ count = 0 ∨ 16 < count then .next (s.replied 0x28 tag .badRange [.u8 0])
      else
        let run := min count (32 - first)
        .next (s.replied 0x28 tag .ok (.u8 run :: (List.range' first run).flatMap (fun i =>
          match s.order i with
          | some e => [.u32 (orderWord e.value), .u32 e.second, .u8 (markCode e.unsent)]
          | none => [])))) ∧
    (∃ k pend enab, exec (.alertQuery tag) s = .next (s.replied 0x29 tag .ok
        (match nth s.als k with
         | some r => [.u8 k, .u8 r.count, .u8 r.object, .u32 r.second, .u32 pend, .u32 enab]
         | none => [.u8 0, .u8 0, .u8 0, .u32 0, .u32 pend, .u32 enab])) ∧
      (k = 0 → ∀ a : AlertKind, ((s.alert a).pending && (s.alert a).enabled) = false) ∧
      (k ≠ 0 → ∃ a : AlertKind, alertNumber a = k ∧ (s.alert a).pending = true ∧ (s.alert a).enabled = true ∧
        ∀ b : AlertKind, alertNumber b < k → ((s.alert b).pending && (s.alert b).enabled) = false) ∧
      pend < 2 ^ 23 ∧ enab < 2 ^ 23 ∧
      (∀ a : AlertKind, pend.testBit (alertNumber a - 1) = (s.alert a).pending ∧
        enab.testBit (alertNumber a - 1) = (s.alert a).enabled)) ∧
    exec (.linkStatus tag) s = .next (s.replied 0x2C tag .ok
      [.u16 s.slk.lengthTally, .u16 s.slk.crcTally, .u16 s.slk.timeoutTally, .u16 s.slk.overrunTally, .u8 1,
       .u8 s.slk.tx.length, .u8 (s.ori.filter (·.unsent)).length, .u16 s.cfg.statusInterval]) ∧
    (s.hcu.close = none → exec (.unknownKind tag kind) s = .next (s.sends ⟨0x7F, tag, [.u8 2, .u8 kind]⟩)) ∧
    (∀ ps : List (Nat × Nat), ps = [] ∨ 16 < ps.length →
      exec (.sample tag ps) s = .next (s.replied 0x05 tag .badForm []))) ∧
  (∀ (x high len kind tag : Byte) (fields : List Byte) (s : State), s.receptive = true →
    s.slk.parser = .check2 (len :: kind :: tag :: fields) high →
    crc16 (len :: kind :: tag :: fields) = high.toNat * 256 + x.toNat →
    let k := kind.toNat
    let idle : State := { s with slk := { s.slk with parser := .hunt } }
    let held := s.hcu.close.isSome = true ∧ k ∈ [0x0B, 0x0C, 0x08, 0x09, 0x0A, 0x10, 0x11, 0x18]
    let sizes : List (Nat × Nat) :=
      [(0x01, 6), (0x02, 1), (0x03, 0), (0x04, 34), (0x06, 2), (0x08, 22), (0x09, 9), (0x0A, 10), (0x0B, 2),
       (0x0C, 2), (0x10, 11), (0x11, 2), (0x14, 0), (0x18, 32), (0x19, 2), (0x1A, 1), (0x1C, 27), (0x1D, 2),
       (0x1E, 1), (0x20, 32), (0x21, 2), (0x22, 1), (0x28, 2), (0x29, 0), (0x2A, 12), (0x2C, 0), (0x2D, 0)]
    let blank := s.sts.state = .blank
    -- kind, length of FIELDS, highest action code, whether the number names an object
    let actions (n : Nat) : List (Nat × Nat × Nat × Bool) :=
      [(0x08, 22, 4, decide (1 ≤ n ∧ n ≤ s.shippers)), (0x18, 32, 1, decide (1 ≤ n ∧ n ≤ 8)),
       (0x19, 2, 2, (s.cavern n).isSome), (0x1C, 27, 1, decide (1 ≤ n ∧ n ≤ 6)), (0x1D, 2, 2, (s.unit n).isSome),
       (0x20, 32, 1, decide (1 ≤ n ∧ n ≤ 2)), (0x21, 2, 2, (s.train n).isSome)]
    (∀ m, (k, m) ∈ sizes → fields.length ≠ m → ¬ held →
      exec (.frameReceived x) s = .next (idle.replied k tag.toNat .badForm [])) ∧
    (k = 0x05 → fields.length % 5 ≠ 0 ∨ fields = [] ∨ 80 < fields.length →
      exec (.frameReceived x) s = .next (idle.replied 0x05 tag.toNat .badForm [])) ∧
    (k ∉ 0x05 :: sizes.map (·.1) →
      exec (.frameReceived x) s = .next (idle.sends ⟨0x7F, tag.toNat, [.u8 2, .u8 k]⟩)) ∧
    (∀ a : Byte, k = 0x02 → fields = [a] → 3 < a.toNat →
      exec (.frameReceived x) s =
        .next (idle.replied 0x02 tag.toNat (if blank then .wrongState else .badRange) [])) ∧
    (∀ (n a : Byte) (rest : List Byte) (last : Nat) (named : Bool), fields = n :: a :: rest →
      (k, fields.length, last, named) ∈ actions n.toNat → last < a.toNat → ¬ held → blank ∨ named = true →
      ∃ items, exec (.frameReceived x) s =
        .next (idle.replied k tag.toNat (if blank then .wrongState else .badRange) items)))

/-! ### 08: compressors -/

/-- CONFIGURE UNIT and DECONFIGURE: the checks in order, each field applied or left, the values of a new unit,
and the return to unconfigured with the feedback point at NEVER. The zeros a refusal shows for a unit that is not
configured or not there are log 35. -/
def Obligations.ConfigureUnitChecksAndApplies : Prop :=
  ∀ (tag k : Nat) (f : UnitFields) (s : State), s.receptive = true → s.shaped = true → s.sts.state ≠ .blank →
    let old := s.unit k
    let held : UnitConfig := (old.map (·.config)).getD ⟨0, 0, 3, 1800, 900, 300, 3, 90⟩
    let starts := (old.map (·.startList.length)).getD 0
    let near (lo hi h : Nat) (o : Option Nat) : Nat := (o.map (fun n => max lo (min hi n))).getD h
    let cap := near 1000 400000 held.capacity f.capacity
    let a : UnitConfig :=
      ⟨cap, min cap (f.minFlow.getD held.minFlow),
       (f.startsPerHour.map (fun n => max starts (max 1 (min 6 n)))).getD held.startsPerHour,
       near 0 7200 held.minRun f.minRun, near 0 7200 held.minStop f.minStop,
       near 30 900 held.startTimeout f.startTimeout, near 1 5 held.tripLimit f.tripLimit,
       near 50 95 held.stopBand f.stopBand⟩
    let other (o : Option Nat) (n : Nat) : Bool := o.isSome && o != some n
    let clamped := other f.capacity a.capacity || other f.minFlow a.minFlow ||
      other f.startsPerHour a.startsPerHour || other f.minRun a.minRun || other f.minStop a.minStop ||
      other f.startTimeout a.startTimeout || other f.tripLimit a.tripLimit || other f.stopBand a.stopBand
    let fields (c : UnitConfig) : List Item :=
      [.u32 c.capacity, .u32 c.minFlow, .u8 c.startsPerHour, .u16 c.minRun, .u16 c.minStop, .u16 c.startTimeout,
       .u8 c.tripLimit, .u8 c.stopBand]
    let reply (o : Option Compressor) : List Item := match o with
      | some u => [.u8 k, .u8 1, .u8 (unitCode u.state)] ++ fields u.config
      | none => [.u8 k, .u8 0, .u8 0] ++ fields ⟨0, 0, 0, 0, 0, 0, 0, 0⟩
    let refused (r : Result) : Host.Outcome State Fault Refusal := .next (s.replied 0x1C tag r (reply old))
    let put (o : Option Compressor) : State :=
      { s with cdu := { s.cdu with units := s.cdu.units.set (k - 1) o }, sns := { s.sns with due := true } }
    (let run := exec (.configureUnit tag k f) s
     if k = 0 ∨ 6 < k then run = refused .noSuch
     else if ∃ u, old = some u ∧ u.state ≠ .unavailable then run = refused .notIdle
     else if old = none ∧ f.capacity = none then run = refused .badRange
     else
       let u : Compressor := match old with
         | some u => { u with config := a }
         | none => { config := a, state := .unavailable, runSeconds := 0, startList := [], minRun := none
                     minStop := none, timeout := none, trips := 0, load := 0 }
       run = .next ((put (some u)).replied 0x1C tag (if clamped then .clamped else .ok) (reply (some u)))) ∧
    (let run := exec (.deconfigureUnit tag k) s
     if old = none then run = refused .noSuch
     else if ∃ u, old = some u ∧ u.state ≠ .unavailable then run = refused .notIdle
     else run = .next
       (({ put none with smt := s.smt.set (28 + k) Point.never } : State).replied 0x1C tag .ok (reply none)))

/-- UNIT MODE by the table of R141. A state change is followed by the unit's orders and by one duty
evaluation for each change, after the last of them (log 17); an accepted action makes SNS due, also where it changes nothing. The zeros of
a NO_SUCH reply are log 35. -/
def Obligations.UnitModeActsByUnitState : Prop :=
  ∀ (tag k : Nat) (u : Compressor) (s : State), s.receptive = true → s.shaped = true → s.sts.state ≠ .blank →
    let p := s.point (28 + k)
    let stopped := p.usable = true ∧ p.value = 0
    let head (t : State) : List Item := [.u8 k, .u8 (((t.unit k).map (fun u => unitCode u.state)).getD 0)]
    let hidden : List Item := [.u8 0, .u8 0, .u8 0]
    let shown : List Item := [.u8 1, .u8 p.value, .u8 (qualityCode p.quality)]
    let done (t : State) : Host.Outcome State Fault Refusal :=
      let v : State := { t with sns := { s.sns with due := true } }
      .next (v.replied 0x1D tag .ok (head v ++ hidden))
    let busy : Host.Outcome State Fault Refusal := .next (s.replied 0x1D tag .notIdle (head s ++ hidden))
    let busyShown : Host.Outcome State Fault Refusal := .next (s.replied 0x1D tag .notIdle (head s ++ shown))
    let put (x : Compressor) (due : Bool) : State :=
      { s with cdu := { s.cdu with units := s.cdu.units.set (k - 1) (some x) }
               plu := { s.plu with due := s.plu.due || due } }
    (s.unit k = none →
      ∀ m ∈ [Instr.unitModeAvailable tag k, .unitModeUnavailable tag k, .unitModeRelease tag k],
        exec m s = .next (s.replied 0x1D tag .noSuch [.u8 k, .u8 0, .u8 0, .u8 0, .u8 0])) ∧
    (s.unit k = some u →
      (exec (.unitModeAvailable tag k) s =
        if u.state = .lockedOut then busyShown
        else if u.state = .unavailable then
          if stopped then
            if u.minStop ≠ none ∨ u.config.startsPerHour ≤ u.startList.length then
              done ((put { u with state := .resting } false).writeUnitOrders.evaluateDuty)
            else done ((put { u with state := .ready } true).writeUnitOrders.evaluateDuty)
          else busyShown
        else done s) ∧
      (exec (.unitModeUnavailable tag k) s =
        if u.state = .starting ∨ u.state = .running ∨ u.state = .lockedOut then busy
        else if u.state = .unavailable then done s
        else done ((put { u with state := .unavailable, timeout := none, load := 0 }
          (decide (u.state = .ready))).writeUnitOrders.evaluateDuty)) ∧
      (exec (.unitModeRelease tag k) s =
        if u.state = .lockedOut ∧ stopped then
          let x : Compressor :=
            { u with trips := 0, timeout := none
                     minStop := if u.config.minStop = 0 then none else some u.config.minStop }
          if u.config.minStop = 0 ∧ u.startList.length < u.config.startsPerHour then
            done ((put { x with state := .ready } true).writeUnitOrders.evaluateDuty.evaluateDuty)
          else done ((put { x with state := .resting } false).writeUnitOrders.evaluateDuty)
        else busyShown))

/-- The countdowns at 0 and the start list: min-run brings an evaluation, min-stop the READY test and an
evaluation, a timeout a start failure or a trip, and an old entry leaves the list. A change of state writes the
orders it decides before its evaluation, and a min-stop expiry that finds room brings two evaluations, one for the
change to READY and one for the expiry, both after the change: log 17. That an entry counts until the step that drops it, and that a
min-stop at 0 whose expiry has not run keeps a unit RESTING when an entry is dropped, are the model's choices too:
log 55. -/
def Obligations.UnitCountdownsExpire : Prop :=
  ∀ (k : Nat) (u : Compressor) (s : State), s.sts.inReset = false → s.shaped = true → s.unit k = some u →
    let put (x : Compressor) (due : Bool) : State :=
      { s with cdu := { s.cdu with units := s.cdu.units.set (k - 1) (some x) }
               plu := { s.plu with due := s.plu.due || due } }
    let room (x : Compressor) : Prop := x.state = .resting ∧ x.startList.length < x.config.startsPerHour
    (u.minRun = some 0 →
      exec (.minRunExpiry k) s = .next (put { u with minRun := none } false).evaluateDuty) ∧
    (u.minStop = some 0 → room u →
      exec (.minStopExpiry k) s = .next
        (put { u with minStop := none, state := .ready } true).writeUnitOrders.evaluateDuty.evaluateDuty) ∧
    (u.minStop = some 0 → ¬ room u →
      exec (.minStopExpiry k) s = .next (put { u with minStop := none } false).evaluateDuty) ∧
    (u.timeout = some 0 → u.state = .starting →
      ∃ t, exec (.timeoutExpiry k) s = .next t ∧ tookTrip s t k u .unitStartFailed) ∧
    (u.timeout = some 0 → u.state = .stopping →
      ∃ t, exec (.timeoutExpiry k) s = .next t ∧ tookTrip s t k u .unitTrip) ∧
    (let age (e : Nat) : Nat := (s.clk.stationSeconds + (2 ^ 32 - e % 2 ^ 32)) % 2 ^ 32
     let kept := u.startList.filter (fun e => age e < 3600)
     let x : Compressor := { u with startList := kept }
     kept ≠ u.startList →
      exec (.startListEntryDrop k) s =
        if room x ∧ u.minStop = none then
          .next (put { x with state := .ready } true).writeUnitOrders.evaluateDuty
        else .next (put x false))

/-- An arrival of RUNNING, TRIPPED or STOPPED at a run feedback point, sent as a SAMPLE of one pair, and a
feedback that goes STALE: RUNNING ends a start, a trip is taken in the states that take one, STOPPED takes a
STOPPING or TRIPPED unit to RESTING, and on to READY at once where its min-stop is 0 and it has a start left; every
other arrival only stores its value. The orders are written before the evaluations, of which there is one for each
change of state, all of them after the last change: log 17. -/
def Obligations.RunFeedbackMovesTheUnit : Prop :=
  ∀ (tag k v : Nat) (u : Compressor) (s : State), s.receptive = true → s.shaped = true → s.unit k = some u → v < 3 →
    let stored : State := { s with smt := s.smt.set (28 + k) ⟨v, 0, .good, false⟩ }
    let reply : Record := ⟨0x45, tag, [.u8 0, .u8 1, .u8 (28 + k), .u8 0, .u32 v]⟩
    let put (x : Compressor) (due : Bool) : State :=
      { stored with cdu := { s.cdu with units := s.cdu.units.set (k - 1) (some x) }
                    plu := { s.plu with due := s.plu.due || due } }
    let timer (n : Nat) : Option Nat := if n = 0 then none else some n
    let running := v = 1 ∧ u.state = .starting
    let trips := (v = 2 ∧ (u.state = .starting ∨ u.state = .running ∨ u.state = .stopping)) ∨
      (v = 0 ∧ u.state = .running)
    let rests := v = 0 ∧ (u.state = .stopping ∨ u.state = .tripped)
    let begun : Compressor := { u with state := .running, timeout := none, minRun := timer u.config.minRun }
    let rested : Compressor := { u with state := .resting, timeout := none, minStop := timer u.config.minStop }
    let room := u.config.minStop = 0 ∧ u.startList.length < u.config.startsPerHour
    ∃ t, exec (.sample tag [(28 + k, v)]) s = .next (t.sends reply) ∧
      (running → t = (put begun false).writeUnitOrders.evaluateDuty) ∧
      (running → s.sts.state = .running → 0 < u.config.minRun → ∃ x, t.unit k = some x ∧
        x = { u with state := .running, timeout := none, minRun := some u.config.minRun, load := x.load } ∧
        t.runOrder k = .start ∧ t.loadOrder k = x.load) ∧
      (running → s.sts.state ≠ .running →
        t.unit k = some begun ∧ t.runOrder k = s.runOrder k ∧ t.plu = s.plu) ∧
      (trips → tookTrip stored t k u .unitTrip) ∧
      (rests → ¬ room →
        t.unit k = some rested ∧ t = (put rested false).writeUnitOrders.evaluateDuty) ∧
      (rests → room →
        t = (put { rested with state := .ready } true).writeUnitOrders.evaluateDuty.evaluateDuty) ∧
      (¬ running → ¬ trips → ¬ rests → t = stored) ∧
      (u.state = .running → tookTrip s (s.feedbackQuality k .stale) k u .unitTrip)

/-- A duty evaluation: nothing unless RUNNING; starts of the least-worn READY units while the running capacity
is below the need and no more than are needed; otherwise at most one stop, of the first candidate that passes;
then the loads and the orders. A min-run at 0 whose expiry has not run makes no candidate: the model's choice
(log 55). -/
def Obligations.DutyEvaluationServesTheNeed : Prop :=
  ∀ s : State, s.shaped = true →
    let t := s.evaluateDuty
    let need : Nat := match s.plu.record with
      | some r => if r.dir = some .inject ∨ (r.dir = some .withdraw ∧ r.required = true) then r.target else 0
      | none => 0
    let cap := s.runningCapacity
    let starts (k : Nat) (u : Compressor) : Prop := k ∈ unitNumbers ∧ s.unit k = some u ∧ u.state = .ready ∧
      (t.unit k).map (·.state) = some .starting
    let stops (k : Nat) (u : Compressor) : Prop := k ∈ unitNumbers ∧ s.unit k = some u ∧ u.state = .running ∧
      (t.unit k).map (·.state) ≠ some .running
    let candidate (k : Nat) (u : Compressor) : Prop := k ∈ unitNumbers ∧ s.unit k = some u ∧ u.state = .running ∧
      u.minRun = none
    let passes (u : Compressor) : Prop := 100 * need ≤ (cap - u.config.capacity) * u.config.stopBand
    let n := (unitNumbers.filter (fun k => (t.unit k).any (fun u => u.state == .running))).length
    (s.sts.state ≠ .running → t = s) ∧
    (s.sts.state = .running →
      (∀ k u, starts k u → cap < need ∧ (∀ j x, ¬ stops j x) ∧
        t.unit k = some { u with state := .starting, load := 0, startList := u.startList ++ [s.clk.stationSeconds]
                                 timeout := if u.config.startTimeout = 0 then none else some u.config.startTimeout
                                 minRun := none } ∧
        (∀ j x, j ∈ unitNumbers → s.unit j = some x → x.state = .ready → ¬ starts j x →
          u.runSeconds < x.runSeconds ∨ (u.runSeconds = x.runSeconds ∧ k < j)) ∧
        ((∀ j x, starts j x → x.runSeconds < u.runSeconds ∨ (x.runSeconds = u.runSeconds ∧ j ≤ k)) →
          t.runningCapacity < need + u.config.capacity)) ∧
      (cap < need → t.runningCapacity < need → ∀ k ∈ unitNumbers, ∀ u, s.unit k = some u → u.state = .ready →
        starts k u) ∧
      (need ≤ cap → ∀ k u, stops k u ↔ (candidate k u ∧ passes u ∧ ∀ j x, candidate j x →
        (u.runSeconds < x.runSeconds ∨ (u.runSeconds = x.runSeconds ∧ j < k)) → ¬ passes x)) ∧
      (∀ k u, stops k u → s.showsStopped k = false → t.plu.due = true ∧
        t.unit k = some { u with state := .stopping, load := 0, minRun := none
                                 timeout := if u.config.startTimeout = 0 then none
                                            else some u.config.startTimeout }) ∧
      (∀ k ∈ unitNumbers, ∀ u, s.unit k = some u → ¬ starts k u → ¬ stops k u → u.state ≠ .running →
        t.unit k = some u) ∧
      (∀ k ∈ unitNumbers, ∀ u, t.unit k = some u → u.state = .running →
        u.load = min u.config.capacity (max u.config.minFlow (need / n))) ∧
      (∀ k ∈ unitNumbers, ∀ u, t.unit k = some u →
        t.runOrder k = (if u.state = .starting ∨ u.state = .running then .start else .stop) ∧
        t.loadOrder k = u.load) ∧
      { t with cdu := s.cdu, plu := { t.plu with due := s.plu.due }, ori := s.ori
               slk := { t.slk with tx := s.slk.tx } } = s)

/-! ### 09: drying -/

/-- CONFIGURE TRAIN and DECONFIGURE: the checks in order, each field applied or left, a new train, a reconfigured
one, which a cut loading may bring to a switch of its beds, and the return to unconfigured with points, bed in line
and step as they began. The condition is formed, and TRAIN_BREAKTHROUGH raised, before the switch test: log 47. The
zeros shown for a train that is not configured or not there are log 35. -/
def Obligations.ConfigureTrainChecksAndApplies : Prop :=
  ∀ (tag n : Nat) (f : TrainFields) (s : State), s.receptive = true → s.shaped = true → s.sts.state ≠ .blank →
    let old := s.train n
    let held : TrainConfig := (old.map (·.config)).getD ⟨0, 0, 85, 50, 240, 120, 0, 50, 1500, 120⟩
    let near (lo hi h : Nat) (o : Option Nat) : Nat := (o.map (fun n => max lo (min hi n))).getD h
    let a : TrainConfig :=
      ⟨near 10000 800000 held.capacity f.capacity, near 100 20000 held.bedCapacity f.bedCapacity,
       near 50 95 held.switchPoint f.switchPoint, near 0 100 held.derate f.derate,
       near 30 720 held.heatingTime f.heatingTime, near 30 720 held.coolingTime f.coolingTime,
       near 0 20000 held.regenRate f.regenRate, near 10 500 held.outletSpec f.outletSpec,
       near 0 2000 held.designInlet f.designInlet, near 10 3600 held.offspecDelay f.offspecDelay⟩
    let other (o : Option Nat) (n : Nat) : Bool := o.isSome && o != some n
    let clamped := other f.capacity a.capacity || other f.bedCapacity a.bedCapacity ||
      other f.switchPoint a.switchPoint || other f.derate a.derate || other f.heatingTime a.heatingTime ||
      other f.coolingTime a.coolingTime || other f.regenRate a.regenRate || other f.outletSpec a.outletSpec ||
      other f.designInlet a.designInlet || other f.offspecDelay a.offspecDelay
    let fields (c : TrainConfig) : List Item :=
      [.u32 c.capacity, .u16 c.bedCapacity, .u8 c.switchPoint, .u8 c.derate, .u16 c.heatingTime,
       .u16 c.coolingTime, .u16 c.regenRate, .u16 c.outletSpec, .u16 c.designInlet, .u16 c.offspecDelay]
    let reply (o : Option Train) : List Item := match o with
      | some r => [.u8 n, .u8 1, .u8 (trainCode r.state)] ++ fields r.config
      | none => [.u8 n, .u8 0, .u8 0] ++ fields ⟨0, 0, 0, 0, 0, 0, 0, 0, 0, 0⟩
    let refused (r : Result) : Host.Outcome State Fault Refusal := .next (s.replied 0x20 tag r (reply old))
    let result : Result := if clamped then .clamped else .ok
    let run := exec (.configureTrain tag n f) s
    let drop := exec (.deconfigureTrain tag n) s
    (n = 0 ∨ 2 < n → run = refused .noSuch) ∧
    (n = 1 ∨ n = 2 → old = none →
      if f.capacity = none ∨ f.bedCapacity = none ∨ f.regenRate = none then run = refused .badRange
      else
        let x : Train :=
          { config := a, state := .offline, bedA := ⟨.adsorbing, 0⟩, bedB := ⟨.ready, 0⟩, remainder := 0
            cooling := none, aboveSpec := 0, inSpec := 0, condition := .normal, lastRegen := none, planCap := 0 }
        run = .next (({ s with drc := { s.drc with trains := s.drc.trains.set (n - 1) (some x) }
                               sns := { s.sns with due := true } } : State).replied 0x20 tag result
          (reply (some x)))) ∧
    (∀ r, old = some r → r.state ≠ .offline → run = refused .notIdle ∧ drop = refused .notIdle) ∧
    (∀ r, old = some r → r.state = .offline →
      let limit := a.bedCapacity * 1000000
      let busy (b : BedRecord) : Prop := b.state = .spent ∨ b.state = .heating ∨ b.state = .cooling
      let c : Train := Train.formed { r with config := a, bedA := { r.bedA with loading := min limit r.bedA.loading }
                                             bedB := { r.bedB with loading := min limit r.bedB.loading } }
      let bed := r.inLine
      let switches := limit * a.switchPoint / 100 ≤ (c.bed bed).loading ∧ (r.bed (otherBed bed)).state = .ready
      let free := s.drc.queue = [] ∧ s.drc.heating = none ∧ s.sts.state ≠ .tripped
      let order := s.trainOrder n
      (∃ t y, run = .next t ∧ t.train n = some y ∧
        (¬ switches → y = c ∧ t.drc = { s.drc with trains := t.drc.trains } ∧ t.ori = s.ori) ∧
        (switches → s.heaterLaw = true → free →
          y = c.switched .heating ∧
          t.drc = { s.drc with trains := t.drc.trains, heating := some (n, bed), rate := a.regenRate, volume := 0
                               heatingTimer := some (a.heatingTime * 60) } ∧
          t.trainOrder n = (order.1, otherBed bed, .heat bed)) ∧
        (switches → s.heaterLaw = true → ¬ free →
          y = c.switched .spent ∧
          t.drc = { s.drc with trains := t.drc.trains, queue := s.drc.queue ++ [(n, bed)] } ∧
          t.trainOrder n = (order.1, otherBed bed, order.2.2)) ∧
        (c.condition = .breakthrough → r.condition ≠ .breakthrough →
          (t.alert .trainBreakthrough).pending = true) ∧
        (r.planCap = 0 → t.plu = s.plu) ∧
        (s.heaterLaw = true → ∀ m, m ≠ n → t.train m = s.train m ∧ t.order (28 + m) = s.order (28 + m)) ∧
        t.sns = { s.sns with due := true } ∧
        (∃ more, t.slk.tx = s.slk.tx ++ more ++ [⟨0x60, tag, .u8 (resultCode result) :: reply (some y)⟩]) ∧
        { t with drc := s.drc, plu := { t.plu with due := s.plu.due }, ori := s.ori, als := s.als, sns := s.sns
                 slk := { t.slk with tx := s.slk.tx } } = s) ∧
      (busy r.bedA ∨ busy r.bedB → drop = refused .notIdle) ∧
      (¬ busy r.bedA → ¬ busy r.bedB → ∃ t, drop = .next t ∧ t.train n = none ∧
        t.drc = { s.drc with trains := s.drc.trains.set (n - 1) none } ∧
        t.smt = ((s.smt.set (3 * n + 32) Point.never).set (3 * n + 33) Point.never).set (3 * n + 34) Point.never ∧
        t.trainOrder n = ((s.trainOrder n).1, .a, .none) ∧ t.sns = { s.sns with due := true } ∧
        (∃ more, t.slk.tx = s.slk.tx ++ more ++ [⟨0x60, tag, .u8 0 :: reply none⟩]) ∧
        { t with drc := s.drc, smt := s.smt, ori := s.ori, sns := s.sns
                 slk := { t.slk with tx := s.slk.tx } } = s)) ∧
    (old = none → drop = refused .noSuch)

/-- TRAIN MODE by the table of R155. IN_SERVICE and OUT_OF_SERVICE move the train and, while RUNNING, its mode;
SWITCH_BEDS puts the READY bed in line, and the other bed joins the queue or, where the heater is free, begins
HEATING with its timer, rate and volume. The counts at 0 from the entry to STANDBY on are log 23, the zeros of a
NO_SUCH reply log 35. -/
def Obligations.TrainModeActsByTrainState : Prop :=
  ∀ (tag n : Nat) (r : Train) (s : State), s.receptive = true → s.shaped = true → s.sts.state ≠ .blank →
    let items (x : Train) : List Item :=
      [.u8 n, .u8 (trainCode x.state), .u8 (bedStateCode x.bedA.state), .u8 (bedStateCode x.bedB.state)]
    let kept : Host.Outcome State Fault Refusal :=
      .next (({ s with sns := { s.sns with due := true } } : State).replied 0x21 tag .ok (items r))
    let reply (x : Train) : Record := ⟨0x61, tag, .u8 0 :: items x⟩
    let old := r.inLine
    let new := otherBed old
    let now := s.drc.queue = [] ∧ s.drc.heating = none ∧ s.sts.state ≠ .tripped
    let frame (t : State) : Prop :=
      { t with drc := s.drc, plu := { t.plu with due := s.plu.due }, ori := s.ori, als := s.als, sns := s.sns
               slk := { t.slk with tx := s.slk.tx } } = s ∧ t.sns = { s.sns with due := true }
    (s.train n = none →
      ∀ m ∈ [Instr.trainModeInService tag n, .trainModeOutOfService tag n, .switchBeds tag n],
        exec m s = .next (s.replied 0x21 tag .noSuch [.u8 n, .u8 0, .u8 0, .u8 0])) ∧
    (s.train n = some r →
      (r.state ≠ .offline → exec (.trainModeInService tag n) s = kept) ∧
      (r.state = .offline → exec (.trainModeOutOfService tag n) s = kept) ∧
      (∀ m st, (m = .trainModeInService tag n ∧ r.state = .offline ∧ st = TrainState.standby) ∨
          (m = .trainModeOutOfService tag n ∧ r.state ≠ .offline ∧ st = TrainState.offline) →
        ∃ t y, exec m s = .next t ∧ t.train n = some y ∧
          y = Train.formed { r with state := st, aboveSpec := 0, inSpec := 0 } ∧
          t.plu.due = true ∧
          (t.drc.queue, t.drc.heating, t.drc.heatingTimer, t.drc.rate) =
            (s.drc.queue, s.drc.heating, s.drc.heatingTimer, s.drc.rate) ∧
          (t.trainOrder n).1 = (if s.sts.state = .running then
            (if st = .standby then .standby else .offline) else (s.trainOrder n).1) ∧
          (t.trainOrder n).2 = (s.trainOrder n).2 ∧
          (∃ more, t.slk.tx = s.slk.tx ++ more ++ [reply y]) ∧ frame t) ∧
      ((r.bed new).state ≠ .ready →
        exec (.switchBeds tag n) s = .next (s.replied 0x21 tag .notIdle (items r))) ∧
      ((r.bed new).state = .ready → s.heaterLaw = true →
        ∃ t y, exec (.switchBeds tag n) s = .next t ∧ t.train n = some y ∧
          (t.trainOrder n).2.1 = new ∧
          (now → y = r.switched .heating ∧ t.drc.queue = [] ∧ t.drc.heating = some (n, old) ∧
            t.drc.heatingTimer = some (r.config.heatingTime * 60) ∧ t.drc.rate = r.config.regenRate ∧
            t.drc.volume = 0 ∧ (t.trainOrder n).2.2 = .heat old) ∧
          (s.drc.heating ≠ none ∨ s.sts.state = .tripped →
            y = r.switched .spent ∧ t.drc.queue = s.drc.queue ++ [(n, old)] ∧
            t.drc.heating = s.drc.heating ∧ t.drc.rate = s.drc.rate) ∧
          (t.trainOrder n).1 = (s.trainOrder n).1 ∧
          (∃ more, t.slk.tx = s.slk.tx ++ more ++ [reply y]) ∧ frame t))

/-- The heating expiry: the bed cools from loading 0, the outcome is recorded, the heater is free and takes the
head of its queue; the cooling expiry makes the bed READY, and the switch test that waited for it (log 22) finds it. -/
def Obligations.RegenerationExpires : Prop :=
  (∀ (n : Nat) (bed : Bed) (r : Train) (s : State), s.sts.inReset = false → s.shaped = true →
    s.heaterLaw = true → s.drc.heatingTimer = some 0 → s.drc.heating = some (n, bed) → s.train n = some r →
    ∃ t y, exec .heatingExpiry s = .next t ∧ t.train n = some y ∧ y.bed bed = ⟨.cooling, 0⟩ ∧
      y.cooling = some (r.config.coolingTime * 60) ∧ y.lastRegen = some ⟨bed, s.drc.volume, .completed⟩ ∧
      (y.config, y.state) = (r.config, r.state) ∧ t.trainOrder n = ((s.trainOrder n).1, (s.trainOrder n).2.1, .cool bed) ∧
      (s.drc.queue = [] → s.drc.switchDue = false →
        t.drc.heating = none ∧ t.drc.heatingTimer = none ∧ t.drc.rate = 0) ∧
      (∀ m bed2 rest x, s.drc.queue = (m, bed2) :: rest → s.sts.state ≠ .tripped → s.train m = some x →
        t.drc.heating = some (m, bed2) ∧ t.drc.rate = x.config.regenRate ∧ t.drc.volume = 0 ∧
        t.drc.heatingTimer = some (x.config.heatingTime * 60) ∧
        (t.bedState m bed2 = some .heating) ∧ (t.trainOrder m).2.2 = .heat bed2) ∧
      { t with drc := s.drc, plu := { t.plu with due := s.plu.due }, ori := s.ori, als := s.als
               slk := { t.slk with tx := s.slk.tx } } = s) ∧
  (∀ (n : Nat) (bed : Bed) (r : Train) (s : State), s.sts.inReset = false → s.shaped = true →
    s.heaterLaw = true → s.train n = some r → r.cooling = some 0 → (r.bed bed).state = .cooling →
    ∃ t y, exec (.coolingExpiry n) s = .next t ∧ t.train n = some y ∧ y.cooling = none ∧
      (y.bed bed).loading = (r.bed bed).loading ∧ (t.trainOrder n).1 = (s.trainOrder n).1 ∧
      (s.drc.switchDue = false →
        y.bed bed = { r.bed bed with state := .ready } ∧ y.bed (otherBed bed) = r.bed (otherBed bed) ∧
        t.trainOrder n = ((s.trainOrder n).1, (s.trainOrder n).2.1, .none) ∧ t.drc.queue = s.drc.queue) ∧
      (s.drc.switchDue = true → s.drc.heatingTimer ≠ some 0 →
        (∀ m ∈ trainNumbers, m ≠ n → (s.train m).map (·.cooling) ≠ some (some 0)) →
        (y.bed bed).state = (if r.config.switchMg ≤ (r.bed (otherBed bed)).loading then .adsorbing else .ready)) ∧
      { t with drc := s.drc, plu := { t.plu with due := s.plu.due }, ori := s.ori, als := s.als
               slk := { t.slk with tx := s.slk.tx } } = s)

/-- A count at the off-spec delay takes an ONLINE train to OFFSPEC with its alert, or an OFFSPEC train back; the
count becomes 0, the condition and the planning capacity are formed again, PLU is due, and while RUNNING the mode
follows the plan. Both counts at 0 in STANDBY are log 23. -/
def Obligations.OffspecFollowsTheCounts : Prop :=
  ∀ (n : Nat) (r : Train) (s : State), s.sts.inReset = false → s.shaped = true → s.train n = some r →
    let withdraws := s.sts.state = .running ∧ s.planDir = some .withdraw
    let mode (on : Bool) : TrainMode :=
      if s.sts.state = .running then (if on then .online else .standby) else (s.trainOrder n).1
    let frame (t : State) : Prop :=
      t.plu = { s.plu with due := true } ∧ t.trainOrder n = ((t.trainOrder n).1, (s.trainOrder n).2) ∧
      (∀ m, m ≠ n → t.train m = s.train m) ∧ (∀ i, i ≠ 28 + n → t.order i = s.order i) ∧
      { t with drc := { t.drc with trains := s.drc.trains }, plu := s.plu, ori := s.ori, als := s.als
               slk := { t.slk with tx := s.slk.tx } } = s
    (r.state = .online → r.config.offspecDelay ≤ r.aboveSpec →
      ∃ t, exec (.offspecEntry n) s = .next t ∧
        t.train n = some (Train.formed { r with state := .offspec, aboveSpec := 0 }) ∧
        t.alert .trainOffspec = (s.alert .trainOffspec).raised n s.clk.stationSeconds ∧
        (t.trainOrder n).1 = mode (decide (s.planDir = some .withdraw)) ∧ frame t) ∧
    (r.state = .offspec → r.config.offspecDelay ≤ r.inSpec →
      ∃ t, exec (.offspecRecovery n) s = .next t ∧
        t.train n = some (Train.formed
          (if withdraws then { r with state := .online, inSpec := 0 }
           else { r with state := .standby, inSpec := 0, aboveSpec := 0 })) ∧
        t.alert .trainOffspec = s.alert .trainOffspec ∧
        (t.trainOrder n).1 = mode (decide withdraws) ∧ frame t)

/-! ### 10: the hour close -/

/-- A close begins with the oldest hand-over and the books as they stand; its completion posts the allocation,
replaces the record, raises its alerts, retires the hours, offers the HOUR CLOSE report with the header of the record,
and makes PLU and SNS due. A waiting close, an evaluation and a snapshot write then begin as their own rows say, and
`drain 8` moves the receive queue on: that order is log 3. The alerts of one kind are raised in number order, those of failed transfers in list
order, and their reports come before the HOUR CLOSE report: log 19. -/
def Obligations.HourCloseBeginsAndCompletes : Prop :=
  (∀ (h : HandOver) (rest : List HandOver) (s : State), s.sts.inReset = false → s.hcu.close = none →
    s.hcu.handOvers = h :: rest →
    exec .hourCloseBegin s = .next
      { s with hcu :=
          { s.hcu with
              handOvers := rest
              close := some
                { hand := h, transfers := s.act.transfers, tolerance := s.cfg.tolerance, first := s.hcu.firstClose
                  shippers := shipperNumbers.map (fun n =>
                    let a := s.accountOf n
                    if a.state = .vacant then none
                    else some ⟨a.state, a.inventory, a.current, a.rights.space⟩) } } }) ∧
  (∀ (f : CloseFigures) (s : State), s.quiet = true → s.shaped = true → s.hcu.close = some f →
    s.closeCurrent f = true →
    let h := f.hand.hour
    let r := f.allocate
    let now := s.clk.stationSeconds
    let result (n : Nat) : Option ShipperResult := (nth r.shippers n).join
    let moved (n : Nat) : Int :=
      (s.accountOf n).imbalance + ((result n).map (fun x => x.line.allocated - x.line.confirmed)).getD 0
    let grow (x : Counter) (n : Nat) : Counter :=
      if 2 ^ 32 ≤ x.count + n then ⟨x.count + n - 2 ^ 32, (x.epoch + 1) % 65536⟩ else ⟨x.count + n, x.epoch⟩
    let kept (e : NomEntry) : List NomEntry :=
      let last := (e.first + (e.span - 1)) % 1572864
      if hourAtOrBefore last h then []
      else if hourAtOrBefore e.first h then
        [{ e with first := (h + 1) % 1572864, span := (last + (1572864 - h % 1572864)) % 1572864 }]
      else [e]
    let saturates (n : Nat) : Bool := (result n).isSome && decide ((s.accountOf n).rights.imbalanceLimit < (moved n).natAbs)
    let raised : List (AlertKind × List Nat) :=
      [(.imbalanceSaturated, shipperNumbers.filter saturates), (.transferFailed, r.failed),
       (.shipperOverrun, shipperNumbers.filter (fun n => (result n).any (·.overrun))),
       (.shipperOverSpace, shipperNumbers.filter (fun n => (result n).any (fun x => decide (x.space < x.inventory)))),
       (.estimatedHour, if 0 < f.hand.estimated then [0] else [])]
    let alertReport (k : AlertKind) (objects : List Nat) : List Record := match objects with
      | n :: _ =>
        let a := s.alert k
        if a.pending = false ∧ a.enabled = true then
          [⟨0x83, 0, [.u8 (alertNumber k), .u8 (min 255 (a.count + 1)), .u8 n, .u32 now]⟩]
        else []
      | [] => []
    let c := r.record
    let report : Record := ⟨0x82, 0,
      [.u32 h, .u8 (markCode f.first), .u8 (if 0 < f.hand.estimated then 1 else 0),
       .u8 (if 0 < f.hand.cvDefault then 1 else 0), .u64 f.hand.injection, .u64 f.hand.withdrawal,
       .i64 ((f.hand.injection : Int) - (f.hand.withdrawal : Int)), .u64 f.hand.fuel, .u64 f.hand.regen,
       .u64 f.hand.use, .i64 c.net, .i64 c.deviation, .i64 c.residue, .i64 c.guardTotal, .i64 c.stationChange,
       .u16 f.hand.estimated, .u16 f.hand.cvDefault]⟩
    ∃ t a b v, exec .hourCloseBegin t = .next a ∧ exec .planEvaluationBegin a = .next b ∧
      exec .snapshotWriteBegin b = .next v ∧ exec .hourCloseComplete s = .next (drain 8 v) ∧
      (s.slk.rx = [] → drain 8 v = v) ∧
      t.hcu = { s.hcu with close := none, firstClose := false, lastClosed := some h, record := some c } ∧
      (c.hour, c.first, c.hand) = (h, f.first, f.hand) ∧
      c.shippers = r.shippers.map (fun x => x.map (·.line)) ∧ c.caverns = r.caverns ∧
      t.act.station = s.act.station + c.stationChange ∧
      t.act.transfers = s.act.transfers.filter (fun x => !hourAtOrBefore x.hour h) ∧
      (∀ n ∈ shipperNumbers, ∀ x, result n = some x →
        let a := s.accountOf n
        let l := x.line
        let limit : Int := (a.rights.imbalanceLimit : Int)
        t.accountOf n =
          { a with
              inventory := ((a.inventory : Int) + l.transferNet + l.allocated - (l.useShare : Int)).toNat
              imbalance := max (-limit) (min limit (moved n)), saturated := a.saturated || saturates n
              injected := if 0 < l.allocated then grow a.injected l.allocated.natAbs else a.injected
              withdrawn := if l.allocated < 0 then grow a.withdrawn l.allocated.natAbs else a.withdrawn
              useCharged := grow a.useCharged l.useShare
              overruns := if x.overrun then min 65535 (a.overruns + 1) else a.overruns
              line := some l }) ∧
      (∀ n ∈ shipperNumbers, result n = none → t.accountOf n = s.accountOf n) ∧
      (∀ j ∈ cavernNumbers, ∀ c, s.cavern j = some c → ∃ c', t.cavern j = some c' ∧
        c' = { c with booked := c.booked + (((nth r.caverns j).join).map (·.posting)).getD 0 }) ∧
      (∀ n ∈ shipperNumbers,
        let p := s.partition n
        let left := p.entries.flatMap kept
        t.partition n = ⟨left, p.disarmed && decide ((s.cfg.warnLevel * (256 / s.shippers) + 99) / 100 ≤ left.length)⟩) ∧
      (∀ x ∈ raised, t.alert x.1 = x.2.foldl (fun a n => a.raised n now) (s.alert x.1)) ∧
      (∀ k : AlertKind, k ∉ raised.map (·.1) → k ≠ .reportsDropped → t.alert k = s.alert k) ∧
      (s.occupancy < 23 → t.slk.tx = s.slk.tx ++ raised.flatMap (fun x => alertReport x.1 x.2) ++ [report] ∧
        t.alert .reportsDropped = s.alert .reportsDropped) ∧
      (∃ more, (∀ x ∈ more, x.kind = 0x83) ∧
        t.slk.tx = s.slk.tx ++ more ++ (if s.occupancy + more.length < 28 then [report] else []) ∧
        (28 ≤ s.occupancy + more.length → (t.alert .reportsDropped).pending = true)) ∧
      (28 ≤ s.occupancy → t.slk.tx = s.slk.tx) ∧
      t.plu = { s.plu with due := true } ∧ t.sns = { s.sns with due := true } ∧
      { t with hcu := s.hcu, act := s.act, cvc := s.cvc, nst := s.nst, plu := s.plu, sns := s.sns, als := s.als
               slk := { t.slk with tx := s.slk.tx } } = s)

/-- The allocation of a close over transfers between included shippers, step by step: due transfers applied in list
order or failed (R161), confirmations of the closed hour (R162), the deviation divided over its side within the
tolerance (R163), the station use (R164), and the guard, which shipper by shipper reduces the use share first and
only then raises the allocation, or cuts the allocation at the top (R165). The guard leaves every inventory within
its bounds, the nets sum to 0, the postings to the books and to the caverns each sum to M - U, and the station
bears the residue, the use not charged and the guard total. -/
def Obligations.AllocationBalancesTheBooks : Prop :=
  ∀ f : CloseFigures,
    let shipper (n : Nat) : Option CloseShipper := (nth f.shippers n).join
    (∀ x ∈ f.transfers, (shipper x.source).isSome = true ∧ (shipper x.target).isSome = true) →
    (∀ x, some x ∈ f.shippers → x.inventory ≤ 2 ^ 47 - 1) →
    let r := f.allocate
    let h := f.hand.hour
    let m : Int := (f.hand.injection : Int) - (f.hand.withdrawal : Int)
    let placed : Int := m - (f.hand.use : Int)
    let numbers := List.range' 1 f.shippers.length
    let active (n : Nat) : Bool := (shipper n).any (fun x => x.state == .active)
    let move (w : (Nat → Nat) × (Nat → Int) × List Nat) (x : Transfer) : (Nat → Nat) × (Nat → Int) × List Nat :=
      let (held, net, failed) := w
      if x.amount ≤ held x.source ∧ held x.target + x.amount ≤ 2 ^ 47 - 1 then
        let paid (n : Nat) : Nat := if n = x.source then held n - x.amount else held n
        (fun n => if n = x.target then paid n + x.amount else paid n,
         fun n => net n - (if n = x.source then x.amount else 0) + (if n = x.target then x.amount else 0), failed)
      else (held, net, failed ++ [x.source])
    let moved := (f.transfers.filter (fun x => hourAtOrBefore x.hour h)).foldl move
      (fun n => ((shipper n).map (·.inventory)).getD 0, fun _ => 0, [])
    let confirmed (n : Nat) : Int := match (shipper n).bind (·.confirmation) with
      | some c =>
        if c.hour = h then
          (match c.dir with
           | some .inject => (c.confirmed : Int)
           | some .withdraw => -(c.confirmed : Int)
           | none => 0)
        else 0
      | none => 0
    let net := (numbers.map confirmed).sum
    let d := m - net
    let side : Int := if 0 < net ∨ (net = 0 ∧ 0 < m) then 1 else -1
    let weight (n : Nat) : Nat := if active n = true ∧ signOf (confirmed n) = side then (confirmed n).natAbs else 0
    let deviation := shareOutCapped d.natAbs (numbers.map weight) (numbers.map (fun n => weight n * f.tolerance / 100))
    let share (n : Nat) : Int := signOf d * (deviation.shares.getD (n - 1) 0 : Nat)
    let a (n : Nat) : Int := confirmed n + share n
    let useWeight (n : Nat) : Nat := if active n = true ∧ m ≠ 0 ∧ signOf (a n) = signOf m then (a n).natAbs else 0
    let u (n : Nat) : Nat := (shareOut f.hand.use (numbers.map useWeight)).shares.getD (n - 1) 0
    let new (n : Nat) : Int := (moved.1 n : Int) + a n - (u n : Int)
    let useShare (n : Nat) : Nat := if new n < 0 then u n - (new n).natAbs else u n
    let allocated (n : Nat) : Int :=
      if new n < 0 then a n + (((new n).natAbs - u n : Nat) : Int) else a n - max 0 (new n - (2 ^ 47 - 1))
    let total (g : ShipperResult → Int) : Int := (r.shippers.map (fun x => (x.map g).getD 0)).sum
    let configured := f.hand.volumes.any Option.isSome = true
    let volume (v : Nat × Nat) : Int := (v.1 : Int) - (v.2 : Int)
    let part := shareOut placed.natAbs (f.hand.volumes.map (fun v => (v.map (fun v =>
      if signOf (volume v) = signOf placed then (volume v).natAbs else 0)).getD 0))
    (∀ n, (nth r.shippers n).join = (shipper n).map (fun x =>
      { line := { hour := h, confirmed := confirmed n, deviationShare := share n, useShare := useShare n
                  guardAdjustment := (allocated n - (useShare n : Int)) - (a n - (u n : Int))
                  allocated := allocated n, transferNet := moved.2.1 n }
        overrun := decide (new n < 0), inventory := ((moved.1 n : Int) + allocated n - (useShare n : Int)).toNat
        space := x.space })) ∧
    r.failed = moved.2.2 ∧ r.record.net = net ∧ r.record.deviation = d ∧
    r.record.residue = signOf d * (deviation.residue : Int) ∧
    (∀ j, (nth r.caverns j).join = ((nth f.hand.volumes j).join).map (fun v =>
      let balancing := (f.hand.volumes.take (j - 1)).all Option.isNone
      { volume := volume v, balancing := balancing
        posting := signOf placed * ((part.shares.getD (j - 1) 0 + (if balancing then part.residue else 0) : Nat) : Int) })) ∧
    (∀ n y, (nth r.shippers n).join = some y →
      y.inventory ≤ 2 ^ 47 - 1 ∧ (y.overrun = true ↔ 0 < y.line.guardAdjustment) ∧
      (y.overrun = true → y.inventory = 0) ∧ (y.line.guardAdjustment < 0 → y.inventory = 2 ^ 47 - 1) ∧
      y.line.deviationShare.natAbs * 100 ≤ y.line.confirmed.natAbs * f.tolerance) ∧
    (∀ n x y, shipper n = some x → (nth r.shippers n).join = some y →
      (y.inventory : Int) = (x.inventory : Int) + y.line.transferNet + y.line.allocated - (y.line.useShare : Int) ∧
      (x.state ≠ .active → y.line.deviationShare = 0 ∧ y.line.useShare = 0)) ∧
    total (fun x => x.line.transferNet) = 0 ∧
    total (fun x => x.line.guardAdjustment) = r.record.guardTotal ∧
    (let postings : Int := (r.caverns.map (fun x => (x.map (·.posting)).getD 0)).sum
     let books : Int := total (fun x => x.line.allocated - (x.line.useShare : Int)) + r.record.stationChange
     let charged := (numbers.map u).sum
     (charged = 0 ∨ charged = f.hand.use) ∧
     (configured → postings = placed ∧ books = placed ∧
       r.record.stationChange =
         r.record.residue - ((f.hand.use : Int) - (charged : Int)) - r.record.guardTotal) ∧
     (¬ configured → postings = 0 ∧ books = 0))

/-- Outside and during a close, the booked inventories of the configured caverns sum to the shipper inventories
plus the station account. The law carries what keeps it so: VACANT records hold nothing, transfers name open
accounts, and what a close took still stands. -/
def Obligations.StepKeepsBooksBalanced : Prop :=
  ∀ s t : State, s.shaped = true → s.booksLaw = true → step s = .next t → t.booksLaw = true

/-! ### 11: the station link -/

/-- Offers by occupancy: an alert's record and its report, an order's entry and its report, the STATUS report
of an expired countdown, and the entries offered again as a sent record takes the occupancy below 28. A sent record
that takes the occupancy below 48 has the waiting request taken, as its row would be, unless a close holds it. -/
def Obligations.RecordsAreOfferedByOccupancy : Prop :=
  (∀ (a : AlertKind) (object : Nat) (s : State), s.shaped = true → a ≠ .reportsDropped →
    let t := s.raise a object
    let now := s.clk.stationSeconds
    let r := (s.alert a).raised object now
    let offered := (s.alert a).pending = false ∧ (s.alert a).enabled = true
    t.alert a = r ∧
    (offered → s.occupancy < 28 → t.slk.tx = s.slk.tx ++
      [⟨0x83, 0, [.u8 (alertNumber a), .u8 r.count, .u8 object, .u32 now]⟩]) ∧
    (offered → 28 ≤ s.occupancy → t.slk.tx = s.slk.tx ∧
      (let d := s.alert .reportsDropped
       t.alert .reportsDropped =
         if d.pending = false ∧ d.enabled = true then (d.raised 0 now).raised 0 now else d.raised 0 now)) ∧
    (¬ offered → t = { s with als := s.als.set (alertNumber a - 1) r }) ∧
    (∀ b, b ≠ a → b ≠ .reportsDropped → t.alert b = s.alert b) ∧
    (t.attnN = false ↔ ∃ x ∈ t.als, x.pending = true ∧ x.enabled = true)) ∧
  (∀ (i : Nat) (e : OrderEntry) (v : OrderValue) (s : State), s.order i = some e →
    let now := s.clk.stationSeconds
    s.writeOrder i v =
      if s.occupancy < 38 then
        { s with ori := s.ori.set (i - 1) ⟨v, now, false⟩
                 slk := { s.slk with tx := s.slk.tx ++ [⟨0x80, 0, [.u8 i, .u32 (orderWord v), .u32 now]⟩] } }
      else { s with ori := s.ori.set (i - 1) ⟨v, now, true⟩ }) ∧
  (∀ s : State, s.sts.inReset = false → 0 < s.cfg.statusInterval → s.slk.statusCountdown = 0 →
    let figures : List Item :=
      if s.sts.state = .blank then [.u64 0, .u64 0, .u64 0, .i64 0, .u16 0, .u16 0]
      else [.u64 (s.mtu.injection.wh / 1000), .u64 (s.mtu.withdrawal.wh / 1000), .u64 (s.mtu.use.wh / 1000),
            .i64 (((s.mtu.injection.wh / 1000 : Nat) : Int) - ((s.mtu.withdrawal.wh / 1000 : Nat) : Int)),
            .u16 s.mtu.estimated, .u16 s.mtu.cvDefault]
    let clock : List Item :=
      [.u8 (stationCode s.sts.state), .u8 (markCode s.clk.valid), .u16 s.clk.gasDay, .u32 s.clk.second,
       .u32 s.clk.stationSeconds]
    let link : List Item :=
      [.u8 s.topAlert, .u8 s.slk.rx.length, .u8 s.slk.tx.length, .u8 (s.ori.filter (·.unsent)).length]
    let report : Record := ⟨0x84, 0, clock ++ figures ++ link⟩
    let reload (t : State) : State := { t with slk := { t.slk with statusCountdown := s.cfg.statusInterval } }
    exec .statusCountdownExpiry s = .next (reload (if s.occupancy < 28 then s.sends report else s.noteDropped))) ∧
  (∀ (x : Record) (rest : List Record) (s : State), s.quiet = true → s.shaped = true → s.slk.tx = x :: rest →
    let holds (r : Request) : Prop :=
      s.hcu.close.isSome = true ∧ r.body.kind ∈ [0x0B, 0x0C, 0x08, 0x09, 0x0A, 0x10, 0x11, 0x18]
    (rest.length ≠ 27 → (rest.length ≠ 47 ∨ ∀ r, s.slk.rx.head? = some r → holds r) →
      exec .recordSent s = .next { s with slk := { s.slk with tx := rest } }) ∧
    (∀ (r : Request) (more : List Request), rest.length = 47 → s.slk.rx = r :: more → ¬ holds r →
      (∃ t y, exec .recordSent s = .next t ∧ y.tag = r.tag ∧ (r.body = .linkReset → t.slk.rx = []) ∧
        (r.body ≠ .linkReset → t.slk.rx = more ∧ t.slk.tx = rest ++ [y])) ∧
      (∀ c, requestOf c = some r → more = [] →
        exec .recordSent s = exec c { s with slk := { s.slk with tx := rest, rx := [] } })) ∧
    (rest.length = 27 → ∃ t, exec .recordSent s = .next t ∧
      let waiting := (List.range' 1 31).filter (fun i => (s.order i).any (·.unsent))
      let admitted := waiting.take 11
      let report (i : Nat) : List Record := match s.order i with
        | some e => [⟨0x80, 0, [.u8 i, .u32 (orderWord e.value), .u32 e.second]⟩]
        | none => []
      t.slk.tx = rest ++ admitted.flatMap report ∧
      (∀ i, t.order i = (s.order i).map (fun e => { e with unsent := e.unsent && !admitted.contains i })) ∧
      { t with ori := s.ori, slk := { t.slk with tx := s.slk.tx } } = s)) ∧
  (∀ s : State, s.quiet = true → s.slk.tx = [] → exec .recordSent s = .next s)

/-- ALERT CONTROL applies its three masks in order or nothing; its reply gives the pending mask before the enabled
mask, which is the model's choice (log 52). LINK RESET empties both queues, marks the entries of the discarded ORDER
reports, replies first and offers every unsent entry again. -/
def Obligations.AlertControlAndLinkReset : Prop :=
  (∀ (tag set clear drop : Nat) (s : State), s.receptive = true → s.shaped = true →
    let bad := 2 ^ 23 ≤ set ∨ 2 ^ 23 ≤ clear ∨ 2 ^ 23 ≤ drop
    let masks (t : State) : List Item := [.u32 (maskOf (·.pending) t.als), .u32 (maskOf (·.enabled) t.als)]
    (bad → exec (.alertControl tag set clear drop) s = .next (s.replied 0x2A tag .badRange (masks s))) ∧
    (¬ bad → ∃ u : State, exec (.alertControl tag set clear drop) s = .next (u.replied 0x2A tag .ok (masks u)) ∧
      (∀ a : AlertKind,
        let i := alertNumber a - 1
        let r := s.alert a
        u.alert a = { r with enabled := (r.enabled || set.testBit i) && !clear.testBit i
                             pending := r.pending && !drop.testBit i }) ∧
      u.sns = (if u.als.map (·.enabled) = s.als.map (·.enabled) then s.sns else { s.sns with due := true }) ∧
      { u with als := s.als, sns := s.sns } = s)) ∧
  (∀ (tag : Nat) (s : State), s.receptive = true → s.shaped = true →
    let discarded (i : Nat) : Bool :=
      s.slk.tx.any (fun r => r.kind == 0x80 && r.fields.head? == some (.u8 i))
    let waiting := (List.range' 1 31).filter (fun i => (s.order i).any (·.unsent) || discarded i)
    ∃ t, exec (.linkReset tag) s = .next t ∧
      t.slk.tx = ⟨0x6D, tag, [.u8 0]⟩ :: waiting.flatMap (fun i => match s.order i with
        | some e => [⟨0x80, 0, [.u8 i, .u32 (orderWord e.value), .u32 e.second]⟩]
        | none => []) ∧
      (∀ i, t.order i = (s.order i).map (fun e => { e with unsent := false })) ∧
      t.slk = { s.slk with rx := [], tx := t.slk.tx, parser := .hunt, lengthTally := 0, crcTally := 0
                           timeoutTally := 0, overrunTally := 0 } ∧
      { t with ori := s.ori, slk := s.slk } = s)
end

