-- ==== Sys2Proof/Laws/State.lean ====
section
/-! SUPPORT. One lemma per field of the state for each plain update, true by rfl, so that no later proof unfolds
a record update. -/

namespace Sys2Proof.Machine

/-! ### setCavern -/

@[simp] theorem State.setCavern_clk (s : State) (j : Nat) (c : Option Cavern) : (s.setCavern j c).clk = s.clk := rfl
@[simp] theorem State.setCavern_sts (s : State) (j : Nat) (c : Option Cavern) : (s.setCavern j c).sts = s.sts := rfl
@[simp] theorem State.setCavern_sns (s : State) (j : Nat) (c : Option Cavern) : (s.setCavern j c).sns = s.sns := rfl
@[simp] theorem State.setCavern_cfg (s : State) (j : Nat) (c : Option Cavern) : (s.setCavern j c).cfg = s.cfg := rfl
@[simp] theorem State.setCavern_smt (s : State) (j : Nat) (c : Option Cavern) : (s.setCavern j c).smt = s.smt := rfl
@[simp] theorem State.setCavern_mtu (s : State) (j : Nat) (c : Option Cavern) : (s.setCavern j c).mtu = s.mtu := rfl
@[simp] theorem State.setCavern_act (s : State) (j : Nat) (c : Option Cavern) : (s.setCavern j c).act = s.act := rfl
@[simp] theorem State.setCavern_nst (s : State) (j : Nat) (c : Option Cavern) : (s.setCavern j c).nst = s.nst := rfl
@[simp] theorem State.setCavern_plu (s : State) (j : Nat) (c : Option Cavern) : (s.setCavern j c).plu = s.plu := rfl
@[simp] theorem State.setCavern_cdu (s : State) (j : Nat) (c : Option Cavern) : (s.setCavern j c).cdu = s.cdu := rfl
@[simp] theorem State.setCavern_drc (s : State) (j : Nat) (c : Option Cavern) : (s.setCavern j c).drc = s.drc := rfl
@[simp] theorem State.setCavern_hcu (s : State) (j : Nat) (c : Option Cavern) : (s.setCavern j c).hcu = s.hcu := rfl
@[simp] theorem State.setCavern_slk (s : State) (j : Nat) (c : Option Cavern) : (s.setCavern j c).slk = s.slk := rfl
@[simp] theorem State.setCavern_ori (s : State) (j : Nat) (c : Option Cavern) : (s.setCavern j c).ori = s.ori := rfl
@[simp] theorem State.setCavern_als (s : State) (j : Nat) (c : Option Cavern) : (s.setCavern j c).als = s.als := rfl
@[simp] theorem State.setCavern_pending (s : State) (j : Nat) (c : Option Cavern) : (s.setCavern j c).pending = s.pending := rfl
@[simp] theorem State.setCavern_cvc (s : State) (j : Nat) (c : Option Cavern) :
    (s.setCavern j c).cvc = setNth s.cvc j c := rfl

/-! ### setUnit -/

@[simp] theorem State.setUnit_clk (s : State) (k : Nat) (u : Option Compressor) : (s.setUnit k u).clk = s.clk := rfl
@[simp] theorem State.setUnit_sts (s : State) (k : Nat) (u : Option Compressor) : (s.setUnit k u).sts = s.sts := rfl
@[simp] theorem State.setUnit_sns (s : State) (k : Nat) (u : Option Compressor) : (s.setUnit k u).sns = s.sns := rfl
@[simp] theorem State.setUnit_cfg (s : State) (k : Nat) (u : Option Compressor) : (s.setUnit k u).cfg = s.cfg := rfl
@[simp] theorem State.setUnit_smt (s : State) (k : Nat) (u : Option Compressor) : (s.setUnit k u).smt = s.smt := rfl
@[simp] theorem State.setUnit_mtu (s : State) (k : Nat) (u : Option Compressor) : (s.setUnit k u).mtu = s.mtu := rfl
@[simp] theorem State.setUnit_act (s : State) (k : Nat) (u : Option Compressor) : (s.setUnit k u).act = s.act := rfl
@[simp] theorem State.setUnit_nst (s : State) (k : Nat) (u : Option Compressor) : (s.setUnit k u).nst = s.nst := rfl
@[simp] theorem State.setUnit_plu (s : State) (k : Nat) (u : Option Compressor) : (s.setUnit k u).plu = s.plu := rfl
@[simp] theorem State.setUnit_cvc (s : State) (k : Nat) (u : Option Compressor) : (s.setUnit k u).cvc = s.cvc := rfl
@[simp] theorem State.setUnit_drc (s : State) (k : Nat) (u : Option Compressor) : (s.setUnit k u).drc = s.drc := rfl
@[simp] theorem State.setUnit_hcu (s : State) (k : Nat) (u : Option Compressor) : (s.setUnit k u).hcu = s.hcu := rfl
@[simp] theorem State.setUnit_slk (s : State) (k : Nat) (u : Option Compressor) : (s.setUnit k u).slk = s.slk := rfl
@[simp] theorem State.setUnit_ori (s : State) (k : Nat) (u : Option Compressor) : (s.setUnit k u).ori = s.ori := rfl
@[simp] theorem State.setUnit_als (s : State) (k : Nat) (u : Option Compressor) : (s.setUnit k u).als = s.als := rfl
@[simp] theorem State.setUnit_pending (s : State) (k : Nat) (u : Option Compressor) : (s.setUnit k u).pending = s.pending := rfl
@[simp] theorem State.setUnit_cdu (s : State) (k : Nat) (u : Option Compressor) :
    (s.setUnit k u).cdu = { s.cdu with units := setNth s.cdu.units k u } := rfl

/-! ### setTrain -/

@[simp] theorem State.setTrain_clk (s : State) (t : Nat) (r : Option Train) : (s.setTrain t r).clk = s.clk := rfl
@[simp] theorem State.setTrain_sts (s : State) (t : Nat) (r : Option Train) : (s.setTrain t r).sts = s.sts := rfl
@[simp] theorem State.setTrain_sns (s : State) (t : Nat) (r : Option Train) : (s.setTrain t r).sns = s.sns := rfl
@[simp] theorem State.setTrain_cfg (s : State) (t : Nat) (r : Option Train) : (s.setTrain t r).cfg = s.cfg := rfl
@[simp] theorem State.setTrain_smt (s : State) (t : Nat) (r : Option Train) : (s.setTrain t r).smt = s.smt := rfl
@[simp] theorem State.setTrain_mtu (s : State) (t : Nat) (r : Option Train) : (s.setTrain t r).mtu = s.mtu := rfl
@[simp] theorem State.setTrain_act (s : State) (t : Nat) (r : Option Train) : (s.setTrain t r).act = s.act := rfl
@[simp] theorem State.setTrain_nst (s : State) (t : Nat) (r : Option Train) : (s.setTrain t r).nst = s.nst := rfl
@[simp] theorem State.setTrain_plu (s : State) (t : Nat) (r : Option Train) : (s.setTrain t r).plu = s.plu := rfl
@[simp] theorem State.setTrain_cvc (s : State) (t : Nat) (r : Option Train) : (s.setTrain t r).cvc = s.cvc := rfl
@[simp] theorem State.setTrain_cdu (s : State) (t : Nat) (r : Option Train) : (s.setTrain t r).cdu = s.cdu := rfl
@[simp] theorem State.setTrain_hcu (s : State) (t : Nat) (r : Option Train) : (s.setTrain t r).hcu = s.hcu := rfl
@[simp] theorem State.setTrain_slk (s : State) (t : Nat) (r : Option Train) : (s.setTrain t r).slk = s.slk := rfl
@[simp] theorem State.setTrain_ori (s : State) (t : Nat) (r : Option Train) : (s.setTrain t r).ori = s.ori := rfl
@[simp] theorem State.setTrain_als (s : State) (t : Nat) (r : Option Train) : (s.setTrain t r).als = s.als := rfl
@[simp] theorem State.setTrain_pending (s : State) (t : Nat) (r : Option Train) : (s.setTrain t r).pending = s.pending := rfl
@[simp] theorem State.setTrain_drc (s : State) (t : Nat) (r : Option Train) :
    (s.setTrain t r).drc = { s.drc with trains := setNth s.drc.trains t r } := rfl

/-! ### setAccount -/

@[simp] theorem State.setAccount_clk (s : State) (n : Nat) (a : Account) : (s.setAccount n a).clk = s.clk := rfl
@[simp] theorem State.setAccount_sts (s : State) (n : Nat) (a : Account) : (s.setAccount n a).sts = s.sts := rfl
@[simp] theorem State.setAccount_sns (s : State) (n : Nat) (a : Account) : (s.setAccount n a).sns = s.sns := rfl
@[simp] theorem State.setAccount_cfg (s : State) (n : Nat) (a : Account) : (s.setAccount n a).cfg = s.cfg := rfl
@[simp] theorem State.setAccount_smt (s : State) (n : Nat) (a : Account) : (s.setAccount n a).smt = s.smt := rfl
@[simp] theorem State.setAccount_mtu (s : State) (n : Nat) (a : Account) : (s.setAccount n a).mtu = s.mtu := rfl
@[simp] theorem State.setAccount_nst (s : State) (n : Nat) (a : Account) : (s.setAccount n a).nst = s.nst := rfl
@[simp] theorem State.setAccount_plu (s : State) (n : Nat) (a : Account) : (s.setAccount n a).plu = s.plu := rfl
@[simp] theorem State.setAccount_cvc (s : State) (n : Nat) (a : Account) : (s.setAccount n a).cvc = s.cvc := rfl
@[simp] theorem State.setAccount_cdu (s : State) (n : Nat) (a : Account) : (s.setAccount n a).cdu = s.cdu := rfl
@[simp] theorem State.setAccount_drc (s : State) (n : Nat) (a : Account) : (s.setAccount n a).drc = s.drc := rfl
@[simp] theorem State.setAccount_hcu (s : State) (n : Nat) (a : Account) : (s.setAccount n a).hcu = s.hcu := rfl
@[simp] theorem State.setAccount_slk (s : State) (n : Nat) (a : Account) : (s.setAccount n a).slk = s.slk := rfl
@[simp] theorem State.setAccount_ori (s : State) (n : Nat) (a : Account) : (s.setAccount n a).ori = s.ori := rfl
@[simp] theorem State.setAccount_als (s : State) (n : Nat) (a : Account) : (s.setAccount n a).als = s.als := rfl
@[simp] theorem State.setAccount_pending (s : State) (n : Nat) (a : Account) : (s.setAccount n a).pending = s.pending := rfl
@[simp] theorem State.setAccount_act (s : State) (n : Nat) (a : Account) :
    (s.setAccount n a).act = { s.act with accounts := setNth s.act.accounts n a } := rfl

/-! ### setPartition -/

@[simp] theorem State.setPartition_clk (s : State) (n : Nat) (p : Partition) : (s.setPartition n p).clk = s.clk := rfl
@[simp] theorem State.setPartition_sts (s : State) (n : Nat) (p : Partition) : (s.setPartition n p).sts = s.sts := rfl
@[simp] theorem State.setPartition_sns (s : State) (n : Nat) (p : Partition) : (s.setPartition n p).sns = s.sns := rfl
@[simp] theorem State.setPartition_cfg (s : State) (n : Nat) (p : Partition) : (s.setPartition n p).cfg = s.cfg := rfl
@[simp] theorem State.setPartition_smt (s : State) (n : Nat) (p : Partition) : (s.setPartition n p).smt = s.smt := rfl
@[simp] theorem State.setPartition_mtu (s : State) (n : Nat) (p : Partition) : (s.setPartition n p).mtu = s.mtu := rfl
@[simp] theorem State.setPartition_act (s : State) (n : Nat) (p : Partition) : (s.setPartition n p).act = s.act := rfl
@[simp] theorem State.setPartition_plu (s : State) (n : Nat) (p : Partition) : (s.setPartition n p).plu = s.plu := rfl
@[simp] theorem State.setPartition_cvc (s : State) (n : Nat) (p : Partition) : (s.setPartition n p).cvc = s.cvc := rfl
@[simp] theorem State.setPartition_cdu (s : State) (n : Nat) (p : Partition) : (s.setPartition n p).cdu = s.cdu := rfl
@[simp] theorem State.setPartition_drc (s : State) (n : Nat) (p : Partition) : (s.setPartition n p).drc = s.drc := rfl
@[simp] theorem State.setPartition_hcu (s : State) (n : Nat) (p : Partition) : (s.setPartition n p).hcu = s.hcu := rfl
@[simp] theorem State.setPartition_slk (s : State) (n : Nat) (p : Partition) : (s.setPartition n p).slk = s.slk := rfl
@[simp] theorem State.setPartition_ori (s : State) (n : Nat) (p : Partition) : (s.setPartition n p).ori = s.ori := rfl
@[simp] theorem State.setPartition_als (s : State) (n : Nat) (p : Partition) : (s.setPartition n p).als = s.als := rfl
@[simp] theorem State.setPartition_pending (s : State) (n : Nat) (p : Partition) : (s.setPartition n p).pending = s.pending := rfl
@[simp] theorem State.setPartition_nst (s : State) (n : Nat) (p : Partition) :
    (s.setPartition n p).nst = setNth s.nst n p := rfl

/-! ### setPoint -/

@[simp] theorem State.setPoint_clk (s : State) (p : Nat) (x : Point) : (s.setPoint p x).clk = s.clk := rfl
@[simp] theorem State.setPoint_sts (s : State) (p : Nat) (x : Point) : (s.setPoint p x).sts = s.sts := rfl
@[simp] theorem State.setPoint_sns (s : State) (p : Nat) (x : Point) : (s.setPoint p x).sns = s.sns := rfl
@[simp] theorem State.setPoint_cfg (s : State) (p : Nat) (x : Point) : (s.setPoint p x).cfg = s.cfg := rfl
@[simp] theorem State.setPoint_mtu (s : State) (p : Nat) (x : Point) : (s.setPoint p x).mtu = s.mtu := rfl
@[simp] theorem State.setPoint_act (s : State) (p : Nat) (x : Point) : (s.setPoint p x).act = s.act := rfl
@[simp] theorem State.setPoint_nst (s : State) (p : Nat) (x : Point) : (s.setPoint p x).nst = s.nst := rfl
@[simp] theorem State.setPoint_plu (s : State) (p : Nat) (x : Point) : (s.setPoint p x).plu = s.plu := rfl
@[simp] theorem State.setPoint_cvc (s : State) (p : Nat) (x : Point) : (s.setPoint p x).cvc = s.cvc := rfl
@[simp] theorem State.setPoint_cdu (s : State) (p : Nat) (x : Point) : (s.setPoint p x).cdu = s.cdu := rfl
@[simp] theorem State.setPoint_drc (s : State) (p : Nat) (x : Point) : (s.setPoint p x).drc = s.drc := rfl
@[simp] theorem State.setPoint_hcu (s : State) (p : Nat) (x : Point) : (s.setPoint p x).hcu = s.hcu := rfl
@[simp] theorem State.setPoint_slk (s : State) (p : Nat) (x : Point) : (s.setPoint p x).slk = s.slk := rfl
@[simp] theorem State.setPoint_ori (s : State) (p : Nat) (x : Point) : (s.setPoint p x).ori = s.ori := rfl
@[simp] theorem State.setPoint_als (s : State) (p : Nat) (x : Point) : (s.setPoint p x).als = s.als := rfl
@[simp] theorem State.setPoint_pending (s : State) (p : Nat) (x : Point) : (s.setPoint p x).pending = s.pending := rfl
@[simp] theorem State.setPoint_smt (s : State) (p : Nat) (x : Point) :
    (s.setPoint p x).smt = s.smt.set p x := rfl

/-! ### setStation -/

@[simp] theorem State.setStation_clk (s : State) (st : StationState) : (s.setStation st).clk = s.clk := rfl
@[simp] theorem State.setStation_sns (s : State) (st : StationState) : (s.setStation st).sns = s.sns := rfl
@[simp] theorem State.setStation_cfg (s : State) (st : StationState) : (s.setStation st).cfg = s.cfg := rfl
@[simp] theorem State.setStation_smt (s : State) (st : StationState) : (s.setStation st).smt = s.smt := rfl
@[simp] theorem State.setStation_mtu (s : State) (st : StationState) : (s.setStation st).mtu = s.mtu := rfl
@[simp] theorem State.setStation_act (s : State) (st : StationState) : (s.setStation st).act = s.act := rfl
@[simp] theorem State.setStation_nst (s : State) (st : StationState) : (s.setStation st).nst = s.nst := rfl
@[simp] theorem State.setStation_plu (s : State) (st : StationState) : (s.setStation st).plu = s.plu := rfl
@[simp] theorem State.setStation_cvc (s : State) (st : StationState) : (s.setStation st).cvc = s.cvc := rfl
@[simp] theorem State.setStation_cdu (s : State) (st : StationState) : (s.setStation st).cdu = s.cdu := rfl
@[simp] theorem State.setStation_drc (s : State) (st : StationState) : (s.setStation st).drc = s.drc := rfl
@[simp] theorem State.setStation_hcu (s : State) (st : StationState) : (s.setStation st).hcu = s.hcu := rfl
@[simp] theorem State.setStation_slk (s : State) (st : StationState) : (s.setStation st).slk = s.slk := rfl
@[simp] theorem State.setStation_ori (s : State) (st : StationState) : (s.setStation st).ori = s.ori := rfl
@[simp] theorem State.setStation_als (s : State) (st : StationState) : (s.setStation st).als = s.als := rfl
@[simp] theorem State.setStation_pending (s : State) (st : StationState) : (s.setStation st).pending = s.pending := rfl
@[simp] theorem State.setStation_sts (s : State) (st : StationState) :
    (s.setStation st).sts = { s.sts with state := st } := rfl

/-! ### makePlanDue -/

@[simp] theorem State.makePlanDue_clk (s : State) : (s.makePlanDue).clk = s.clk := rfl
@[simp] theorem State.makePlanDue_sts (s : State) : (s.makePlanDue).sts = s.sts := rfl
@[simp] theorem State.makePlanDue_sns (s : State) : (s.makePlanDue).sns = s.sns := rfl
@[simp] theorem State.makePlanDue_cfg (s : State) : (s.makePlanDue).cfg = s.cfg := rfl
@[simp] theorem State.makePlanDue_smt (s : State) : (s.makePlanDue).smt = s.smt := rfl
@[simp] theorem State.makePlanDue_mtu (s : State) : (s.makePlanDue).mtu = s.mtu := rfl
@[simp] theorem State.makePlanDue_act (s : State) : (s.makePlanDue).act = s.act := rfl
@[simp] theorem State.makePlanDue_nst (s : State) : (s.makePlanDue).nst = s.nst := rfl
@[simp] theorem State.makePlanDue_cvc (s : State) : (s.makePlanDue).cvc = s.cvc := rfl
@[simp] theorem State.makePlanDue_cdu (s : State) : (s.makePlanDue).cdu = s.cdu := rfl
@[simp] theorem State.makePlanDue_drc (s : State) : (s.makePlanDue).drc = s.drc := rfl
@[simp] theorem State.makePlanDue_hcu (s : State) : (s.makePlanDue).hcu = s.hcu := rfl
@[simp] theorem State.makePlanDue_slk (s : State) : (s.makePlanDue).slk = s.slk := rfl
@[simp] theorem State.makePlanDue_ori (s : State) : (s.makePlanDue).ori = s.ori := rfl
@[simp] theorem State.makePlanDue_als (s : State) : (s.makePlanDue).als = s.als := rfl
@[simp] theorem State.makePlanDue_pending (s : State) : (s.makePlanDue).pending = s.pending := rfl
@[simp] theorem State.makePlanDue_plu (s : State) :
    (s.makePlanDue).plu = { s.plu with due := true } := rfl

/-! ### makeSnapshotDue -/

@[simp] theorem State.makeSnapshotDue_clk (s : State) : (s.makeSnapshotDue).clk = s.clk := rfl
@[simp] theorem State.makeSnapshotDue_sts (s : State) : (s.makeSnapshotDue).sts = s.sts := rfl
@[simp] theorem State.makeSnapshotDue_cfg (s : State) : (s.makeSnapshotDue).cfg = s.cfg := rfl
@[simp] theorem State.makeSnapshotDue_smt (s : State) : (s.makeSnapshotDue).smt = s.smt := rfl
@[simp] theorem State.makeSnapshotDue_mtu (s : State) : (s.makeSnapshotDue).mtu = s.mtu := rfl
@[simp] theorem State.makeSnapshotDue_act (s : State) : (s.makeSnapshotDue).act = s.act := rfl
@[simp] theorem State.makeSnapshotDue_nst (s : State) : (s.makeSnapshotDue).nst = s.nst := rfl
@[simp] theorem State.makeSnapshotDue_plu (s : State) : (s.makeSnapshotDue).plu = s.plu := rfl
@[simp] theorem State.makeSnapshotDue_cvc (s : State) : (s.makeSnapshotDue).cvc = s.cvc := rfl
@[simp] theorem State.makeSnapshotDue_cdu (s : State) : (s.makeSnapshotDue).cdu = s.cdu := rfl
@[simp] theorem State.makeSnapshotDue_drc (s : State) : (s.makeSnapshotDue).drc = s.drc := rfl
@[simp] theorem State.makeSnapshotDue_hcu (s : State) : (s.makeSnapshotDue).hcu = s.hcu := rfl
@[simp] theorem State.makeSnapshotDue_slk (s : State) : (s.makeSnapshotDue).slk = s.slk := rfl
@[simp] theorem State.makeSnapshotDue_ori (s : State) : (s.makeSnapshotDue).ori = s.ori := rfl
@[simp] theorem State.makeSnapshotDue_als (s : State) : (s.makeSnapshotDue).als = s.als := rfl
@[simp] theorem State.makeSnapshotDue_pending (s : State) : (s.makeSnapshotDue).pending = s.pending := rfl
@[simp] theorem State.makeSnapshotDue_sns (s : State) :
    (s.makeSnapshotDue).sns = { s.sns with due := true } := rfl

/-! ### pushRecord -/

@[simp] theorem State.pushRecord_clk (s : State) (r : Record) : (s.pushRecord r).clk = s.clk := rfl
@[simp] theorem State.pushRecord_sts (s : State) (r : Record) : (s.pushRecord r).sts = s.sts := rfl
@[simp] theorem State.pushRecord_sns (s : State) (r : Record) : (s.pushRecord r).sns = s.sns := rfl
@[simp] theorem State.pushRecord_cfg (s : State) (r : Record) : (s.pushRecord r).cfg = s.cfg := rfl
@[simp] theorem State.pushRecord_smt (s : State) (r : Record) : (s.pushRecord r).smt = s.smt := rfl
@[simp] theorem State.pushRecord_mtu (s : State) (r : Record) : (s.pushRecord r).mtu = s.mtu := rfl
@[simp] theorem State.pushRecord_act (s : State) (r : Record) : (s.pushRecord r).act = s.act := rfl
@[simp] theorem State.pushRecord_nst (s : State) (r : Record) : (s.pushRecord r).nst = s.nst := rfl
@[simp] theorem State.pushRecord_plu (s : State) (r : Record) : (s.pushRecord r).plu = s.plu := rfl
@[simp] theorem State.pushRecord_cvc (s : State) (r : Record) : (s.pushRecord r).cvc = s.cvc := rfl
@[simp] theorem State.pushRecord_cdu (s : State) (r : Record) : (s.pushRecord r).cdu = s.cdu := rfl
@[simp] theorem State.pushRecord_drc (s : State) (r : Record) : (s.pushRecord r).drc = s.drc := rfl
@[simp] theorem State.pushRecord_hcu (s : State) (r : Record) : (s.pushRecord r).hcu = s.hcu := rfl
@[simp] theorem State.pushRecord_ori (s : State) (r : Record) : (s.pushRecord r).ori = s.ori := rfl
@[simp] theorem State.pushRecord_als (s : State) (r : Record) : (s.pushRecord r).als = s.als := rfl
@[simp] theorem State.pushRecord_pending (s : State) (r : Record) : (s.pushRecord r).pending = s.pending := rfl
@[simp] theorem State.pushRecord_slk (s : State) (r : Record) :
    (s.pushRecord r).slk = { s.slk with tx := s.slk.tx ++ [r] } := rfl

/-! ### recordAlert -/

@[simp] theorem State.recordAlert_clk (s : State) (k : AlertKind) (o : Nat) : (s.recordAlert k o).clk = s.clk := rfl
@[simp] theorem State.recordAlert_sts (s : State) (k : AlertKind) (o : Nat) : (s.recordAlert k o).sts = s.sts := rfl
@[simp] theorem State.recordAlert_sns (s : State) (k : AlertKind) (o : Nat) : (s.recordAlert k o).sns = s.sns := rfl
@[simp] theorem State.recordAlert_cfg (s : State) (k : AlertKind) (o : Nat) : (s.recordAlert k o).cfg = s.cfg := rfl
@[simp] theorem State.recordAlert_smt (s : State) (k : AlertKind) (o : Nat) : (s.recordAlert k o).smt = s.smt := rfl
@[simp] theorem State.recordAlert_mtu (s : State) (k : AlertKind) (o : Nat) : (s.recordAlert k o).mtu = s.mtu := rfl
@[simp] theorem State.recordAlert_act (s : State) (k : AlertKind) (o : Nat) : (s.recordAlert k o).act = s.act := rfl
@[simp] theorem State.recordAlert_nst (s : State) (k : AlertKind) (o : Nat) : (s.recordAlert k o).nst = s.nst := rfl
@[simp] theorem State.recordAlert_plu (s : State) (k : AlertKind) (o : Nat) : (s.recordAlert k o).plu = s.plu := rfl
@[simp] theorem State.recordAlert_cvc (s : State) (k : AlertKind) (o : Nat) : (s.recordAlert k o).cvc = s.cvc := rfl
@[simp] theorem State.recordAlert_cdu (s : State) (k : AlertKind) (o : Nat) : (s.recordAlert k o).cdu = s.cdu := rfl
@[simp] theorem State.recordAlert_drc (s : State) (k : AlertKind) (o : Nat) : (s.recordAlert k o).drc = s.drc := rfl
@[simp] theorem State.recordAlert_hcu (s : State) (k : AlertKind) (o : Nat) : (s.recordAlert k o).hcu = s.hcu := rfl
@[simp] theorem State.recordAlert_slk (s : State) (k : AlertKind) (o : Nat) : (s.recordAlert k o).slk = s.slk := rfl
@[simp] theorem State.recordAlert_ori (s : State) (k : AlertKind) (o : Nat) : (s.recordAlert k o).ori = s.ori := rfl
@[simp] theorem State.recordAlert_pending (s : State) (k : AlertKind) (o : Nat) : (s.recordAlert k o).pending = s.pending := rfl

/-! ### sends -/

@[simp] theorem State.sends_clk (s : State) (r : Record) : (s.sends r).clk = s.clk := rfl
@[simp] theorem State.sends_sts (s : State) (r : Record) : (s.sends r).sts = s.sts := rfl
@[simp] theorem State.sends_sns (s : State) (r : Record) : (s.sends r).sns = s.sns := rfl
@[simp] theorem State.sends_cfg (s : State) (r : Record) : (s.sends r).cfg = s.cfg := rfl
@[simp] theorem State.sends_smt (s : State) (r : Record) : (s.sends r).smt = s.smt := rfl
@[simp] theorem State.sends_mtu (s : State) (r : Record) : (s.sends r).mtu = s.mtu := rfl
@[simp] theorem State.sends_act (s : State) (r : Record) : (s.sends r).act = s.act := rfl
@[simp] theorem State.sends_nst (s : State) (r : Record) : (s.sends r).nst = s.nst := rfl
@[simp] theorem State.sends_plu (s : State) (r : Record) : (s.sends r).plu = s.plu := rfl
@[simp] theorem State.sends_cvc (s : State) (r : Record) : (s.sends r).cvc = s.cvc := rfl
@[simp] theorem State.sends_cdu (s : State) (r : Record) : (s.sends r).cdu = s.cdu := rfl
@[simp] theorem State.sends_drc (s : State) (r : Record) : (s.sends r).drc = s.drc := rfl
@[simp] theorem State.sends_hcu (s : State) (r : Record) : (s.sends r).hcu = s.hcu := rfl
@[simp] theorem State.sends_ori (s : State) (r : Record) : (s.sends r).ori = s.ori := rfl
@[simp] theorem State.sends_als (s : State) (r : Record) : (s.sends r).als = s.als := rfl
@[simp] theorem State.sends_pending (s : State) (r : Record) : (s.sends r).pending = s.pending := rfl
@[simp] theorem State.sends_slk (s : State) (r : Record) :
    (s.sends r).slk = { s.slk with tx := s.slk.tx ++ [r] } := rfl

/-! ### applySettings -/

@[simp] theorem State.applySettings_clk (s : State) (f : Settings) : (s.applySettings f).clk = s.clk := rfl
@[simp] theorem State.applySettings_sts (s : State) (f : Settings) : (s.applySettings f).sts = s.sts := rfl
@[simp] theorem State.applySettings_sns (s : State) (f : Settings) : (s.applySettings f).sns = s.sns := rfl
@[simp] theorem State.applySettings_smt (s : State) (f : Settings) : (s.applySettings f).smt = s.smt := rfl
@[simp] theorem State.applySettings_mtu (s : State) (f : Settings) : (s.applySettings f).mtu = s.mtu := rfl
@[simp] theorem State.applySettings_act (s : State) (f : Settings) : (s.applySettings f).act = s.act := rfl
@[simp] theorem State.applySettings_plu (s : State) (f : Settings) : (s.applySettings f).plu = s.plu := rfl
@[simp] theorem State.applySettings_cvc (s : State) (f : Settings) : (s.applySettings f).cvc = s.cvc := rfl
@[simp] theorem State.applySettings_cdu (s : State) (f : Settings) : (s.applySettings f).cdu = s.cdu := rfl
@[simp] theorem State.applySettings_drc (s : State) (f : Settings) : (s.applySettings f).drc = s.drc := rfl
@[simp] theorem State.applySettings_hcu (s : State) (f : Settings) : (s.applySettings f).hcu = s.hcu := rfl
@[simp] theorem State.applySettings_ori (s : State) (f : Settings) : (s.applySettings f).ori = s.ori := rfl
@[simp] theorem State.applySettings_als (s : State) (f : Settings) : (s.applySettings f).als = s.als := rfl
@[simp] theorem State.applySettings_pending (s : State) (f : Settings) : (s.applySettings f).pending = s.pending := rfl
@[simp] theorem State.applySettings_cfg (s : State) (f : Settings) :
    (s.applySettings f).cfg = appliedSettings f := rfl
@[simp] theorem State.applySettings_slk (s : State) (f : Settings) :
    (s.applySettings f).slk = { s.slk with statusCountdown := appliedInterval f.statusInterval } := rfl

/-! ### beginWrite -/

@[simp] theorem State.beginWrite_clk (s : State) : (s.beginWrite).clk = s.clk := rfl
@[simp] theorem State.beginWrite_sts (s : State) : (s.beginWrite).sts = s.sts := rfl
@[simp] theorem State.beginWrite_cfg (s : State) : (s.beginWrite).cfg = s.cfg := rfl
@[simp] theorem State.beginWrite_smt (s : State) : (s.beginWrite).smt = s.smt := rfl
@[simp] theorem State.beginWrite_mtu (s : State) : (s.beginWrite).mtu = s.mtu := rfl
@[simp] theorem State.beginWrite_act (s : State) : (s.beginWrite).act = s.act := rfl
@[simp] theorem State.beginWrite_nst (s : State) : (s.beginWrite).nst = s.nst := rfl
@[simp] theorem State.beginWrite_plu (s : State) : (s.beginWrite).plu = s.plu := rfl
@[simp] theorem State.beginWrite_cvc (s : State) : (s.beginWrite).cvc = s.cvc := rfl
@[simp] theorem State.beginWrite_cdu (s : State) : (s.beginWrite).cdu = s.cdu := rfl
@[simp] theorem State.beginWrite_drc (s : State) : (s.beginWrite).drc = s.drc := rfl
@[simp] theorem State.beginWrite_hcu (s : State) : (s.beginWrite).hcu = s.hcu := rfl
@[simp] theorem State.beginWrite_slk (s : State) : (s.beginWrite).slk = s.slk := rfl
@[simp] theorem State.beginWrite_ori (s : State) : (s.beginWrite).ori = s.ori := rfl
@[simp] theorem State.beginWrite_als (s : State) : (s.beginWrite).als = s.als := rfl
@[simp] theorem State.beginWrite_pending (s : State) : (s.beginWrite).pending = s.pending := rfl

end Sys2Proof.Machine
end

