-- ==== Sys2Proof/Laws/Lists.lean ====
section
/-! SUPPORT. Records reached by their numbers: reading after writing, the lengths kept, and what a change of one
record leaves of the others. -/

namespace Sys2Proof.Machine

variable {α : Type}

@[simp] theorem nth_zero (l : List α) : nth l 0 = none := rfl

@[simp] theorem nth_succ (l : List α) (n : Nat) : nth l (n + 1) = l[n]? := rfl

@[simp] theorem setNth_zero (l : List α) (x : α) : setNth l 0 x = l := rfl

@[simp] theorem setNth_succ (l : List α) (n : Nat) (x : α) : setNth l (n + 1) x = l.set n x := rfl

@[simp] theorem setNth_length (l : List α) (n : Nat) (x : α) : (setNth l n x).length = l.length := by
  cases n <;> simp

/-- The record written is the one read, where the number names one. -/
theorem nth_setNth_self {l : List α} {n : Nat} {y : α} (x : α) (h : nth l n = some y) :
    nth (setNth l n x) n = some x := by
  cases n with
  | zero => simp at h
  | succ n =>
    have : n < l.length := (List.getElem?_eq_some_iff.mp h).1
    simp [this]

/-- A write of another record changes nothing. -/
theorem nth_setNth_of_ne (l : List α) {m n : Nat} (x : α) (h : m ≠ n) : nth (setNth l n x) m = nth l m := by
  cases n with
  | zero => rfl
  | succ n =>
    cases m with
    | zero => rfl
    | succ m => simp only [nth_succ, setNth_succ]; rw [List.getElem?_set_ne (by omega)]

theorem nth_mem {l : List α} {n : Nat} {x : α} (h : nth l n = some x) : x ∈ l := by
  cases n with
  | zero => simp at h
  | succ n => exact List.mem_of_getElem? h

/-- Writing back the record that stands changes nothing. -/
theorem setNth_of_nth {l : List α} {n : Nat} {x : α} (h : nth l n = some x) : setNth l n x = l := by
  cases n with
  | zero => rfl
  | succ n =>
    obtain ⟨hn, rfl⟩ := List.getElem?_eq_some_iff.mp h
    exact List.set_getElem_self hn

/-- A number names a record where it lies within the list. -/
theorem nth_isSome {l : List α} {n : Nat} : (nth l n).isSome = true ↔ 1 ≤ n ∧ n ≤ l.length := by
  cases n with
  | zero => simp
  | succ n => simp

/-! ### Configured caverns, units and trains -/

/-- A configured cavern is one of the records of CVC. -/
theorem State.cavern_mem {s : State} {j : Nat} {c : Cavern} (h : s.cavern j = some c) : some c ∈ s.cvc :=
  nth_mem (Option.join_eq_some_iff.mp h)

theorem State.unit_mem {s : State} {k : Nat} {u : Compressor} (h : s.unit k = some u) : some u ∈ s.cdu.units :=
  nth_mem (Option.join_eq_some_iff.mp h)

theorem State.train_mem {s : State} {t : Nat} {r : Train} (h : s.train t = some r) : some r ∈ s.drc.trains :=
  nth_mem (Option.join_eq_some_iff.mp h)

/-- The record written to a configured cavern is the one read. -/
theorem State.cavern_setCavern {s : State} {j : Nat} {c : Cavern} (x : Option Cavern) (h : s.cavern j = some c) :
    (s.setCavern j x).cavern j = x := by
  simp [State.cavern, State.setCavern, nth_setNth_self x (Option.join_eq_some_iff.mp h)]

theorem State.cavern_setCavern_of_ne (s : State) {i j : Nat} (x : Option Cavern) (h : i ≠ j) :
    (s.setCavern j x).cavern i = s.cavern i := by
  simp [State.cavern, State.setCavern, nth_setNth_of_ne _ _ h]

theorem State.unit_setUnit {s : State} {k : Nat} {u : Compressor} (x : Option Compressor) (h : s.unit k = some u) :
    (s.setUnit k x).unit k = x := by
  simp [State.unit, State.setUnit, nth_setNth_self x (Option.join_eq_some_iff.mp h)]

theorem State.unit_setUnit_of_ne (s : State) {i k : Nat} (x : Option Compressor) (h : i ≠ k) :
    (s.setUnit k x).unit i = s.unit i := by
  simp [State.unit, State.setUnit, nth_setNth_of_ne _ _ h]

theorem State.train_setTrain {s : State} {t : Nat} {r : Train} (x : Option Train) (h : s.train t = some r) :
    (s.setTrain t x).train t = x := by
  simp [State.train, State.setTrain, nth_setNth_self x (Option.join_eq_some_iff.mp h)]

theorem State.train_setTrain_of_ne (s : State) {i t : Nat} (x : Option Train) (h : i ≠ t) :
    (s.setTrain t x).train i = s.train i := by
  simp [State.train, State.setTrain, nth_setNth_of_ne _ _ h]

/-- A change of a cavern, all it can do: the record of a configured cavern, and nothing else. -/
theorem State.modCavern_eq (s : State) (j : Nat) (f : Cavern → Cavern) :
    (∃ c, s.cavern j = some c ∧ s.modCavern j f = s.setCavern j (some (f c))) ∨
    (s.cavern j = none ∧ s.modCavern j f = s) := by
  unfold State.modCavern
  cases h : s.cavern j with
  | none => exact .inr ⟨rfl, rfl⟩
  | some c => exact .inl ⟨c, rfl, rfl⟩

theorem State.modUnit_eq (s : State) (k : Nat) (f : Compressor → Compressor) :
    (∃ u, s.unit k = some u ∧ s.modUnit k f = s.setUnit k (some (f u))) ∨ (s.unit k = none ∧ s.modUnit k f = s) := by
  unfold State.modUnit
  cases h : s.unit k with
  | none => exact .inr ⟨rfl, rfl⟩
  | some u => exact .inl ⟨u, rfl, rfl⟩

theorem State.modTrain_eq (s : State) (t : Nat) (f : Train → Train) :
    (∃ r, s.train t = some r ∧ s.modTrain t f = s.setTrain t (some (f r))) ∨
    (s.train t = none ∧ s.modTrain t f = s) := by
  unfold State.modTrain
  cases h : s.train t with
  | none => exact .inr ⟨rfl, rfl⟩
  | some r => exact .inl ⟨r, rfl, rfl⟩

/-! ### Steps over numbers -/

@[simp] theorem State.forEach_nil (s : State) (f : State → Nat → State) : s.forEach [] f = s := rfl

@[simp] theorem State.forEach_cons (s : State) (n : Nat) (ns : List Nat) (f : State → Nat → State) :
    s.forEach (n :: ns) f = (f s n).forEach ns f := rfl

/-- What each step keeps, the steps keep. -/
theorem State.forEach_induct {P : State → Prop} {f : State → Nat → State} {ns : List Nat} {s : State}
    (h0 : P s) (h : ∀ s n, n ∈ ns → P s → P (f s n)) : P (s.forEach ns f) := by
  induction ns generalizing s with
  | nil => exact h0
  | cons n ns ih =>
    exact ih (h s n (List.mem_cons_self ..) h0) (fun s m hm => h s m (List.mem_cons_of_mem _ hm))

end Sys2Proof.Machine
end

