-- ==== Sys2Proof/Laws/Settle.lean ====
section
/-! SUPPORT. What is due in a quiet state, which is nothing: settling leaves it as it is. A request row hands its
request over, and in a receptive state the request is taken at once. -/

namespace Sys2Proof.Machine

/-- Steps that each leave a state as it is leave it so in turn. -/
theorem runSteps_of_fixed {steps : List (State → State)} {s : State} (h : ∀ f ∈ steps, f s = s) :
    runSteps steps s = s := by
  induction steps with
  | nil => rfl
  | cons f fs ih =>
    show runSteps fs (f s) = s
    rw [h f (List.mem_cons_self ..)]
    exact ih (fun g hg => h g (List.mem_cons_of_mem _ hg))

/-! ### A step that is not due has no effect -/

/-- The parts of `quiet`. -/
theorem State.quiet_parts {s : State} (h : s.quiet = true) :
    s.sts.inReset = false ∧ s.plantCalm = true ∧ s.clockCalm = true ∧ s.closeDue = false ∧
    s.planDueNow = false ∧ s.snapshotDueNow = false ∧ s.linkCalm = true := by
  simpa [State.quiet, and_assoc] using h

theorem State.plantCalm_cavern {s : State} {j : Nat} {c : Cavern} (h : s.plantCalm = true)
    (hc : s.cavern j = some c) : c.settle ≠ some 0 ∧ c.faultDue = false := by
  simp only [State.plantCalm, Bool.and_eq_true, List.all_eq_true] at h
  simpa [Cavern.calm] using h.1.1.1 _ (State.cavern_mem hc)

theorem State.plantCalm_unit {s : State} {k : Nat} {u : Compressor} (h : s.plantCalm = true)
    (hu : s.unit k = some u) :
    u.minRun ≠ some 0 ∧ u.minStop ≠ some 0 ∧ u.timeout ≠ some 0 ∧
    ∀ e ∈ u.startList, startAge s.clk.stationSeconds e < 3600 := by
  simp only [State.plantCalm, Bool.and_eq_true, List.all_eq_true] at h
  have := h.1.1.2 _ (State.unit_mem hu)
  simpa [Compressor.calm, and_assoc] using this

theorem State.plantCalm_train {s : State} {t : Nat} {r : Train} (h : s.plantCalm = true)
    (hr : s.train t = some r) :
    r.cooling ≠ some 0 ∧ (r.state = .online → r.aboveSpec < r.config.offspecDelay) ∧
    (r.state = .offspec → r.inSpec < r.config.offspecDelay) := by
  simp only [State.plantCalm, Bool.and_eq_true, List.all_eq_true] at h
  have := h.2 _ (State.train_mem hr)
  simp only [Option.all_some, Train.calm, Bool.and_eq_true, bne_iff_ne, Bool.not_eq_true', Bool.and_eq_false_iff,
    beq_eq_false_iff_ne, decide_eq_false_iff_not, Nat.not_le] at this
  refine ⟨this.1.1, fun hs => ?_, fun hs => ?_⟩
  · exact this.1.2.resolve_left (fun hn => hn hs)
  · exact this.2.resolve_left (fun hn => hn hs)

theorem stepSettleExpiry_of_calm {s : State} (h : s.plantCalm = true) (j : Nat) : stepSettleExpiry j s = s := by
  unfold stepSettleExpiry
  cases hc : s.cavern j with
  | none => rfl
  | some c => exact if_neg (State.plantCalm_cavern h hc).1

theorem stepValveFault_of_calm {s : State} (h : s.plantCalm = true) (j : Nat) : stepValveFault j s = s := by
  unfold stepValveFault
  cases hc : s.cavern j with
  | none => rfl
  | some c => simp [(State.plantCalm_cavern h hc).2]

theorem stepTimeoutExpiry_of_calm {s : State} (h : s.plantCalm = true) (k : Nat) : stepTimeoutExpiry k s = s := by
  unfold stepTimeoutExpiry
  cases hu : s.unit k with
  | none => rfl
  | some u => exact if_neg (State.plantCalm_unit h hu).2.2.1

theorem stepMinRunExpiry_of_calm {s : State} (h : s.plantCalm = true) (k : Nat) : stepMinRunExpiry k s = s := by
  unfold stepMinRunExpiry
  cases hu : s.unit k with
  | none => rfl
  | some u => exact if_neg (State.plantCalm_unit h hu).1

theorem stepMinStopExpiry_of_calm {s : State} (h : s.plantCalm = true) (k : Nat) : stepMinStopExpiry k s = s := by
  unfold stepMinStopExpiry
  cases hu : s.unit k with
  | none => rfl
  | some u => exact if_neg (State.plantCalm_unit h hu).2.1

theorem stepStartListDrop_of_calm {s : State} (h : s.plantCalm = true) (k : Nat) : stepStartListDrop k s = s := by
  unfold stepStartListDrop
  cases hu : s.unit k with
  | none => rfl
  | some u =>
    refine if_neg ?_
    simpa using (State.plantCalm_unit h hu).2.2.2

theorem stepHeatingExpiry_of_calm {s : State} (h : s.plantCalm = true) : stepHeatingExpiry s = s := by
  simp only [State.plantCalm, Bool.and_eq_true, bne_iff_ne] at h
  exact if_neg h.1.2

theorem stepCoolingExpiry_of_calm {s : State} (h : s.plantCalm = true) (t : Nat) : stepCoolingExpiry t s = s := by
  unfold stepCoolingExpiry
  cases hr : s.train t with
  | none => rfl
  | some r => exact if_neg (State.plantCalm_train h hr).1

theorem stepOffspecEntry_of_calm {s : State} (h : s.plantCalm = true) (t : Nat) : stepOffspecEntry t s = s := by
  unfold stepOffspecEntry
  cases hr : s.train t with
  | none => rfl
  | some r => exact if_neg (fun c => Nat.not_lt.mpr c.2 ((State.plantCalm_train h hr).2.1 c.1))

theorem stepOffspecRecovery_of_calm {s : State} (h : s.plantCalm = true) (t : Nat) :
    stepOffspecRecovery t s = s := by
  unfold stepOffspecRecovery
  cases hr : s.train t with
  | none => rfl
  | some r => exact if_neg (fun c => Nat.not_lt.mpr c.2 ((State.plantCalm_train h hr).2.2 c.1))

theorem stepMinute_of_calm {s : State} (h : s.clockCalm = true) : stepMinute s = s := by
  simp only [State.clockCalm, Bool.and_eq_true, Bool.not_eq_true'] at h
  simp [stepMinute, h.1.1]

theorem stepBoundary_of_calm {s : State} (h : s.clockCalm = true) : stepBoundary s = s := by
  simp only [State.clockCalm, Bool.and_eq_true, Bool.not_eq_true'] at h
  simp [stepBoundary, h.1.2]

theorem stepStatus_of_calm {s : State} (h : s.clockCalm = true) : stepStatus s = s := by
  simp only [State.clockCalm, Bool.and_eq_true, Bool.not_eq_true'] at h
  simp [stepStatus, h.2]

theorem stepCloseBegin_of_not_due {s : State} (h : s.closeDue = false) : stepCloseBegin s = s := by
  simp [stepCloseBegin, h]

theorem stepPlanBegin_of_not_due {s : State} (h : s.planDueNow = false) : stepPlanBegin s = s := by
  simp [stepPlanBegin, h]

theorem stepSnapshotBegin_of_not_due {s : State} (h : s.snapshotDueNow = false) : stepSnapshotBegin s = s := by
  simp [stepSnapshotBegin, h]

theorem State.takeHead_of_calm {s : State} (h : s.linkCalm = true) : s.takeHead = s := by
  unfold State.linkCalm at h
  unfold State.takeHead
  cases hr : s.slk.rx with
  | nil => rfl
  | cons r rest => simp_all

/-- Where no operation may begin and the receive queue is empty or blocked, nothing goes on. -/
theorem beginAndDrain_of_calm {s : State} (h1 : s.closeDue = false) (h2 : s.planDueNow = false)
    (h3 : s.snapshotDueNow = false) (hl : s.linkCalm = true) : beginAndDrain s = s := by
  have hb : runSteps beginSteps s = s := by
    refine runSteps_of_fixed ?_
    simp only [beginSteps, List.forall_mem_cons]
    exact ⟨stepCloseBegin_of_not_due h1, stepPlanBegin_of_not_due h2, stepSnapshotBegin_of_not_due h3, List.forall_mem_nil _⟩
  have ht : takeAndBegin s = s := by
    unfold takeAndBegin
    rw [State.takeHead_of_calm hl, stepPlanBegin_of_not_due h2, stepSnapshotBegin_of_not_due h3]
  have hd : ∀ n, drain n s = s := by
    intro n
    induction n with
    | zero => rfl
    | succ n ih => show drain n (takeAndBegin s) = s; rw [ht]; exact ih
  unfold beginAndDrain
  rw [hb, hd]

/-- In a quiet state settling changes nothing. -/
theorem settle_of_quiet {s : State} (h : s.quiet = true) : settle s = s := by
  obtain ⟨_, hp, hc, h1, h2, h3, hl⟩ := State.quiet_parts h
  have hs : runSteps secondSteps s = s := by
    refine runSteps_of_fixed ?_
    simp only [secondSteps, List.forall_mem_append, List.forall_mem_map, List.forall_mem_cons]
    exact ⟨⟨⟨⟨⟨⟨⟨⟨⟨⟨fun j _ => stepSettleExpiry_of_calm hp j, fun j _ => stepValveFault_of_calm hp j⟩,
      fun k _ => stepTimeoutExpiry_of_calm hp k⟩, fun k _ => stepMinRunExpiry_of_calm hp k⟩,
      fun k _ => stepMinStopExpiry_of_calm hp k⟩, fun k _ => stepStartListDrop_of_calm hp k⟩,
      stepHeatingExpiry_of_calm hp, List.forall_mem_nil _⟩, fun t _ => stepCoolingExpiry_of_calm hp t⟩,
      fun t _ => stepOffspecEntry_of_calm hp t⟩, fun t _ => stepOffspecRecovery_of_calm hp t⟩,
      stepMinute_of_calm hc, stepBoundary_of_calm hc, stepStatus_of_calm hc, List.forall_mem_nil _⟩
  unfold settle
  rw [hs, beginAndDrain_of_calm h1 h2 h3 hl]

/-- In a quiet state an event from outside acts at once. -/
theorem external_of_quiet {s : State} (h : s.quiet = true) (f : State → State) : external s f = f s := by
  unfold external
  rw [settle_of_quiet h, (State.quiet_parts h).1]
  rfl

/-- Held in reset, an event from outside has no effect. -/
theorem external_of_reset {s : State} (h : s.sts.inReset = true) (f : State → State) : external s f = s := by
  simp [external, h]

theorem internal_of_released {s : State} (h : s.sts.inReset = false) (f : State → State) : internal s f = f s := by
  simp [internal, h]

/-! ### Requests -/

/-- The parts of `receptive`. -/
theorem State.receptive_parts {s : State} (h : s.receptive = true) :
    s.quiet = true ∧ s.slk.rx = [] ∧ s.occupancy < 48 := by
  simpa [State.receptive, and_assoc] using h

/-- A request row hands its request over. -/
theorem exec_of_request {c : Instr} {r : Request} (h : requestOf c = some r) (s : State) :
    exec c s = .next (submit r s) := by
  cases c <;> simp only [requestOf, Option.some.injEq, reduceCtorEq] at h <;> subst h <;> rfl

/-- In a receptive state a request of a kind that no close holds is taken at once: its effect, its reply, and the
queue as the request's handling leaves it, without the request. -/
theorem submit_of_receptive {s : State} {r : Request} (h : s.receptive = true) (hh : s.held r = false) :
    submit r s =
      let s' := ({ s with slk := { s.slk with rx := [r] } } : State).handle r
      { s' with slk := { s'.slk with rx := s'.slk.rx.drop 1 } } := by
  obtain ⟨hq, hr, ho⟩ := State.receptive_parts h
  have he : s.enqueue r = { s with slk := { s.slk with rx := [r] } } := by simp [State.enqueue, hr]
  unfold submit
  rw [external_of_quiet hq, he]
  have hm : State.mayTake ({ s with slk := { s.slk with rx := [r] } } : State) r = true := by
    have : State.held ({ s with slk := { s.slk with rx := [r] } } : State) r = false := hh
    rw [State.mayTake, this]
    exact decide_eq_true ho
  simp only [State.takeHead, hm, if_true]

/-- In a receptive state a request of a kind that a close holds waits (10 R159). -/
theorem submit_of_held {s : State} {r : Request} (h : s.receptive = true) (hh : s.held r = true) :
    submit r s = { s with slk := { s.slk with rx := [r] } } := by
  obtain ⟨hq, hr, _⟩ := State.receptive_parts h
  have he : s.enqueue r = { s with slk := { s.slk with rx := [r] } } := by simp [State.enqueue, hr]
  unfold submit
  rw [external_of_quiet hq, he]
  have hm : State.mayTake ({ s with slk := { s.slk with rx := [r] } } : State) r = false := by
    have : State.held ({ s with slk := { s.slk with rx := [r] } } : State) r = true := hh
    simp [State.mayTake, this]
  simp only [State.takeHead, hm]
  rfl

/-! ### The two events that unblock the receive queue (11 R174) -/

/-- A completion while a close is in flight goes on at once; with none in flight it changes nothing. -/
theorem State.closeCompleted_eq (s : State) :
    (s.hcu.close.isSome = true ∧ s.closeCompleted = beginAndDrain s.completeClose) ∨
    (s.hcu.close = none ∧ s.closeCompleted = s) := by
  unfold State.closeCompleted
  by_cases h : s.hcu.close.isSome = true
  · exact .inl ⟨h, if_pos h⟩
  · exact .inr ⟨by simpa using h, if_neg h⟩

/-- A record sent, all that it can do: nothing with none queued, and else the record leaves, the unsent entries are
offered at 27 records left, and the head of the receive queue is taken where nothing blocks it. -/
theorem State.recordSent_eq (s : State) :
    (s.slk.tx = [] ∧ s.recordSent = s) ∨
    ∃ x rest, s.slk.tx = x :: rest ∧
      let s' : State := { s with slk := { s.slk with tx := rest } }
      (rest.length = 27 ∧ s.recordSent = s'.resendUnsent.takeHead) ∨
        (rest.length ≠ 27 ∧ s.recordSent = s'.takeHead) := by
  unfold State.recordSent
  cases h : s.slk.tx with
  | nil => exact .inl ⟨rfl, rfl⟩
  | cons x rest =>
    refine .inr ⟨x, rest, rfl, ?_⟩
    by_cases hn : rest.length = 27
    · exact .inl ⟨hn, by simp [hn]⟩
    · exact .inr ⟨hn, by simp [hn]⟩

end Sys2Proof.Machine
end

