-- ==== Sys2Proof/Laws/Frames.lean ====
section
/-! SUPPORT. What each shared operation can change, said once: reports touch the alert set and the transmit queue,
orders touch the order image and the transmit queue, and each plant block touches besides those its own records and
the plan-due mark. -/

namespace Sys2Proof.Machine

/-! ### Records sent -/

/-- `t` follows `s` with records offered: they join the tail, and an offer is admitted below 38 only (11 R175). -/
def Sent (s t : State) : Prop := ∃ rs, t.slk.tx = s.slk.tx ++ rs ∧ (rs = [] ∨ t.slk.tx.length ≤ 38)

theorem Sent.refl (s : State) : Sent s s := ⟨[], by simp, .inl rfl⟩

theorem Sent.of_eq {s t : State} (h : t.slk.tx = s.slk.tx) : Sent s t := ⟨[], by simp [h], .inl rfl⟩

theorem Sent.trans {s t u : State} (h1 : Sent s t) (h2 : Sent t u) : Sent s u := by
  obtain ⟨rs, h1, o1⟩ := h1
  obtain ⟨qs, h2, o2⟩ := h2
  refine ⟨rs ++ qs, by rw [h2, h1, List.append_assoc], ?_⟩
  rcases o2 with rfl | o2
  · rcases o1 with rfl | o1
    · exact .inl rfl
    · right; rw [h2, List.append_nil]; exact o1
  · exact .inr o2

/-- Offered records keep the transmit queue within its 48 records. -/
theorem Sent.within {s t : State} (h : Sent s t) (hs : s.slk.tx.length ≤ 48) : t.slk.tx.length ≤ 48 := by
  obtain ⟨rs, h, rfl | o⟩ := h
  · rw [h, List.append_nil]; exact hs
  · omega

/-- An offer never lowers the occupancy. -/
theorem Sent.le {s t : State} (h : Sent s t) : s.slk.tx.length ≤ t.slk.tx.length := by
  obtain ⟨rs, h, _⟩ := h
  rw [h, List.length_append]; omega

theorem Sent.push {s : State} {r : Record} (h : s.slk.tx.length < 38) : Sent s (s.pushRecord r) :=
  ⟨[r], rfl, .inr (by simp; omega)⟩

/-! ### Kinds of frame -/

/-- `t` differs from `s` at most in the alert set and in records offered. -/
structure Reported (s t : State) : Prop where
  rest : { t with als := s.als, slk := { t.slk with tx := s.slk.tx } } = s
  alerts : t.als.length = s.als.length
  sent : Sent s t

/-- `t` differs from `s` at most in the order image and in records offered. -/
structure Ordered (s t : State) : Prop where
  rest : { t with ori := s.ori, slk := { t.slk with tx := s.slk.tx } } = s
  orders : t.ori.length = s.ori.length
  sent : Sent s t

/-- `t` differs from `s` at most in CVC, the order image, the alert set, the plan-due mark and records offered. -/
structure CavernsMoved (s t : State) : Prop where
  rest : { t with cvc := s.cvc, ori := s.ori, als := s.als, plu := { t.plu with due := s.plu.due }
                  slk := { t.slk with tx := s.slk.tx } } = s
  caverns : t.cvc.length = s.cvc.length
  orders : t.ori.length = s.ori.length
  alerts : t.als.length = s.als.length
  sent : Sent s t

/-- `t` differs from `s` at most in the units, the order image, the alert set, the plan-due mark and records
offered. -/
structure UnitsMoved (s t : State) : Prop where
  rest : { t with cdu := { t.cdu with units := s.cdu.units }, ori := s.ori, als := s.als
                  plu := { t.plu with due := s.plu.due }, slk := { t.slk with tx := s.slk.tx } } = s
  units : t.cdu.units.length = s.cdu.units.length
  orders : t.ori.length = s.ori.length
  alerts : t.als.length = s.als.length
  sent : Sent s t

/-- `t` differs from `s` at most in DRC, the order image, the alert set, the plan-due mark and records offered. -/
structure TrainsMoved (s t : State) : Prop where
  rest : { t with drc := s.drc, ori := s.ori, als := s.als, plu := { t.plu with due := s.plu.due }
                  slk := { t.slk with tx := s.slk.tx } } = s
  trains : t.drc.trains.length = s.drc.trains.length
  orders : t.ori.length = s.ori.length
  alerts : t.als.length = s.als.length
  sent : Sent s t

theorem Reported.refl (s : State) : Reported s s := ⟨rfl, rfl, .refl s⟩

theorem Reported.trans {s t u : State} (h1 : Reported s t) (h2 : Reported t u) : Reported s u :=
  ⟨(congrArg (fun x : State => { x with als := s.als, slk := { x.slk with tx := s.slk.tx } }) h2.rest).trans h1.rest,
   h2.alerts.trans h1.alerts, h1.sent.trans h2.sent⟩

theorem Ordered.refl (s : State) : Ordered s s := ⟨rfl, rfl, .refl s⟩

theorem Ordered.trans {s t u : State} (h1 : Ordered s t) (h2 : Ordered t u) : Ordered s u :=
  ⟨(congrArg (fun x : State => { x with ori := s.ori, slk := { x.slk with tx := s.slk.tx } }) h2.rest).trans h1.rest,
   h2.orders.trans h1.orders, h1.sent.trans h2.sent⟩

theorem CavernsMoved.refl (s : State) : CavernsMoved s s := ⟨rfl, rfl, rfl, rfl, .refl s⟩

theorem CavernsMoved.trans {s t u : State} (h1 : CavernsMoved s t) (h2 : CavernsMoved t u) : CavernsMoved s u :=
  ⟨(congrArg (fun x : State =>
      { x with cvc := s.cvc, ori := s.ori, als := s.als, plu := { x.plu with due := s.plu.due }
               slk := { x.slk with tx := s.slk.tx } }) h2.rest).trans h1.rest,
   h2.caverns.trans h1.caverns, h2.orders.trans h1.orders, h2.alerts.trans h1.alerts, h1.sent.trans h2.sent⟩

theorem UnitsMoved.refl (s : State) : UnitsMoved s s := ⟨rfl, rfl, rfl, rfl, .refl s⟩

theorem UnitsMoved.trans {s t u : State} (h1 : UnitsMoved s t) (h2 : UnitsMoved t u) : UnitsMoved s u :=
  ⟨(congrArg (fun x : State =>
      { x with cdu := { x.cdu with units := s.cdu.units }, ori := s.ori, als := s.als
               plu := { x.plu with due := s.plu.due }, slk := { x.slk with tx := s.slk.tx } }) h2.rest).trans h1.rest,
   h2.units.trans h1.units, h2.orders.trans h1.orders, h2.alerts.trans h1.alerts, h1.sent.trans h2.sent⟩

theorem TrainsMoved.refl (s : State) : TrainsMoved s s := ⟨rfl, rfl, rfl, rfl, .refl s⟩

theorem TrainsMoved.trans {s t u : State} (h1 : TrainsMoved s t) (h2 : TrainsMoved t u) : TrainsMoved s u :=
  ⟨(congrArg (fun x : State =>
      { x with drc := s.drc, ori := s.ori, als := s.als, plu := { x.plu with due := s.plu.due }
               slk := { x.slk with tx := s.slk.tx } }) h2.rest).trans h1.rest,
   h2.trains.trans h1.trains, h2.orders.trans h1.orders, h2.alerts.trans h1.alerts, h1.sent.trans h2.sent⟩

theorem Reported.ite {s a b : State} {p : Prop} [Decidable p] (h1 : Reported s a) (h2 : Reported s b) :
    Reported s (if p then a else b) := by split <;> assumption

theorem Ordered.ite {s a b : State} {p : Prop} [Decidable p] (h1 : Ordered s a) (h2 : Ordered s b) :
    Ordered s (if p then a else b) := by split <;> assumption

theorem CavernsMoved.ite {s a b : State} {p : Prop} [Decidable p] (h1 : CavernsMoved s a) (h2 : CavernsMoved s b) :
    CavernsMoved s (if p then a else b) := by split <;> assumption

theorem UnitsMoved.ite {s a b : State} {p : Prop} [Decidable p] (h1 : UnitsMoved s a) (h2 : UnitsMoved s b) :
    UnitsMoved s (if p then a else b) := by split <;> assumption

theorem TrainsMoved.ite {s a b : State} {p : Prop} [Decidable p] (h1 : TrainsMoved s a) (h2 : TrainsMoved s b) :
    TrainsMoved s (if p then a else b) := by split <;> assumption

/-- A report is within the frame of every plant block. -/
theorem Reported.caverns {s t : State} (h : Reported s t) : CavernsMoved s t :=
  ⟨(congrArg (fun x : State => { x with cvc := s.cvc, ori := s.ori, plu := { x.plu with due := s.plu.due } })
      h.rest).trans rfl,
   by rw [← h.rest], by rw [← h.rest], h.alerts, h.sent⟩

theorem Reported.units {s t : State} (h : Reported s t) : UnitsMoved s t :=
  ⟨(congrArg (fun x : State => { x with cdu := { x.cdu with units := s.cdu.units }, ori := s.ori
                                        plu := { x.plu with due := s.plu.due } }) h.rest).trans rfl,
   by rw [← h.rest], by rw [← h.rest], h.alerts, h.sent⟩

theorem Reported.trains {s t : State} (h : Reported s t) : TrainsMoved s t :=
  ⟨(congrArg (fun x : State => { x with drc := s.drc, ori := s.ori, plu := { x.plu with due := s.plu.due } })
      h.rest).trans rfl,
   by rw [← h.rest], by rw [← h.rest], h.alerts, h.sent⟩

/-- An order is within the frame of every plant block. -/
theorem Ordered.caverns {s t : State} (h : Ordered s t) : CavernsMoved s t :=
  ⟨(congrArg (fun x : State => { x with cvc := s.cvc, als := s.als, plu := { x.plu with due := s.plu.due } })
      h.rest).trans rfl,
   by rw [← h.rest], h.orders, by rw [← h.rest], h.sent⟩

theorem Ordered.units {s t : State} (h : Ordered s t) : UnitsMoved s t :=
  ⟨(congrArg (fun x : State => { x with cdu := { x.cdu with units := s.cdu.units }, als := s.als
                                        plu := { x.plu with due := s.plu.due } }) h.rest).trans rfl,
   by rw [← h.rest], h.orders, by rw [← h.rest], h.sent⟩

theorem Ordered.trains {s t : State} (h : Ordered s t) : TrainsMoved s t :=
  ⟨(congrArg (fun x : State => { x with drc := s.drc, als := s.als, plu := { x.plu with due := s.plu.due } })
      h.rest).trans rfl,
   by rw [← h.rest], h.orders, by rw [← h.rest], h.sent⟩

/-! ### Alerts and reports (11 R175, R178) -/

theorem State.recordAlert_reported (s : State) (k : AlertKind) (object : Nat) :
    Reported s (s.recordAlert k object) :=
  ⟨rfl, setNth_length _ _ _, .of_eq rfl⟩

theorem State.noteDropped_reported (s : State) : Reported s s.noteDropped := by
  unfold State.noteDropped
  split
  · exact (s.recordAlert_reported _ _).trans (State.recordAlert_reported _ _ _)
  · exact s.recordAlert_reported _ _

theorem State.offerReport_reported (s : State) (r : Record) : Reported s (s.offerReport r) := by
  unfold State.offerReport
  split
  · next h => exact ⟨rfl, rfl, .push (Nat.lt_trans h (by decide))⟩
  · exact s.noteDropped_reported

/-- Raising an alert, all it can do: its record, the record of REPORTS_DROPPED, and one report. -/
theorem State.raise_reported (s : State) (k : AlertKind) (object : Nat) : Reported s (s.raise k object) := by
  unfold State.raise
  split
  · exact (s.recordAlert_reported _ _).trans (State.offerReport_reported _ _)
  · exact s.recordAlert_reported _ _

/-! ### Orders (11 R176, R177) -/

theorem State.offerOrder_ordered (s : State) (i : Nat) : Ordered s (s.offerOrder i) := by
  unfold State.offerOrder
  split
  · split
    · next h => exact ⟨rfl, setNth_length _ _ _, .trans (.push h) (.of_eq rfl)⟩
    · exact ⟨rfl, setNth_length _ _ _, .of_eq rfl⟩
  · exact .refl s

theorem State.writeOrder_ordered (s : State) (i : Nat) (v : OrderValue) : Ordered s (s.writeOrder i v) := by
  unfold State.writeOrder
  split
  · next e _ =>
    refine Ordered.trans (t := { s with ori := setNth s.ori i { e with value := v, second := s.clk.stationSeconds } })
      ⟨rfl, setNth_length _ _ _, .of_eq rfl⟩ (State.offerOrder_ordered _ _)
  · exact .refl s

theorem State.writeOrderIfNew_ordered (s : State) (i : Nat) (v : OrderValue) :
    Ordered s (s.writeOrderIfNew i v) := by
  unfold State.writeOrderIfNew
  split
  · split
    · exact .refl s
    · exact s.writeOrder_ordered i v
  · exact .refl s

theorem State.resendUnsent_ordered (s : State) : Ordered s s.resendUnsent := by
  unfold State.resendUnsent
  refine State.forEach_induct (P := Ordered s) (.refl s) (fun u i _ h => h.trans ?_)
  split
  · split
    · exact u.offerOrder_ordered i
    · exact .refl u
  · exact .refl u

theorem State.writeRate_ordered (s : State) (j n : Nat) : Ordered s (s.writeRate j n) :=
  s.writeOrderIfNew_ordered _ _

theorem State.writeTrainMode_ordered (s : State) (t : Nat) (m : TrainMode) : Ordered s (s.writeTrainMode t m) :=
  s.writeOrderIfNew_ordered _ _

theorem State.writeTrainBed_ordered (s : State) (t : Nat) (bed : Bed) : Ordered s (s.writeTrainBed t bed) :=
  s.writeOrderIfNew_ordered _ _

theorem State.writeTrainStep_ordered (s : State) (t : Nat) (st : RegenStep) : Ordered s (s.writeTrainStep t st) :=
  s.writeOrderIfNew_ordered _ _

/-! ### Plain changes of a plant block -/

theorem State.setCavern_moved (s : State) (j : Nat) (c : Option Cavern) : CavernsMoved s (s.setCavern j c) :=
  ⟨rfl, setNth_length _ _ _, rfl, rfl, .of_eq rfl⟩

theorem State.modCavern_moved (s : State) (j : Nat) (f : Cavern → Cavern) : CavernsMoved s (s.modCavern j f) := by
  rcases s.modCavern_eq j f with ⟨c, _, h⟩ | ⟨_, h⟩ <;> rw [h]
  · exact s.setCavern_moved j _
  · exact .refl s

theorem State.setUnit_moved (s : State) (k : Nat) (u : Option Compressor) : UnitsMoved s (s.setUnit k u) :=
  ⟨rfl, setNth_length _ _ _, rfl, rfl, .of_eq rfl⟩

theorem State.modUnit_moved (s : State) (k : Nat) (f : Compressor → Compressor) : UnitsMoved s (s.modUnit k f) := by
  rcases s.modUnit_eq k f with ⟨u, _, h⟩ | ⟨_, h⟩ <;> rw [h]
  · exact s.setUnit_moved k _
  · exact .refl s

theorem State.setTrain_moved (s : State) (t : Nat) (r : Option Train) : TrainsMoved s (s.setTrain t r) :=
  ⟨rfl, setNth_length _ _ _, rfl, rfl, .of_eq rfl⟩

theorem State.modTrain_moved (s : State) (t : Nat) (f : Train → Train) : TrainsMoved s (s.modTrain t f) := by
  rcases s.modTrain_eq t f with ⟨r, _, h⟩ | ⟨_, h⟩ <;> rw [h]
  · exact s.setTrain_moved t _
  · exact .refl s

theorem State.makePlanDue_caverns (s : State) : CavernsMoved s s.makePlanDue := ⟨rfl, rfl, rfl, rfl, .of_eq rfl⟩

theorem State.makePlanDue_units (s : State) : UnitsMoved s s.makePlanDue := ⟨rfl, rfl, rfl, rfl, .of_eq rfl⟩

theorem State.makePlanDue_trains (s : State) : TrainsMoved s s.makePlanDue := ⟨rfl, rfl, rfl, rfl, .of_eq rfl⟩

/-! ### CVC (07 R108 to R120) -/

theorem State.writeValve_moved (s : State) (j : Nat) (v : Valve) : CavernsMoved s (s.writeValve j v) := by
  unfold State.writeValve
  split
  · exact .refl s
  · exact (s.writeOrder_ordered _ _).caverns.trans (State.modCavern_moved _ _ _)

theorem State.writeRate_moved (s : State) (j n : Nat) : CavernsMoved s (s.writeRate j n) :=
  (s.writeRate_ordered j n).caverns

theorem State.shutCavern_moved (s : State) (j : Nat) : CavernsMoved s (s.shutCavern j) :=
  ((s.writeValve_moved j _).trans (State.writeRate_moved _ _ _)).trans (State.modCavern_moved _ _ _)

theorem State.enterSettling_moved (s : State) (j : Nat) : CavernsMoved s (s.enterSettling j) :=
  ((s.shutCavern_moved j).trans (State.modCavern_moved _ _ _)).trans (State.makePlanDue_caverns _)

theorem State.orderFlow_moved (s : State) (j : Nat) (d : Dir) (share : Nat) : CavernsMoved s (s.orderFlow j d share) :=
  ((s.modCavern_moved j _).trans (State.writeValve_moved _ _ _)).trans (State.writeRate_moved _ _ _)

theorem State.enterFlow_moved (s : State) (j : Nat) (c : Cavern) (d : Dir) (share : Nat) :
    CavernsMoved s (s.enterFlow j c d share) := by
  unfold State.enterFlow
  refine CavernsMoved.trans ?_ (State.makePlanDue_caverns _)
  refine CavernsMoved.trans ?_ (State.orderFlow_moved _ _ _ _)
  refine CavernsMoved.trans ?_ (State.modCavern_moved _ _ _)
  exact .ite ((s.modCavern_moved j _).trans (State.raise_reported _ _ _).caverns) (s.modCavern_moved j _)

theorem State.reenterFlow_moved (s : State) (j : Nat) (d : Dir) (share : Nat) :
    CavernsMoved s (s.reenterFlow j d share) :=
  ((s.modCavern_moved j _).trans (State.orderFlow_moved _ _ _ _)).trans (State.makePlanDue_caverns _)

theorem State.formCaps_moved (s : State) (j : Nat) : CavernsMoved s (s.formCaps j).1 := by
  unfold State.formCaps
  split
  · exact .refl s
  · exact .ite ((s.setCavern_moved j _).trans (State.makePlanDue_caverns _)) (s.setCavern_moved j _)

theorem State.formAllCaps_moved (s : State) : CavernsMoved s s.formAllCaps.1 := by
  unfold State.formAllCaps
  have h : ∀ (ns : List Nat) (acc : State × Bool), CavernsMoved acc.1 (ns.foldl (fun (acc : State × Bool) j =>
      let (s', ch) := acc.1.formCaps j
      (s', acc.2 || ch)) acc).1 := by
    intro ns
    induction ns with
    | nil => exact fun acc => .refl _
    | cons n ns ih => exact fun acc =>
        (State.formCaps_moved acc.1 n).trans (ih ((acc.1.formCaps n).1, acc.2 || (acc.1.formCaps n).2))
  exact h cavernNumbers (s, false)

theorem State.adjustFlow_moved (s : State) (j : Nat) (c : Cavern) (d : Dir) (share : Nat) :
    CavernsMoved s (s.adjustFlow j c d share) := by
  unfold State.adjustFlow
  exact .ite ((s.modCavern_moved j _).trans (State.writeRate_moved _ _ _)) (s.modCavern_moved j _)

theorem State.applyShare_moved (s : State) (j share : Nat) : CavernsMoved s (s.applyShare j share) := by
  unfold State.applyShare
  cases s.cavern j with
  | none => exact .refl s
  | some c =>
    cases s.planDir with
    | none => exact .ite (.ite (s.enterSettling_moved j) (.refl s)) (.ite (.refl s) (.refl s))
    | some d =>
      exact .ite (.ite (s.enterSettling_moved j) (.ite (s.adjustFlow_moved j c d _) (.refl s)))
        (.ite (.refl s) (.ite (s.enterFlow_moved j c d _) (.ite (s.reenterFlow_moved j d _) (.refl s))))

theorem State.runSplit_moved (s : State) : CavernsMoved s s.runSplit :=
  State.forEach_induct (P := CavernsMoved s) (.refl s) (fun u _ _ h => h.trans (u.applyShare_moved _ _))

theorem settleCaps_moved (n : Nat) (s : State) : CavernsMoved s (settleCaps n s) := by
  induction n generalizing s with
  | zero => exact s.formAllCaps_moved
  | succ n ih =>
    have h := s.formAllCaps_moved
    unfold settleCaps
    cases hx : s.formAllCaps with
    | mk s' changed =>
      rw [hx] at h
      exact .ite (CavernsMoved.trans (h.trans s'.runSplit_moved) (ih _)) h

/-- An event that changes what the caps depend on, all it can do. -/
theorem State.cavernsChanged_moved (s : State) : CavernsMoved s s.cavernsChanged := settleCaps_moved 8 s

theorem State.splitFlow_moved (s : State) : CavernsMoved s s.splitFlow := by
  unfold State.splitFlow
  exact .ite (s.runSplit_moved.trans (State.cavernsChanged_moved _)) (.refl s)

theorem State.pushPressure_moved (s : State) (j : Nat) : CavernsMoved s (s.pushPressure j) := by
  unfold State.pushPressure
  cases s.cavern j with
  | none => exact .refl s
  | some c =>
    exact .ite ((s.setCavern_moved j _).trans (State.raise_reported _ _ _).caverns)
      (.ite (s.setCavern_moved j _) (s.setCavern_moved j _))

theorem State.cavernMinute_moved (s : State) : CavernsMoved s s.cavernMinute := by
  unfold State.cavernMinute
  refine CavernsMoved.trans ?_ (State.splitFlow_moved _)
  refine CavernsMoved.trans ?_ (State.formAllCaps_moved _)
  exact State.forEach_induct (P := CavernsMoved s) (.refl s) (fun u _ _ h => h.trans (u.pushPressure_moved _))

theorem State.pressureArrival_moved (s : State) (j value : Nat) : CavernsMoved s (s.pressureArrival j value) := by
  unfold State.pressureArrival
  cases s.cavern j with
  | none => exact .refl s
  | some c =>
    refine CavernsMoved.trans ?_ (State.cavernsChanged_moved _)
    refine CavernsMoved.trans ?_ (State.modCavern_moved _ _ _)
    have h := fun f a => ((s.modCavern_moved j f).trans (State.enterSettling_moved _ j)).trans
      (State.raise_reported _ a j).caverns
    exact .ite (h _ _) (.ite (h _ _) (.refl s))

theorem State.pressureQuality_moved (s : State) (j : Nat) (q : Quality) :
    CavernsMoved s (s.pressureQuality j q) := by
  unfold State.pressureQuality
  cases s.cavern j with
  | none => exact .refl s
  | some c => exact CavernsMoved.trans (.ite (s.enterSettling_moved j) (.refl s)) (State.cavernsChanged_moved _)

theorem State.cavernsStop_moved (s : State) : CavernsMoved s s.cavernsStop := by
  unfold State.cavernsStop
  refine CavernsMoved.trans ?_ (State.cavernsChanged_moved _)
  refine State.forEach_induct (P := CavernsMoved s) (.refl s) (fun u j _ h => h.trans ?_)
  cases u.cavern j with
  | none => exact .refl u
  | some c => exact .ite (u.enterSettling_moved j) (.refl u)

theorem State.cavernSecond_moved (s : State) (j : Nat) : CavernsMoved s (s.cavernSecond j) := by
  unfold State.cavernSecond
  split
  · exact .refl s
  · exact s.setCavern_moved j _

theorem stepSettleExpiry_moved (j : Nat) (s : State) : CavernsMoved s (stepSettleExpiry j s) := by
  unfold stepSettleExpiry
  cases s.cavern j with
  | none => exact .refl s
  | some c =>
    exact .ite (.ite (((s.setCavern_moved j _).trans (State.makePlanDue_caverns _)).trans
      (State.cavernsChanged_moved _)) (s.setCavern_moved j _)) (.refl s)

theorem stepValveFault_moved (j : Nat) (s : State) : CavernsMoved s (stepValveFault j s) := by
  unfold stepValveFault
  cases s.cavern j with
  | none => exact .refl s
  | some c =>
    exact .ite (.ite (s.setCavern_moved j _) (((((s.shutCavern_moved j).trans (State.modCavern_moved _ _ _)).trans
      (State.raise_reported _ _ _).caverns).trans (State.makePlanDue_caverns _)).trans
      (State.cavernsChanged_moved _))) (.refl s)

theorem State.zeroVolumes_moved (s : State) : CavernsMoved s s.zeroVolumes :=
  State.forEach_induct (P := CavernsMoved s) (.refl s) (fun u j _ h => h.trans (u.modCavern_moved j _))

theorem State.cavernRollover_moved (s : State) : CavernsMoved s s.cavernRollover := by
  unfold State.cavernRollover
  refine CavernsMoved.trans ?_ (State.cavernsChanged_moved _)
  exact State.forEach_induct (P := CavernsMoved s) (.refl s) (fun u j _ h => h.trans (u.modCavern_moved j _))

/-! ### CDU (08 R128 to R142) -/

theorem State.writeUnitOrders_ordered (s : State) : Ordered s s.writeUnitOrders := by
  unfold State.writeUnitOrders
  refine State.forEach_induct (P := Ordered s) ?_ (fun u k _ h => h.trans ?_)
  · refine State.forEach_induct (P := Ordered s) (.refl s) (fun u k _ h => h.trans ?_)
    cases u.unit k with
    | none => exact .refl u
    | some x => exact .ite (.refl u) (u.writeOrderIfNew_ordered _ _)
  · cases u.unit k with
    | none => exact .refl u
    | some x => exact u.writeOrderIfNew_ordered _ _

theorem State.changeUnit_moved (s : State) (k : Nat) (u v : Compressor) : UnitsMoved s (s.changeUnit k u v) := by
  unfold State.changeUnit
  exact .ite ((s.setUnit_moved k _).trans (State.makePlanDue_units _)) (s.setUnit_moved k _)

theorem State.readyTest_moved (s : State) (k : Nat) : UnitsMoved s (s.readyTest k).1 := by
  unfold State.readyTest
  repeat' split
  · exact s.changeUnit_moved k _ _
  · exact .refl s
  · exact .refl s

theorem State.enterResting_moved (s : State) (k : Nat) (u : Compressor) : UnitsMoved s (s.enterResting k u).1 :=
  (s.changeUnit_moved k _ _).trans (State.readyTest_moved _ k)

theorem State.stoppedTest_moved (s : State) (k : Nat) : UnitsMoved s (s.stoppedTest k).1 := by
  unfold State.stoppedTest
  repeat' split
  · exact s.enterResting_moved k _
  · exact .refl s
  · exact .refl s

theorem startUnits_moved (n need : Nat) (s : State) : UnitsMoved s (startUnits n need s).1 := by
  induction n generalizing s with
  | zero => exact .refl s
  | succ n ih =>
    unfold startUnits
    repeat' split
    · exact (s.changeUnit_moved _ _ _).trans (ih _)
    · exact .refl s
    · exact .refl s

theorem State.stopUnit_moved (s : State) : UnitsMoved s s.stopUnit := by
  unfold State.stopUnit
  split
  · exact (s.changeUnit_moved _ _ _).trans (State.stoppedTest_moved _ _)
  · exact .refl s

theorem State.setLoads_moved (s : State) : UnitsMoved s s.setLoads :=
  State.forEach_induct (P := UnitsMoved s) (.refl s) (fun u k _ h => h.trans (u.modUnit_moved k _))

/-- A duty evaluation, all it can do. -/
theorem State.evaluateDuty_moved (s : State) : UnitsMoved s s.evaluateDuty := by
  unfold State.evaluateDuty
  split
  · refine UnitsMoved.trans ?_ (State.writeUnitOrders_ordered _).units
    refine UnitsMoved.trans ?_ (State.setLoads_moved _)
    have h := startUnits_moved 6 s.need s
    exact .ite h (h.trans (State.stopUnit_moved _))
  · exact .refl s

theorem repeatDuty_moved (n : Nat) (s : State) : UnitsMoved s (repeatDuty n s) := by
  induction n generalizing s with
  | zero => exact .refl s
  | succ n ih => exact s.evaluateDuty_moved.trans (ih _)

theorem dutyAfter_moved (r : State × Nat) : UnitsMoved r.1 (dutyAfter r) := by
  unfold dutyAfter
  split
  · exact .refl _
  · exact (State.writeUnitOrders_ordered _).units.trans (repeatDuty_moved _ _)

theorem State.tripUnit_moved (s : State) (k : Nat) (u : Compressor) (a : AlertKind) :
    UnitsMoved s (s.tripUnit k u a) := by
  unfold State.tripUnit
  refine UnitsMoved.trans ?_ (dutyAfter_moved _)
  refine UnitsMoved.trans ?_ (State.stoppedTest_moved _ k)
  have h := fun v => ((s.changeUnit_moved k u v).trans (State.writeUnitOrders_ordered _).units).trans
    (State.raise_reported _ a k).units
  exact .ite ((h _).trans (State.raise_reported _ _ _).units) (h _)

theorem State.feedbackArrival_moved (s : State) (k value : Nat) : UnitsMoved s (s.feedbackArrival k value) := by
  unfold State.feedbackArrival
  have hs := (s.stoppedTest_moved k).trans (dutyAfter_moved _)
  cases s.unit k with
  | none => exact .refl s
  | some u =>
    have ht := s.tripUnit_moved k u .unitTrip
    have hc := fun v => UnitsMoved.trans (s.changeUnit_moved k u v) (dutyAfter_moved (s.changeUnit k u v, 1))
    cases h : u.state <;> simp only [h]
    case starting => exact .ite (hc _) (.ite ht (.refl s))
    case running => exact .ite ht (.refl s)
    case stopping => exact .ite ht (.ite hs (.refl s))
    case tripped => exact .ite hs (.refl s)
    all_goals exact .refl s

theorem State.feedbackQuality_moved (s : State) (k : Nat) (q : Quality) : UnitsMoved s (s.feedbackQuality k q) := by
  unfold State.feedbackQuality
  repeat' split
  · exact .refl s
  · exact s.tripUnit_moved k _ _
  · exact .refl s

theorem stepMinRunExpiry_moved (k : Nat) (s : State) : UnitsMoved s (stepMinRunExpiry k s) := by
  unfold stepMinRunExpiry
  repeat' split
  · exact .refl s
  · exact (s.setUnit_moved k _).trans (State.evaluateDuty_moved _)
  · exact .refl s

theorem stepMinStopExpiry_moved (k : Nat) (s : State) : UnitsMoved s (stepMinStopExpiry k s) := by
  unfold stepMinStopExpiry
  repeat' split
  · exact .refl s
  · exact (((s.setUnit_moved k _).trans (State.readyTest_moved _ k)).trans (dutyAfter_moved _)).trans
      (State.evaluateDuty_moved _)
  · exact .refl s

theorem stepTimeoutExpiry_moved (k : Nat) (s : State) : UnitsMoved s (stepTimeoutExpiry k s) := by
  unfold stepTimeoutExpiry
  cases s.unit k with
  | none => exact .refl s
  | some u =>
    refine .ite ?_ (.refl s)
    cases u.state <;> simp only
    case starting => exact s.tripUnit_moved k u _
    case stopping => exact s.tripUnit_moved k u _
    all_goals exact s.setUnit_moved k _

theorem stepStartListDrop_moved (k : Nat) (s : State) : UnitsMoved s (stepStartListDrop k s) := by
  unfold stepStartListDrop
  repeat' split
  · exact .refl s
  · exact ((s.setUnit_moved k _).trans (State.readyTest_moved _ k)).trans (dutyAfter_moved _)
  · exact .refl s

theorem State.stopEngaged_moved (s : State) (k : Nat) : UnitsMoved s (s.stopEngaged k) := by
  unfold State.stopEngaged
  repeat' split
  · exact (s.changeUnit_moved k _ _).trans (State.stoppedTest_moved _ k)
  · exact .refl s
  · exact .refl s

theorem State.unitsStop_moved (s : State) : UnitsMoved s s.unitsStop :=
  (State.forEach_induct (P := UnitsMoved s) (.refl s) (fun u k _ h => h.trans (u.stopEngaged_moved k))).trans
    (State.writeUnitOrders_ordered _).units

theorem State.unitRollover_moved (s : State) : UnitsMoved s s.unitRollover :=
  State.forEach_induct (P := UnitsMoved s) (.refl s) (fun u k _ h => h.trans (u.modUnit_moved k _))

/-! ### DRC (09 R147 to R154) -/

theorem State.formTrain_moved (s : State) (t : Nat) : TrainsMoved s (s.formTrain t) := by
  unfold State.formTrain
  split
  · exact .refl s
  · next r _ =>
    dsimp only
    have h := s.setTrain_moved t (some { r with
      condition := r.formCondition, planCap := planningCapacity r.config r.state r.formCondition })
    have hr : TrainsMoved s
        (if r.formCondition = .derated ∧ r.condition = .normal then
          (s.setTrain t (some { r with
            condition := r.formCondition, planCap := planningCapacity r.config r.state r.formCondition })).raise
            .trainDerated t
        else if r.formCondition = .breakthrough ∧ r.condition ≠ .breakthrough then
          (s.setTrain t (some { r with
            condition := r.formCondition, planCap := planningCapacity r.config r.state r.formCondition })).raise
            .trainBreakthrough t
        else s.setTrain t (some { r with
          condition := r.formCondition, planCap := planningCapacity r.config r.state r.formCondition })) := by
      repeat' split
      · exact h.trans (State.raise_reported _ _ _).trains
      · exact h.trans (State.raise_reported _ _ _).trains
      · exact h
    split
    · exact hr
    · exact hr.trans (State.makePlanDue_trains _)

theorem State.decideMode_ordered (s : State) (t : Nat) : Ordered s (s.decideMode t) := by
  unfold State.decideMode
  repeat' split
  · exact s.writeTrainMode_ordered t _
  · exact .refl s
  · exact .refl s

theorem State.changeTrain_moved (s : State) (t : Nat) (r : Train) (st : TrainState) :
    TrainsMoved s (s.changeTrain t r st) :=
  ((s.setTrain_moved t _).trans (State.formTrain_moved _ _)).trans (State.makePlanDue_trains _)

theorem State.trainsPlan_moved (s : State) : TrainsMoved s s.trainsPlan := by
  unfold State.trainsPlan
  split
  · dsimp only
    refine State.forEach_induct (P := TrainsMoved s) ?_ (fun u t _ h => h.trans (u.decideMode_ordered t).trains)
    refine State.forEach_induct (P := TrainsMoved s) (.refl s) (fun u t _ h => h.trans ?_)
    repeat' split
    all_goals first
      | exact .refl u
      | exact u.changeTrain_moved t _ _
  · exact .refl s

theorem State.trainsStop_moved (s : State) : TrainsMoved s s.trainsStop := by
  refine State.forEach_induct (P := TrainsMoved s) (.refl s) (fun u t _ h => h.trans ?_)
  repeat' split
  all_goals first
    | exact .refl u
    | exact u.changeTrain_moved t _ _

/-- A change of DRC's own fields that keeps the number of trains. -/
theorem TrainsMoved.of_drc (s : State) {d : Drying} (h : d.trains.length = s.drc.trains.length) :
    TrainsMoved s { s with drc := d } := ⟨rfl, h, rfl, rfl, .of_eq rfl⟩

theorem State.serveHeater_moved (s : State) : TrainsMoved s s.serveHeater := by
  unfold State.serveHeater
  cases s.drc.queue with
  | nil => exact .refl s
  | cons x rest =>
    refine .ite ?_ (.refl s)
    cases s.train x.1 with
    | none => exact .refl s
    | some r =>
      refine TrainsMoved.trans ?_ (State.formTrain_moved _ _)
      refine TrainsMoved.trans ?_ (State.writeTrainStep_ordered _ _ _).trains
      refine TrainsMoved.trans ?_ (State.setTrain_moved _ _ _)
      exact .of_drc s rfl

theorem State.switchBeds_moved (s : State) (t : Nat) (r : Train) : TrainsMoved s (s.switchBeds t r) := by
  unfold State.switchBeds
  refine TrainsMoved.trans ?_ (State.serveHeater_moved _)
  refine TrainsMoved.trans ?_ (State.formTrain_moved _ _)
  refine TrainsMoved.trans ?_ (State.writeTrainBed_ordered _ _ _).trains
  exact (s.setTrain_moved t _).trans (TrainsMoved.of_drc _ rfl)

theorem State.switchTest_moved (s : State) (t : Nat) : TrainsMoved s (s.switchTest t) := by
  unfold State.switchTest
  repeat' split
  · exact s.switchBeds_moved t _
  · exact .refl s
  · exact .refl s

theorem State.switchTests_moved (s : State) : TrainsMoved s s.switchTests := by
  unfold State.switchTests
  split
  · exact .of_drc s rfl
  · exact State.forEach_induct (P := TrainsMoved s) (.of_drc s rfl) (fun u t _ h => h.trans (u.switchTest_moved t))

theorem State.resumeSwitchTests_moved (s : State) : TrainsMoved s s.resumeSwitchTests := by
  unfold State.resumeSwitchTests
  split
  · exact s.switchTests_moved
  · exact .refl s

theorem stepHeatingExpiry_moved (s : State) : TrainsMoved s (stepHeatingExpiry s) := by
  unfold stepHeatingExpiry
  refine .ite ?_ (.refl s)
  cases s.drc.heating with
  | none => exact .of_drc s rfl
  | some x =>
    refine TrainsMoved.trans ?_ (State.resumeSwitchTests_moved _)
    refine TrainsMoved.trans ?_ (State.serveHeater_moved _)
    refine TrainsMoved.trans ?_ (State.formTrain_moved _ _)
    refine TrainsMoved.trans ?_ (State.writeTrainStep_ordered _ _ _).trains
    refine TrainsMoved.trans ?_ (State.modTrain_moved _ _ _)
    exact .of_drc s rfl

theorem stepCoolingExpiry_moved (t : Nat) (s : State) : TrainsMoved s (stepCoolingExpiry t s) := by
  unfold stepCoolingExpiry
  cases s.train t with
  | none => exact .refl s
  | some r =>
    refine .ite ?_ (.refl s)
    refine TrainsMoved.trans ?_ (State.resumeSwitchTests_moved _)
    refine TrainsMoved.trans ?_ (State.formTrain_moved _ _)
    refine TrainsMoved.trans ?_ (State.writeTrainStep_ordered _ _ _).trains
    exact s.setTrain_moved t _

theorem State.abortHeating_moved (s : State) : TrainsMoved s s.abortHeating := by
  unfold State.abortHeating
  cases s.drc.heating with
  | none => exact .refl s
  | some x =>
    refine TrainsMoved.trans ?_ (State.formTrain_moved _ _)
    refine TrainsMoved.trans ?_ (State.writeTrainStep_ordered _ _ _).trains
    refine TrainsMoved.trans ?_ (State.modTrain_moved _ _ _)
    exact .of_drc s rfl

theorem State.trainSecond_moved (s : State) (t : Nat) : TrainsMoved s (s.trainSecond t) := by
  unfold State.trainSecond
  split
  · exact .refl s
  · exact (s.setTrain_moved t _).trans (State.formTrain_moved _ _)

theorem State.dryerSecond_moved (s : State) : TrainsMoved s s.dryerSecond := by
  unfold State.dryerSecond
  refine TrainsMoved.trans ?_ (State.switchTests_moved _)
  refine TrainsMoved.trans ?_ (TrainsMoved.of_drc _ rfl)
  exact State.forEach_induct (P := TrainsMoved s) (.refl s) (fun u t _ h => h.trans (u.trainSecond_moved t))

theorem stepOffspecEntry_moved (t : Nat) (s : State) : TrainsMoved s (stepOffspecEntry t s) := by
  unfold stepOffspecEntry
  cases s.train t with
  | none => exact .refl s
  | some r =>
    refine .ite ?_ (.refl s)
    refine TrainsMoved.trans ?_ (State.decideMode_ordered _ _).trains
    exact (s.changeTrain_moved t _ _).trans (State.raise_reported _ _ _).trains

theorem stepOffspecRecovery_moved (t : Nat) (s : State) : TrainsMoved s (stepOffspecRecovery t s) := by
  unfold stepOffspecRecovery
  cases s.train t with
  | none => exact .refl s
  | some r => exact .ite ((s.changeTrain_moved t _ _).trans (State.decideMode_ordered _ _).trains) (.refl s)

end Sys2Proof.Machine
end

