-- ==== Sys2Proof/Laws/Orders.lean ====
section
/-! SUPPORT. What a written order entry holds afterwards (11 R176), what a cavern that leaves its flow looks like
(07 R110), and the bound that R71 sets to a nomination. -/

namespace Sys2Proof.Machine

/-! ### One entry written (11 R176) -/

/-- An offer changes the unsent mark of its entry alone. -/
theorem State.order_offerOrder {s : State} {i : Nat} {e : OrderEntry} (h : s.order i = some e) :
    (s.offerOrder i).order i = some { e with unsent := decide (38 ≤ s.occupancy) } := by
  unfold State.offerOrder
  rw [h]
  simp only
  split
  · next hs =>
    have : decide (38 ≤ s.occupancy) = false := by simp; omega
    rw [this]; exact nth_setNth_self _ h
  · next hs =>
    have : decide (38 ≤ s.occupancy) = true := by simp; omega
    rw [this]; exact nth_setNth_self _ h

theorem State.order_offerOrder_of_ne (s : State) {i k : Nat} (h : k ≠ i) : (s.offerOrder i).order k = s.order k := by
  unfold State.offerOrder
  split
  · split <;> exact nth_setNth_of_ne _ _ h
  · rfl

/-- A written entry holds the value and the present second. -/
theorem State.order_writeOrder {s : State} {i : Nat} {e : OrderEntry} (v : OrderValue) (h : s.order i = some e) :
    (s.writeOrder i v).order i = some ⟨v, s.clk.stationSeconds, decide (38 ≤ s.occupancy)⟩ := by
  unfold State.writeOrder
  rw [h]
  exact State.order_offerOrder (e := { e with value := v, second := s.clk.stationSeconds }) (nth_setNth_self _ h)

theorem State.order_writeOrder_of_ne (s : State) {i k : Nat} (v : OrderValue) (h : k ≠ i) :
    (s.writeOrder i v).order k = s.order k := by
  unfold State.writeOrder
  split
  · exact (State.order_offerOrder_of_ne _ h).trans (nth_setNth_of_ne _ _ h)
  · rfl

theorem State.order_writeOrderIfNew_of_ne (s : State) {i k : Nat} (v : OrderValue) (h : k ≠ i) :
    (s.writeOrderIfNew i v).order k = s.order k := by
  unfold State.writeOrderIfNew
  split
  · split
    · rfl
    · exact s.order_writeOrder_of_ne v h
  · rfl

@[simp] theorem State.order_modCavern (s : State) (j i : Nat) (f : Cavern → Cavern) :
    (s.modCavern j f).order i = s.order i := by
  rcases s.modCavern_eq j f with ⟨c, _, h⟩ | ⟨_, h⟩
  · rw [h]; rfl
  · rw [h]

/-- The valve entry holds what is written, or held it before. -/
theorem State.valveOrder_writeValve (s : State) (j : Nat) : (s.writeValve j .shut).valveOrder j = .shut := by
  unfold State.writeValve
  split
  · assumption
  · next hv =>
    cases h : s.order (valveActuator j) with
    | none => exact absurd (by unfold State.valveOrder; rw [h]) hv
    | some e =>
      unfold State.valveOrder
      rw [State.order_modCavern, State.order_writeOrder _ h]

/-- The rate entry holds what is written, or held it before. -/
theorem State.rateOrder_writeRate_zero (s : State) (j : Nat) : (s.writeRate j 0).rateOrder j = 0 := by
  unfold State.writeRate State.writeOrderIfNew
  cases h : s.order (rateActuator j) with
  | none => simp only; unfold State.rateOrder; rw [h]
  | some e =>
    simp only
    split
    · next hv =>
      obtain ⟨v, sec, u⟩ := e
      subst hv
      unfold State.rateOrder; rw [h]
    · unfold State.rateOrder
      rw [State.order_writeOrder _ h]

/-- Writing a rate leaves the valve entries. -/
theorem State.valveOrder_writeRate (s : State) (j n : Nat) :
    (s.writeRate j n).valveOrder j = s.valveOrder j := by
  unfold State.valveOrder State.writeRate
  rw [State.order_writeOrderIfNew_of_ne]
  unfold valveActuator rateActuator; omega

@[simp] theorem State.valveOrder_modCavern (s : State) (j i : Nat) (f : Cavern → Cavern) :
    (s.modCavern j f).valveOrder i = s.valveOrder i := by
  unfold State.valveOrder; rw [State.order_modCavern]

@[simp] theorem State.rateOrder_modCavern (s : State) (j i : Nat) (f : Cavern → Cavern) :
    (s.modCavern j f).rateOrder i = s.rateOrder i := by
  unfold State.rateOrder; rw [State.order_modCavern]

/-! ### A cavern leaves its flow (07 R110) -/

/-- A change of a configured cavern, as it is read back. -/
theorem State.cavern_modCavern {s : State} {j : Nat} {c : Cavern} (f : Cavern → Cavern) (h : s.cavern j = some c) :
    (s.modCavern j f).cavern j = some (f c) := by
  unfold State.modCavern
  rw [h]
  exact State.cavern_setCavern _ h

/-- An order leaves the caverns. -/
theorem Ordered.cavern {s t : State} (h : Ordered s t) (j : Nat) : t.cavern j = s.cavern j := by
  have hc := congrArg State.cvc h.rest
  exact congrArg (fun l => (nth l j).join) hc

/-- Writing a valve changes at most the disagreement time of its cavern. -/
theorem State.cavern_writeValve {s : State} {j : Nat} {c : Cavern} (v : Valve) (h : s.cavern j = some c) :
    ∃ n, (s.writeValve j v).cavern j = some { c with disagreement := n } := by
  unfold State.writeValve
  split
  · exact ⟨c.disagreement, h⟩
  · exact ⟨0, State.cavern_modCavern _ (((s.writeOrder_ordered _ _).cavern j).trans h)⟩

/-- All that a shut order does to its cavern and its two entries. -/
theorem State.shutCavern_spec {s : State} {j : Nat} {c : Cavern} (h : s.cavern j = some c) :
    (∃ n, (s.shutCavern j).cavern j = some { c with disagreement := n, setPoint := 0 }) ∧
    (s.shutCavern j).valveOrder j = .shut ∧ (s.shutCavern j).rateOrder j = 0 := by
  obtain ⟨n, hv⟩ := State.cavern_writeValve .shut h
  refine ⟨⟨n, State.cavern_modCavern _ (((State.writeRate_ordered _ j 0).cavern j).trans hv)⟩, ?_, ?_⟩
  · unfold State.shutCavern
    rw [State.valveOrder_modCavern, State.valveOrder_writeRate, State.valveOrder_writeValve]
  · unfold State.shutCavern
    rw [State.rateOrder_modCavern, State.rateOrder_writeRate_zero]

/-- The entry to SETTLING takes the settling of R110, and makes PLU due. -/
theorem State.enterSettling_tookSettling {s : State} {j : Nat} {c : Cavern}
    (h : s.cavern j = some c) : tookSettling (s.enterSettling j) j c ∧ (s.enterSettling j).plu.due = true := by
  obtain ⟨⟨n, hc⟩, hv, hr⟩ := State.shutCavern_spec h
  have hx := State.cavern_modCavern (fun c : Cavern =>
    if c.config.settleTime = 0 then { c with state := .idle, settle := none }
    else { c with state := .settling, settle := some (c.config.settleTime * 60) }) hc
  have hv' : (s.enterSettling j).valveOrder j = .shut := by
    rw [← hv]; exact State.valveOrder_modCavern _ _ _ _
  have hr' : (s.enterSettling j).rateOrder j = 0 := by
    rw [← hr]; exact State.rateOrder_modCavern _ _ _ _
  refine ⟨⟨_, hx, ?_⟩, rfl⟩
  rw [hv', hr']
  simp only
  split <;> simp

/-! ### The window of a nomination (05 R71) -/

/-- The end of an edit span is past the next gas day exactly where it lies more hours ahead than that day's end. -/
theorem State.pastNextDay_eq_false {s : State} {first span : Nat} :
    s.pastNextDay first span = false ↔
      hourDiff first s.currentHour + (span - 1) ≤ hourDiff s.nextDayEnd s.currentHour := by
  simp [State.pastNextDay]

end Sys2Proof.Machine
end

