-- ==== Sys2Proof/Laws/PerInstr.lean ====
section
/-! SUPPORT. What holds of every command as it is written, one lemma per command: a well-formed row that is a
request carries a tag of one byte and a known kind, UNKNOWN_KIND apart (11 R172, R182). -/

namespace Sys2Proof.Laws

/-- A well-formed request row sends a request whose tag fits one byte, and whose kind is one of 11 R182 unless
the row is UNKNOWN_KIND. -/
def KnownRequest.Statement (i : Instr) : Prop :=
  i.wf = true → ∀ r, Machine.requestOf i = some r →
    r.tag < 256 ∧ (requestKinds.contains r.body.kind = true ∨
      ∃ k, r.body = .unknown k ∧ requestKinds.contains k = false)

/-- A row that sends a request of a known kind has the property, its tag being one byte. -/
theorem knownRequest_of {i : Instr} {q : Request} (hq : Machine.requestOf i = some q)
    (ht : i.wf = true → isByte q.tag = true) (hk : requestKinds.contains q.body.kind = true) :
    KnownRequest.Statement i := by
  intro hw r hr
  obtain rfl : q = r := Option.some.inj (hq.symm.trans hr)
  exact ⟨of_decide_eq_true (ht hw), .inl hk⟩

/-- A row that sends no request has the property. -/
theorem knownRequest_of_none {i : Instr} (hq : Machine.requestOf i = none) : KnownRequest.Statement i := by
  intro _ r hr
  rw [hq] at hr
  cases hr

theorem KnownRequest.powerOnOrReset (crcAgrees tripActive bsel1 bsel0 : Bool) : KnownRequest.Statement (.powerOnOrReset crcAgrees tripActive bsel1 bsel0) := knownRequest_of_none rfl

theorem KnownRequest.resetAsserted : KnownRequest.Statement (.resetAsserted) := knownRequest_of_none rfl

theorem KnownRequest.tripNAssertion : KnownRequest.Statement (.tripNAssertion) := knownRequest_of_none rfl

theorem KnownRequest.tripNRelease : KnownRequest.Statement (.tripNRelease) := knownRequest_of_none rfl

theorem KnownRequest.secondEvent : KnownRequest.Statement (.secondEvent) := knownRequest_of_none rfl

theorem KnownRequest.minuteEvent : KnownRequest.Statement (.minuteEvent) := knownRequest_of_none rfl

theorem KnownRequest.hourBoundary : KnownRequest.Statement (.hourBoundary) := knownRequest_of_none rfl

theorem KnownRequest.hourCloseBegin : KnownRequest.Statement (.hourCloseBegin) := knownRequest_of_none rfl

theorem KnownRequest.hourCloseComplete : KnownRequest.Statement (.hourCloseComplete) := knownRequest_of_none rfl

theorem KnownRequest.planEvaluationBegin : KnownRequest.Statement (.planEvaluationBegin) := knownRequest_of_none rfl

theorem KnownRequest.planEvaluationComplete : KnownRequest.Statement (.planEvaluationComplete) := knownRequest_of_none rfl

theorem KnownRequest.snapshotWriteBegin : KnownRequest.Statement (.snapshotWriteBegin) := knownRequest_of_none rfl

theorem KnownRequest.snapshotWriteComplete (verifyPasses : Bool) : KnownRequest.Statement (.snapshotWriteComplete verifyPasses) := knownRequest_of_none rfl

theorem KnownRequest.settleTimerExpiry (cavern : Nat) : KnownRequest.Statement (.settleTimerExpiry cavern) := knownRequest_of_none rfl

theorem KnownRequest.valveFault (cavern : Nat) : KnownRequest.Statement (.valveFault cavern) := knownRequest_of_none rfl

theorem KnownRequest.minRunExpiry (unit : Nat) : KnownRequest.Statement (.minRunExpiry unit) := knownRequest_of_none rfl

theorem KnownRequest.minStopExpiry (unit : Nat) : KnownRequest.Statement (.minStopExpiry unit) := knownRequest_of_none rfl

theorem KnownRequest.timeoutExpiry (unit : Nat) : KnownRequest.Statement (.timeoutExpiry unit) := knownRequest_of_none rfl

theorem KnownRequest.startListEntryDrop (unit : Nat) : KnownRequest.Statement (.startListEntryDrop unit) := knownRequest_of_none rfl

theorem KnownRequest.heatingExpiry : KnownRequest.Statement (.heatingExpiry) := knownRequest_of_none rfl

theorem KnownRequest.coolingExpiry (train : Nat) : KnownRequest.Statement (.coolingExpiry train) := knownRequest_of_none rfl

theorem KnownRequest.offspecEntry (train : Nat) : KnownRequest.Statement (.offspecEntry train) := knownRequest_of_none rfl

theorem KnownRequest.offspecRecovery (train : Nat) : KnownRequest.Statement (.offspecRecovery train) := knownRequest_of_none rfl

theorem KnownRequest.statusCountdownExpiry : KnownRequest.Statement (.statusCountdownExpiry) := knownRequest_of_none rfl

theorem KnownRequest.frameReceived (last : Byte) : KnownRequest.Statement (.frameReceived last) := knownRequest_of_none rfl

theorem KnownRequest.parserTimeout : KnownRequest.Statement (.parserTimeout) := knownRequest_of_none rfl

theorem KnownRequest.recordSent : KnownRequest.Statement (.recordSent) := knownRequest_of_none rfl

theorem KnownRequest.unknownKind (tag kind : Nat) : KnownRequest.Statement (.unknownKind tag kind) := by
  intro hw r hr
  obtain rfl := Option.some.inj hr
  simp only [Instr.wf, Bool.and_eq_true, Bool.not_eq_true'] at hw
  exact ⟨of_decide_eq_true hw.1.1, .inr ⟨kind, rfl, hw.2⟩⟩

theorem KnownRequest.setClock (tag gasDay second : Nat) : KnownRequest.Statement (.setClock tag gasDay second) :=
  knownRequest_of rfl (fun h => by simp_all [Instr.wf]) rfl

theorem KnownRequest.stationCommandStart (tag : Nat) : KnownRequest.Statement (.stationCommandStart tag) :=
  knownRequest_of rfl (fun h => by simp_all [Instr.wf]) rfl

theorem KnownRequest.stationCommandPark (tag : Nat) : KnownRequest.Statement (.stationCommandPark tag) :=
  knownRequest_of rfl (fun h => by simp_all [Instr.wf]) rfl

theorem KnownRequest.stationCommandTrip (tag : Nat) : KnownRequest.Statement (.stationCommandTrip tag) :=
  knownRequest_of rfl (fun h => by simp_all [Instr.wf]) rfl

theorem KnownRequest.stationCommandResume (tag : Nat) : KnownRequest.Statement (.stationCommandResume tag) :=
  knownRequest_of rfl (fun h => by simp_all [Instr.wf]) rfl

theorem KnownRequest.stationStatus (tag : Nat) : KnownRequest.Statement (.stationStatus tag) :=
  knownRequest_of rfl (fun h => by simp_all [Instr.wf]) rfl

theorem KnownRequest.configureStation (tag : Nat) (f : Settings) : KnownRequest.Statement (.configureStation tag f) :=
  knownRequest_of rfl (fun h => by simp_all [Instr.wf]) rfl

theorem KnownRequest.sample (tag : Nat) (pairs : List (Nat × Nat)) : KnownRequest.Statement (.sample tag pairs) :=
  knownRequest_of rfl (fun h => by simp_all [Instr.wf]) rfl

theorem KnownRequest.pointQuery (tag first count : Nat) : KnownRequest.Statement (.pointQuery tag first count) :=
  knownRequest_of rfl (fun h => by simp_all [Instr.wf]) rfl

theorem KnownRequest.configureShipperOpen (tag n : Nat) (r : Rights) : KnownRequest.Statement (.configureShipperOpen tag n r) :=
  knownRequest_of rfl (fun h => by simp_all [Instr.wf]) rfl

theorem KnownRequest.configureShipperSet (tag n : Nat) (r : Rights) : KnownRequest.Statement (.configureShipperSet tag n r) :=
  knownRequest_of rfl (fun h => by simp_all [Instr.wf]) rfl

theorem KnownRequest.configureShipperSuspend (tag n : Nat) : KnownRequest.Statement (.configureShipperSuspend tag n) :=
  knownRequest_of rfl (fun h => by simp_all [Instr.wf]) rfl

theorem KnownRequest.configureShipperReactivate (tag n : Nat) : KnownRequest.Statement (.configureShipperReactivate tag n) :=
  knownRequest_of rfl (fun h => by simp_all [Instr.wf]) rfl

theorem KnownRequest.configureShipperClose (tag n : Nat) : KnownRequest.Statement (.configureShipperClose tag n) :=
  knownRequest_of rfl (fun h => by simp_all [Instr.wf]) rfl

theorem KnownRequest.loadBalance (tag n inventory : Nat) : KnownRequest.Statement (.loadBalance tag n inventory) :=
  knownRequest_of rfl (fun h => by simp_all [Instr.wf]) rfl

theorem KnownRequest.transfer (tag source target amount hour : Nat) : KnownRequest.Statement (.transfer tag source target amount hour) :=
  knownRequest_of rfl (fun h => by simp_all [Instr.wf]) rfl

theorem KnownRequest.accountQuery (tag n : Nat) (clear : Bool) : KnownRequest.Statement (.accountQuery tag n clear) :=
  knownRequest_of rfl (fun h => by simp_all [Instr.wf]) rfl

theorem KnownRequest.allocationQuery (tag selector number : Nat) : KnownRequest.Statement (.allocationQuery tag selector number) :=
  knownRequest_of rfl (fun h => by simp_all [Instr.wf]) rfl

theorem KnownRequest.nominate (tag n first span direction quantity : Nat) : KnownRequest.Statement (.nominate tag n first span direction quantity) :=
  knownRequest_of rfl (fun h => by simp_all [Instr.wf]) rfl

theorem KnownRequest.nominationQuery (tag n first : Nat) : KnownRequest.Statement (.nominationQuery tag n first) :=
  knownRequest_of rfl (fun h => by simp_all [Instr.wf]) rfl

theorem KnownRequest.planQuery (tag : Nat) : KnownRequest.Statement (.planQuery tag) :=
  knownRequest_of rfl (fun h => by simp_all [Instr.wf]) rfl

theorem KnownRequest.configureCavern (tag j : Nat) (f : CavernConfig) (invAction : Nat) (value : Int) : KnownRequest.Statement (.configureCavern tag j f invAction value) :=
  knownRequest_of rfl (fun h => by simp_all [Instr.wf]) rfl

theorem KnownRequest.deconfigureCavern (tag j : Nat) : KnownRequest.Statement (.deconfigureCavern tag j) :=
  knownRequest_of rfl (fun h => by simp_all [Instr.wf]) rfl

theorem KnownRequest.cavernModeInService (tag j : Nat) : KnownRequest.Statement (.cavernModeInService tag j) :=
  knownRequest_of rfl (fun h => by simp_all [Instr.wf]) rfl

theorem KnownRequest.cavernModeOutOfService (tag j : Nat) : KnownRequest.Statement (.cavernModeOutOfService tag j) :=
  knownRequest_of rfl (fun h => by simp_all [Instr.wf]) rfl

theorem KnownRequest.abandonSettle (tag j : Nat) : KnownRequest.Statement (.abandonSettle tag j) :=
  knownRequest_of rfl (fun h => by simp_all [Instr.wf]) rfl

theorem KnownRequest.cavernQuery (tag j : Nat) : KnownRequest.Statement (.cavernQuery tag j) :=
  knownRequest_of rfl (fun h => by simp_all [Instr.wf]) rfl

theorem KnownRequest.configureUnit (tag k : Nat) (f : UnitFields) : KnownRequest.Statement (.configureUnit tag k f) :=
  knownRequest_of rfl (fun h => by simp_all [Instr.wf]) rfl

theorem KnownRequest.deconfigureUnit (tag k : Nat) : KnownRequest.Statement (.deconfigureUnit tag k) :=
  knownRequest_of rfl (fun h => by simp_all [Instr.wf]) rfl

theorem KnownRequest.unitModeAvailable (tag k : Nat) : KnownRequest.Statement (.unitModeAvailable tag k) :=
  knownRequest_of rfl (fun h => by simp_all [Instr.wf]) rfl

theorem KnownRequest.unitModeUnavailable (tag k : Nat) : KnownRequest.Statement (.unitModeUnavailable tag k) :=
  knownRequest_of rfl (fun h => by simp_all [Instr.wf]) rfl

theorem KnownRequest.unitModeRelease (tag k : Nat) : KnownRequest.Statement (.unitModeRelease tag k) :=
  knownRequest_of rfl (fun h => by simp_all [Instr.wf]) rfl

theorem KnownRequest.unitQuery (tag k : Nat) : KnownRequest.Statement (.unitQuery tag k) :=
  knownRequest_of rfl (fun h => by simp_all [Instr.wf]) rfl

theorem KnownRequest.configureTrain (tag t : Nat) (f : TrainFields) : KnownRequest.Statement (.configureTrain tag t f) :=
  knownRequest_of rfl (fun h => by simp_all [Instr.wf]) rfl

theorem KnownRequest.deconfigureTrain (tag t : Nat) : KnownRequest.Statement (.deconfigureTrain tag t) :=
  knownRequest_of rfl (fun h => by simp_all [Instr.wf]) rfl

theorem KnownRequest.trainModeInService (tag t : Nat) : KnownRequest.Statement (.trainModeInService tag t) :=
  knownRequest_of rfl (fun h => by simp_all [Instr.wf]) rfl

theorem KnownRequest.trainModeOutOfService (tag t : Nat) : KnownRequest.Statement (.trainModeOutOfService tag t) :=
  knownRequest_of rfl (fun h => by simp_all [Instr.wf]) rfl

theorem KnownRequest.switchBeds (tag t : Nat) : KnownRequest.Statement (.switchBeds tag t) :=
  knownRequest_of rfl (fun h => by simp_all [Instr.wf]) rfl

theorem KnownRequest.trainQuery (tag t : Nat) : KnownRequest.Statement (.trainQuery tag t) :=
  knownRequest_of rfl (fun h => by simp_all [Instr.wf]) rfl

theorem KnownRequest.orderQuery (tag first count : Nat) : KnownRequest.Statement (.orderQuery tag first count) :=
  knownRequest_of rfl (fun h => by simp_all [Instr.wf]) rfl

theorem KnownRequest.alertQuery (tag : Nat) : KnownRequest.Statement (.alertQuery tag) :=
  knownRequest_of rfl (fun h => by simp_all [Instr.wf]) rfl

theorem KnownRequest.alertControl (tag enableSet enableClear pendingClear : Nat) : KnownRequest.Statement (.alertControl tag enableSet enableClear pendingClear) :=
  knownRequest_of rfl (fun h => by simp_all [Instr.wf]) rfl

theorem KnownRequest.linkStatus (tag : Nat) : KnownRequest.Statement (.linkStatus tag) :=
  knownRequest_of rfl (fun h => by simp_all [Instr.wf]) rfl

theorem KnownRequest.linkReset (tag : Nat) : KnownRequest.Statement (.linkReset tag) :=
  knownRequest_of rfl (fun h => by simp_all [Instr.wf]) rfl

theorem KnownRequest.byteReceived (b : Byte) : KnownRequest.Statement (.byteReceived b) := knownRequest_of_none rfl

end Sys2Proof.Laws
end

