-- ==== Sys2Proof/Laws/Records.lean ====
section
/-! SUPPORT. What the record operations do, said once: the condition and the planning capacity that DRC forms, the
guard of a close, and the place of an inserted transfer. -/

namespace Sys2Proof.Machine

/-! ### A train's condition and planning capacity (09 R153) -/

theorem Train.planned_eq (r : Train) (c : Condition) : r.planned c = planningCapacity r.config r.state c := by
  cases hs : r.state <;> cases c <;> simp [Train.planned, planningCapacity, hs]

theorem Train.formed_condition (r : Train) : r.formed.condition = r.formCondition := by
  by_cases h : r.bedA.state = .adsorbing <;>
    simp [Train.formed, Train.formCondition, Train.inLine, Train.bed, otherBed, TrainConfig.bedLimit,
      TrainConfig.switchMg, h]

/-- The two tables of R153 give what DRC forms. -/
theorem Train.formed_eq (r : Train) :
    r.formed = { r with condition := r.formCondition
                        planCap := planningCapacity r.config r.state r.formCondition } := by
  rw [← Train.planned_eq, ← Train.formed_condition]; rfl

/-- Forming changes the condition and the planning capacity, and nothing else. -/
@[simp] theorem Train.formed_config (r : Train) : r.formed.config = r.config := by rw [Train.formed_eq]
@[simp] theorem Train.formed_state (r : Train) : r.formed.state = r.state := by rw [Train.formed_eq]
@[simp] theorem Train.formed_bedA (r : Train) : r.formed.bedA = r.bedA := by rw [Train.formed_eq]
@[simp] theorem Train.formed_bedB (r : Train) : r.formed.bedB = r.bedB := by rw [Train.formed_eq]
@[simp] theorem Train.formed_cooling (r : Train) : r.formed.cooling = r.cooling := by rw [Train.formed_eq]

/-- What only reports keeps every block but the alert set and the link. -/
theorem Reported.keeps {s t : State} (h : Reported s t) : { t with als := s.als, slk := s.slk } = s := by
  have e := congrArg State.slk h.rest
  calc { t with als := s.als, slk := s.slk }
      = { t with als := s.als, slk := { t.slk with tx := s.slk.tx } } := by rw [← e]
    _ = s := h.rest

/-- Forming a train again writes its formed record, and otherwise only reports and makes PLU due. -/
theorem State.formTrain_eq (s : State) (t : Nat) (r : Train) (h : s.train t = some r) :
    { s.formTrain t with plu := s.plu, als := s.als, slk := s.slk } = s.setTrain t (some r.formed) := by
  have key : ∀ u, Reported (s.setTrain t (some r.formed)) u →
      { u with plu := s.plu, als := s.als, slk := s.slk } = s.setTrain t (some r.formed) := fun u hu =>
    congrArg (fun x : State => { x with plu := s.plu }) hu.keeps
  have due : ∀ u : State, { u.makePlanDue with plu := s.plu, als := s.als, slk := s.slk } =
      { u with plu := s.plu, als := s.als, slk := s.slk } := fun _ => rfl
  simp only [State.formTrain, h, ← Train.formed_eq]
  repeat' split
  all_goals first
    | exact key _ (State.raise_reported _ _ _)
    | exact (due _).trans (key _ (State.raise_reported _ _ _))
    | rfl

/-! ### A restored train (01 R17) -/

theorem restoreBed_eq (x : BedRecord) :
    restoreBed x = { x with state := if x.state = .heating ∨ x.state = .cooling then .spent else x.state } := by
  cases x with | mk st l => cases st <;> rfl

/-- A restored train is its adjusted record with the condition and the planning capacity of R153. -/
theorem restoreTrain_eq (r : SnapTrain) :
    restoreTrain r = Train.formed
      { config := r.config, state := if r.state = .offline then .offline else .standby
        bedA := restoreBed r.bedA, bedB := restoreBed r.bedB, remainder := 0, cooling := none, aboveSpec := 0
        inSpec := 0, condition := .normal, lastRegen := none, planCap := 0 } := by
  have h : restoredTrainState r.state = if r.state = .offline then .offline else .standby := by
    cases r.state <;> rfl
  rw [Train.formed_eq, ← h]; rfl

/-! ### The guard of a close (10 R165) -/

/-- The guard: the use share is reduced first and only then the allocation raised, or the allocation is cut at the
top, or nothing is changed. -/
theorem guard_cases (x : Nat) (a : Int) (u : Nat) :
    let g := guard x a u
    let new : Int := x + a - u
    (new < 0 ∧ g = ⟨a + ((new.natAbs - u : Nat) : Int), u - new.natAbs, new.natAbs, true, 0⟩) ∨
    ((maxInventory : Int) < new ∧ g = ⟨a - (new - maxInventory), u, maxInventory - new, false, maxInventory⟩) ∨
    (0 ≤ new ∧ new ≤ maxInventory ∧ g = ⟨a, u, 0, false, new.toNat⟩) := by
  intro g new
  by_cases h1 : new < 0
  · refine .inl ⟨h1, ?_⟩
    by_cases h2 : new.natAbs ≤ u
    · have : new.natAbs - u = 0 := by omega
      simp [g, guard, new, h1, h2, this]
    · have : u - new.natAbs = 0 := by omega
      simp [g, guard, new, h1, h2, this]
  · by_cases h2 : (maxInventory : Int) < new
    · refine .inr (.inl ⟨h2, ?_⟩)
      have e : ((new - (maxInventory : Int)).natAbs : Int) = new - maxInventory := by omega
      simp only [g, guard, if_neg h1, if_pos h2, e, new]
      congr 1; omega
    · exact .inr (.inr ⟨by omega, by omega, by simp only [g, guard, if_neg h1, if_neg h2, new]⟩)

/-- The inventory the guard leaves is what the books then give, and lies within its bounds; the adjustment is the
change of allocation less use. -/
theorem guard_books (x : Nat) (a : Int) (u : Nat) :
    let g := guard x a u
    (g.inventory : Int) = x + g.alloc - (g.use : Int) ∧ g.inventory ≤ maxInventory ∧
    g.adjustment = (g.alloc - (g.use : Int)) - (a - (u : Int)) := by
  intro g
  obtain ⟨h, e⟩ | ⟨h, e⟩ | ⟨h, h', e⟩ := guard_cases x a u <;> simp only [g, e] <;> omega

/-! ### The pending transfer list (04 R62) -/

/-- An inserted transfer, all that it does: the list is cut after its last entry with an equal or earlier hour, and the
transfer stands there, at its position. -/
theorem insertTransfer_spec (t : Transfer) (list : List Transfer) :
    ∃ before after, list = before ++ after ∧ insertTransfer t list = before ++ t :: after ∧
      insertPosition t list = before.length + 1 ∧
      (∀ x, before.getLast? = some x → hourAtOrBefore x.hour t.hour = true) ∧
      (∀ x ∈ after, hourAtOrBefore x.hour t.hour = false) := by
  induction list with
  | nil => exact ⟨[], [], rfl, rfl, rfl, by simp, by simp⟩
  | cons y ys ih =>
    by_cases h : (y :: ys).any (fun x => hourAtOrBefore x.hour t.hour) = true
    · obtain ⟨before, after, rfl, hi, hp, hl, ha⟩ := ih
      refine ⟨y :: before, after, rfl, ?_, ?_, ?_, ha⟩
      · simpa [insertTransfer, entriesBefore, h] using hi
      · simpa [insertPosition, entriesBefore, h] using hp
      · intro x hx
        cases before with
        | nil =>
          obtain rfl : y = x := by simpa using hx
          have hy : hourAtOrBefore y.hour t.hour = true ∨ ∃ z ∈ after, hourAtOrBefore z.hour t.hour = true := by
            simpa using h
          exact hy.resolve_right fun ⟨z, hz, he⟩ => by simp [ha z hz] at he
        | cons z zs => exact hl x (by simpa using hx)
    · refine ⟨[], y :: ys, rfl, ?_, ?_, by simp, ?_⟩
      · simp [insertTransfer, entriesBefore, h]
      · simp [insertPosition, entriesBefore, h]
      · simpa using h

end Sys2Proof.Machine
end

