-- ==== Sys2Proof/Tests/Slice0.lean ====
section
/-! SUPPORT. Tests: ill-formed commands that WellFormed refuses, the worked examples of the spec, one small step of
each kind of command, and for every obligation with hypotheses a state and operands that meet them together. -/

open Sys2Proof Sys2Proof.Machine

namespace Sys2Proof.Tests

/-! ### Small states -/

/-- The state after a command (every command answers a next state). -/
def after (c : Instr) (s : State) : State :=
  match exec c s with
  | .next t => t
  | .fault _ => s
  | .refused _ => s

/-- A GOOD point. -/
def good (v : Nat) : Point := ⟨v, 0, .good, false⟩

/-- The window, margin, ramp and limit of 7.9, with settle time and travel time of 7.11. -/
def cavernSet : CavernConfig := ⟨12000, 22000, 1000, 200, 40000, 40000, 30, 2, 120⟩

def cav (st : CavernState) (last : Option Dir) : Cavern :=
  { restoreCavern ⟨cavernSet, st, 0, last, 0⟩ with state := st }

/-- Unit 1 of 8.12. -/
def unitSet : UnitConfig := ⟨30000, 12000, 3, 1800, 900, 300, 3, 90⟩

def cmp (st : UnitState) : Compressor := { restoreUnit ⟨unitSet, st, 0, 0⟩ with state := st }

/-- The train of 9.10, with the 2,000 kg bed. -/
def trainSet : TrainConfig := ⟨400000, 2000, 85, 50, 240, 120, 1500, 50, 1500, 120⟩

def trn (st : TrainState) (a b : BedState) : Train :=
  { restoreTrain ⟨trainSet, st, ⟨a, 0⟩, ⟨b, 0⟩⟩ with
      state := st, bedA := ⟨a, 0⟩, bedB := ⟨b, 0⟩, planCap := planningCapacity trainSet st .normal }

/-- An ACTIVE account whose imbalance stands at its limit. -/
def acct (inventory : Nat) : Account :=
  { Account.vacant with
      state := .active, rights := ⟨8000000, 1000000, 1000000, 500⟩, inventory := inventory, imbalance := -500 }

/-- A station in hour 9,895 with one cavern, one unit and one train, nothing due, and books that agree. -/
def plant (st : StationState) : State :=
  { State.reset with
      clk := ⟨true, 412, 25230, 5000, 0, false, false⟩
      sts := ⟨st, false, false⟩
      smt := ((State.reset.smt.set 6 (good 17000)).set 7 (good 0)).set 29 (good 0)
      act := ⟨acct 1000 :: List.replicate 15 Account.vacant, 0, []⟩
      cvc := some { cav .idle none with booked := 1000 } :: List.replicate 7 none
      cdu := ⟨some (cmp .ready) :: List.replicate 5 none, true⟩
      drc := { State.reset.drc with trains := [some (trn .standby .adsorbing .ready), none] } }

/-- A plan in force. -/
def planned (s : State) (d : Option Dir) (target : Nat) : State :=
  { s with plu := ⟨some ⟨9895, 1, d, 0, target, target, target, target, target, true, .none, 0, 0, 3600⟩,
                   s.plu.due, s.plu.eval⟩ }

/-- Bed B of train 1 is HEATING. -/
def heated (s : State) : State :=
  { s with drc := { s.drc with trains := [some (trn .standby .adsorbing .heating), none], heating := some (1, .b)
                               heatingTimer := some 100, rate := 1500, volume := 7 } }

/-- Bed B of train 1 is SPENT and waits. -/
def waiting (s : State) : State :=
  { s with drc := { s.drc with trains := [some (trn .standby .adsorbing .spent), none], queue := [(1, .b)] } }

/-- Two caverns flow, one with a settle time and one without. -/
def flowing (s : State) : State :=
  let quick : Cavern := { cav .withdrawing (some .withdraw) with config := { cavernSet with settleTime := 0 } }
  { s with cvc := some (cav .injecting (some .inject)) :: some quick :: List.replicate 6 none }

/-- A record of no meaning, to fill the transmit queue. -/
def filler : Record := ⟨0x84, 0, []⟩

/-- The transmit queue holds `n` records. -/
def loaded (n : Nat) (s : State) : State := { s with slk := { s.slk with tx := List.replicate n filler } }

/-- `n` requests wait. -/
def asked (n : Nat) (s : State) : State :=
  { s with slk := { s.slk with rx := List.replicate n ⟨1, .alertQuery⟩ } }

def parsing (p : Parser) (s : State) : State := { s with slk := { s.slk with parser := p } }

/-- A close of hour 9,894 is in flight. -/
def closing (s : State) : State := { s with hcu := { s.hcu with close := some (s.closeFigures (s.handOver 9894)) } }

/-- An evaluation of the current hour is in flight. -/
def evaluating (s : State) : State := { s with plu := { s.plu with eval := some s.gather } }

/-- The plant with the cavern, the unit or the train replaced. -/
def withCavern (s : State) (c : Cavern) : State := s.setCavern 1 (some c)
def withUnit (s : State) (u : Compressor) : State := s.setUnit 1 (some u)
def withTrain (s : State) (r : Train) : State := s.setTrain 1 (some r)

/-- A command at the front of the queue. -/
def queued (c : Instr) (s : State) : State := { s with pending := [c] }

/-! ### WellFormed refuses -/

theorem test_wf_tag : (Instr.stationStatus 256).wf = false := by decide
theorem test_wf_cavern_number : (Instr.settleTimerExpiry 9).wf = false := by decide
theorem test_wf_unit_number : (Instr.minRunExpiry 7).wf = false := by decide
theorem test_wf_train_number : (Instr.coolingExpiry 0).wf = false := by decide
theorem test_wf_known_kind : (Instr.unknownKind 0 0x2D).wf = false := by decide
theorem test_wf_gas_day : (Instr.setClock 0 65536 0).wf = false := by decide
theorem test_wf_second : (Instr.setClock 0 0 (2 ^ 32)).wf = false := by decide
theorem test_wf_setting : (Instr.configureStation 0 { blankSettings with defaultCv := 65536 }).wf = false := by decide
theorem test_wf_limit :
    (Instr.configureStation 0 { blankSettings with
      limits := { blankSettings.limits with water := ⟨65536, 1⟩ } }).wf = false := by decide
theorem test_wf_pairs : (Instr.sample 0 (List.replicate 50 (0, 0))).wf = false := by decide
theorem test_wf_pair_point : (Instr.sample 0 [(256, 0)]).wf = false := by decide
theorem test_wf_rights : (Instr.configureShipperOpen 0 1 ⟨2 ^ 64, 0, 0, 0⟩).wf = false := by decide
theorem test_wf_inventory : (Instr.loadBalance 0 1 (2 ^ 64)).wf = false := by decide
theorem test_wf_booked : (Instr.configureCavern 0 1 cavernSet 1 (2 ^ 63)).wf = false := by decide
theorem test_wf_cavern_field : (Instr.configureCavern 0 1 { cavernSet with maxReversals := 256 } 0 0).wf = false := by
  decide
theorem test_wf_unit_field : (Instr.configureUnit 0 1 { UnitFields.absent with stopBand := some 256 }).wf = false := by
  decide
theorem test_wf_train_field : (Instr.configureTrain 0 1 { TrainFields.absent with regenRate := some 65536 }).wf = false :=
  by decide
theorem test_wf_accepts : (Instr.sample 255 (List.replicate 49 (255, 2 ^ 32 - 1))).wf = true := by decide

/-! ### Bytes of the line -/

/-- 11 R172: the ASCII bytes "123456789" give 0x29B1. -/
theorem test_crc_vector : crc16 [0x31, 0x32, 0x33, 0x34, 0x35, 0x36, 0x37, 0x38, 0x39] = 0x29B1 := by
  decide +kernel

/-- A STATION COMMAND TRIP written out by the codes of 11 R182. -/
theorem test_decode_station_command : decodeRequest 0x02 7 [2] = ⟨7, .stationCommand 2⟩ := by decide

/-- SET CLOCK: gas day 412 = 0x019C and second 25,200 = 0x6270, the high byte first. -/
theorem test_decode_set_clock :
    decodeRequest 0x01 1 [0x01, 0x9C, 0x00, 0x00, 0x62, 0x70] = ⟨1, .setClock 412 25200⟩ := by decide

/-- NOMINATE: shipper 1, first hour 9,900 = 0x26AC, span 12, INJECT, 40,000 = 0x9C40. -/
theorem test_decode_nominate :
    decodeRequest 0x10 1 [1, 0, 0, 0x26, 0xAC, 12, 0, 0, 0, 0x9C, 0x40] = ⟨1, .nominate 1 9900 12 0 40000⟩ := by
  decide

/-- SAMPLE: two pairs of 5 bytes. -/
theorem test_decode_sample :
    decodeRequest 0x05 9 [6, 0, 0, 0x2E, 0xE0, 7, 0, 0, 0, 1] = ⟨9, .sample [(6, 12000), (7, 1)]⟩ := by decide

/-- A request of the wrong length is malformed, and an unknown kind is known for what it is (11 R174). -/
theorem test_decode_refuses :
    decodeRequest 0x02 7 [] = ⟨7, .malformed 0x02⟩ ∧ decodeRequest 0x07 7 [] = ⟨7, .unknown 0x07⟩ := by
  decide

/-- The table gives no row any bits. -/
theorem test_no_table_word : decodeTableWord 32 0 = none := rfl

/-! ### Worked examples of the spec -/

/-- 6.6: the four cases of the share procedure. -/
theorem test_shares :
    shareOut 87334 [400000, 250000] = ⟨[53744, 33590], 0⟩ ∧ shareOut 10 [3, 3, 1] = ⟨[4, 4, 2], 0⟩ ∧
    shareOut 5 [1, 1, 1] = ⟨[2, 2, 1], 0⟩ ∧ shareOutCapped 5 [1, 1, 1] [1, 2, 2] = ⟨[1, 2, 1], 1⟩ := by
  decide

/-- 3.6: two seconds of 600,000 sm³/h at 40,000. -/
theorem test_meter_two_seconds :
    Acc.add ⟨0, 0⟩ 24000000000 = ⟨1851851, 11040⟩ ∧
    Acc.add ⟨0, 11040⟩ 24000000000 = ⟨1851852, 9120⟩ := by decide

/-- 3.7: the meter goes quiet; second a has both points, second c has the plan and the default. -/
theorem test_meter_quiet :
    Acc.add ⟨0, 0⟩ (45200 * 39850) = ⟨138983, 320⟩ ∧
    (let s := planned (plant .running) (some .inject) 45000
     let s := { s with mtu := { s.mtu with injection := ⟨0, 1040⟩ } }
     (s.meterAfter.injection, s.meterAfter.estimated, s.meterAfter.cvDefault) = (⟨138888, 12560⟩, 1, 1)) := by
  decide +kernel

/-- 3.8: the last second of hour 9,895. -/
theorem test_meter_last_second :
    let s := heated (plant .running)
    let s := { s with smt := (((s.smt.set 0 (good 480000)).set 1 (good 1)).set 2 (good 39600)).set 3 (good 4800)
                      mtu := ⟨⟨490879800, 5000⟩, ⟨312, 7200⟩, ⟨3199655, 10000⟩, ⟨2589645, 6000⟩, ⟨610007, 2000⟩, 0, 0⟩ }
    let m := s.meterAfter
    m = ⟨⟨492346467, 680⟩, ⟨312, 7200⟩, ⟨3218905, 10000⟩, ⟨2604312, 1680⟩, ⟨614590, 6320⟩, 0, 0⟩ ∧
    m.newHour = ⟨⟨467, 680⟩, ⟨312, 7200⟩, ⟨905, 10000⟩, ⟨312, 1680⟩, ⟨590, 6320⟩, 0, 0⟩ := by decide +kernel

/-- Applying a list of edits to an empty partition. -/
def edits (es : List (Nat × Nat × Dir × Nat)) : List NomEntry :=
  es.foldl (fun p e => editEntries p ⟨e.1, e.2.1, e.2.2.1, e.2.2.2⟩) []

/-- 5.7, steps 1, 2 and 4. -/
theorem test_edits_cut :
    edits [(9900, 12, .inject, 40000), (9904, 3, .withdraw, 25000), (9912, 6, .inject, 40000),
           (9903, 5, .withdraw, 25000)] =
      [⟨9900, 3, .inject, 40000⟩, ⟨9903, 5, .withdraw, 25000⟩, ⟨9908, 10, .inject, 40000⟩] := by decide

/-- 5.7, steps 5, 6 and 9, from step 4. -/
theorem test_edits_join :
    let four : List NomEntry := [⟨9900, 3, .inject, 40000⟩, ⟨9903, 5, .withdraw, 25000⟩, ⟨9908, 10, .inject, 40000⟩]
    let five := editEntries four ⟨9903, 5, .inject, 0⟩
    let six := editEntries five ⟨9903, 5, .inject, 40000⟩
    five = [⟨9900, 3, .inject, 40000⟩, ⟨9908, 10, .inject, 40000⟩] ∧ six = [⟨9900, 18, .inject, 40000⟩] ∧
    editEntries six ⟨9918, 18, .inject, 40000⟩ = [⟨9900, 36, .inject, 40000⟩] := by decide

/-- 7.9: the ramp and the cap of cavern 4. -/
theorem test_cap :
    let c := { cav .withdrawing (some .withdraw) with
                 ring := List.replicate 10 none ++ some 12580 :: List.replicate 49 none ++ [some 12430] }
    let s := (plant .running).setPoint (pressurePoint 4) (good 12430)
    rampOf c.ring = 180 ∧ c.rampedLimit .withdraw = 20000 ∧ s.formCap 4 c .withdraw = 8600 ∧
    announced 8600 9000 40000 = false := by decide

/-- The five caverns of 7.10, their withdrawal caps as formed. -/
def fiveCaverns (target : Nat) : State :=
  let c (st : CavernState) (last : Option Dir) (count cap : Nat) : Option Cavern :=
    some { cav st last with reversals := count, capWithdraw := cap }
  { planned (plant .running) (some .withdraw) target with
      cvc := [c .withdrawing (some .withdraw) 0 40000, c .idle (some .withdraw) 0 18000, c .idle (some .inject) 1 30000,
              c .settling (some .inject) 1 0, c .offline none 0 0, none, none, none] }

/-- 7.10: a split that avoids a reversal, and one that cannot. -/
theorem test_split :
    (fiveCaverns 50000).splitShares = [34483, 15517, 0, 0, 0, 0, 0, 0] ∧
    (fiveCaverns 70000).splitShares = [31818, 14318, 23864, 0, 0, 0, 0, 0] ∧
    (let t := (fiveCaverns 70000).runSplit
     (t.cavern 3).map (fun c => (c.state, c.reversals, c.setPoint)) = some (.withdrawing, 2, 23864) ∧
     (t.alert .reversalLimit).pending = true ∧ (t.alert .reversalLimit).object = 3) := by decide

/-- 7.12: a volume carries its remainder. -/
theorem test_volume : addVolume 26517 3000 4200 = (26519, 0) ∧ addVolume 0 0 26520 = (7, 1320) := by decide

/-- 8.11: the compression requirement. -/
theorem test_requirement :
    let c (st : CavernState) (empty : Bool) : Option Cavern := some { cav st none with empty := empty }
    let s := { plant .running with
                 cvc := [c .idle false, c .withdrawing false, c .settling true, c .offline false, none, none, none, none]
                 cdu := { (plant .running).cdu with required := false }
                 smt := ((((State.reset.smt.set 4 (good 6800)).set 6 (good 9450)).set 9 ⟨7120, 20, .held, false⟩).set 12
                   (good 6000)).set 15 (good 5200) }
    s.testRequirement.cdu.required = true ∧ s.testRequirement.plu.due = true ∧
    (s.setPoint 9 (good 7310)).testRequirement.cdu.required = false := by decide

/-- The three units of 8.12, under a need. -/
def threeUnits (need : Nat) (a b c : UnitState) : State :=
  let u (cap flow wear : Nat) (st : UnitState) : Option Compressor :=
    some { cmp st with config := { unitSet with capacity := cap, minFlow := flow }, runSeconds := wear }
  { planned (plant .running) (some .inject) need with
      cdu := ⟨[u 30000 12000 12000000 a, u 25000 10000 9500000 b, u 30000 12000 11000000 c, none, none, none], true⟩ }

/-- The states and loads of the three units. -/
def unitsNow (s : State) : List (Option (UnitState × Nat)) := [1, 2, 3].map (fun k => (s.unit k).map (fun u => (u.state, u.load)))

/-- 8.12, steps 1 and 3: the starts. -/
theorem test_duty_starts :
    unitsNow (threeUnits 20000 .ready .ready .ready).evaluateDuty =
      [some (.ready, 0), some (.starting, 0), some (.ready, 0)] ∧
    unitsNow (threeUnits 50000 .ready .running .ready).evaluateDuty =
      [some (.ready, 0), some (.running, 25000), some (.starting, 0)] := by decide

/-- 8.12, steps 5 and 6, and the need of 23,000: the stop band. -/
theorem test_duty_stops :
    unitsNow (threeUnits 30000 .ready .running .running).evaluateDuty =
      [some (.ready, 0), some (.running, 15000), some (.running, 15000)] ∧
    unitsNow (threeUnits 20000 .ready .running .running).evaluateDuty =
      [some (.ready, 0), some (.running, 20000), some (.stopping, 0)] ∧
    unitsNow (threeUnits 23000 .ready .running .running).evaluateDuty =
      [some (.ready, 0), some (.stopping, 0), some (.running, 23000)] := by decide

/-- 9.10: seconds 1 and 6, and the second the silent inlet is taken at its design value. -/
theorem test_loading :
    let r := trn .online .adsorbing .ready
    let add (q f w : Nat) : Nat × Nat :=
      let x := { r with remainder := q }.addWater f w
      (x.bedA.loading, x.remainder)
    add 0 300000 1150 = (95833, 1200) ∧ add 2400 300000 1150 = (95834, 0) ∧ add 0 300000 1460 = (121666, 2400) ∧
    add 0 400000 1450 = (161111, 400) := by decide

/-- 9.10: the water removed with both water points silent, and the flow of a silent train whose mode is ONLINE. -/
theorem test_loading_defaults :
    let s := (plant .running).writeTrainMode 1 .online
    s.waterRemoved 1 (trn .online .adsorbing .ready) = 1450 ∧
    s.trainFlow 1 (trn .online .adsorbing .ready) = 400000 := by decide

/-- A close of three ACTIVE shippers. -/
def closeOf (hour inj wd use tolerance : Nat) (ships : List (Nat × Option Dir × Nat)) (vols : List (Nat × Nat))
    (ts : List Transfer) : CloseFigures :=
  { hand := ⟨hour, inj, wd, use, 0, 0, 0, 0, vols.map some⟩
    shippers := ships.map (fun x => some ⟨.active, x.1, some ⟨hour, x.2.1, x.2.2, x.2.2, .confirmed⟩, 8000000⟩)
    transfers := ts, tolerance := tolerance, first := false }

/-- Deviation share, use share, guard adjustment, allocation and new inventory of each shipper. -/
def linesOf (r : CloseResult) : List (Option (Int × Nat × Int × Int × Nat)) :=
  r.shippers.map (fun x => x.map (fun x =>
    (x.line.deviationShare, x.line.useShare, x.line.guardAdjustment, x.line.allocated, x.inventory)))

/-- 10.6: an injecting hour. -/
theorem test_close_injecting :
    let r := (closeOf 9895 492346 0 3218 5
      [(5000000, some .inject, 400000), (1200000, some .inject, 250000), (180000, some .withdraw, 150000)]
      [(26500, 0), (17600, 0)] []).allocate
    linesOf r = [some (-4710, 1980, 0, 395290, 5393310), some (-2944, 1238, 0, 247056, 1445818),
                 some (0, 0, 0, -150000, 30000)] ∧
    (r.record.net, r.record.deviation, r.record.residue, r.record.guardTotal, r.record.stationChange) =
      (500000, -7654, 0, 0, 0) ∧
    r.caverns.map (fun c => c.map (·.posting)) = [some 293920, some 195208] := by decide

/-- 10.7: a withdrawing hour with a failed transfer and an overrun. -/
theorem test_close_withdrawing :
    let r := (closeOf 9896 0 73000 900 10
      [(60000, some .withdraw, 50000), (30500, some .withdraw, 30000), (0, some .inject, 10000)]
      [(0, 40000), (0, 35000), (1200, 0)] [⟨2, 3, 1000, 9896⟩, ⟨1, 2, 100000, 9896⟩]).allocate
    linesOf r = [some (-1875, 563, 0, -51875, 7562), some (-1125, 0, 1962, -29500, 0), some (0, 0, 0, 10000, 11000)] ∧
    (r.record.net, r.record.deviation, r.record.guardTotal, r.record.stationChange, r.failed) =
      (-70000, -3000, 1962, -1962, [1]) ∧
    r.caverns.map (fun c => c.map (·.posting)) = [some (-39413), some (-34487), some 0] := by decide

/-! ### Witnesses: a state and operands that meet the hypotheses of each obligation -/

theorem witness_StepTakesFrontCommand : State.reset.pending = [] := rfl

/-- A part held in reset. -/
def held : State := after .resetAsserted (plant .parked)

theorem witness_EveryCommandAnswersNextState :
    held.sts.inReset = true ∧ (∀ a b d e, Instr.secondEvent ≠ .powerOnOrReset a b d e) ∧
    ownSteps .minuteEvent = true ∧ ownSteps (.offspecRecovery 2) = true ∧ (plant .running).quiet = true :=
  ⟨by decide, by simp, rfl, rfl, by decide⟩

/-- A state that keeps every law, with a second event to come. -/
def lawful : State := queued .secondEvent (waiting (asked 8 (loaded 48 (plant .tripped))))

theorem witness_laws :
    lawful.shaped = true ∧ lawful.orderLaw = true ∧ lawful.queueLaw = true ∧ lawful.imbalanceLaw = true ∧
    lawful.heaterLaw = true ∧ lawful.pointLaw = true ∧ lawful.nominationLaw = true ∧ lawful.booksLaw = true := by
  decide

theorem witness_laws_step : ∃ t, step lawful = .next t := ⟨_, rfl⟩

/-- The same laws, while the station runs and a close is in flight. -/
theorem witness_laws_running :
    let s := closing (heated (flowing (plant .running)))
    let s := { s with act := { s.act with station := -1000 } }
    s.shaped = true ∧ s.orderLaw = true ∧ s.heaterLaw = true ∧ s.pointLaw = true ∧ s.booksLaw = true := by
  decide

theorem witness_RequestFramesAreReadBack :
    let c := Instr.sample 7 (List.replicate 16 (40, 2 ^ 32 - 1))
    let r : Request := ⟨7, .sample (List.replicate 16 (40, 2 ^ 32 - 1))⟩
    c.wf = true ∧ requestOf c = some r ∧ (List.replicate 248 (0 : Byte)).length ≤ 248 ∧
    (Instr.configureCavern 0 8 cavernSet 1 (-(2 ^ 63))).wf = true ∧
    requestOf (.linkReset 255) = some ⟨255, .linkReset⟩ := by decide +kernel

/-- A parser in each of its states, in a quiet part; the check of the bytes 2, 3, 7 (STATION STATUS, tag 7). -/
theorem witness_ParserTakesBytesByState :
    (∀ p ∈ [Parser.hunt, .length, .body 1 [3, 3], .body 2 [3], .check1 [2, 3, 7], .check2 [2, 3, 7] 0],
      (parsing p (plant .parked)).quiet = true ∧ (parsing p (plant .parked)).receptive = true) ∧
    crc16 [2, 3, 7] = 0x87 * 256 + 0x48 ∧ crc16 [2, 3, 7] ≠ 0x87 * 256 + 0x49 ∧
    (asked 8 (loaded 48 (plant .parked))).quiet = true ∧ (asked 7 (loaded 48 (plant .parked))).quiet = true ∧
    (∃ t, exec .resetAsserted (plant .parked) = .next t) ∧ (∃ t, exec (.linkReset 1) (plant .parked) = .next t) :=
  ⟨by decide, by decide, by decide, by decide, by decide, ⟨_, rfl⟩, ⟨_, rfl⟩⟩

/-- A held ACCOUNT QUERY waits behind a close, with 39 records to send, and a STATION STATUS behind it. -/
def heldQuery (waits : List HandOver) : State :=
  let s := loaded 39 (closing (plant .running))
  { s with hcu := { s.hcu with handOvers := waits }
           slk := { s.slk with rx := [⟨1, .accountQuery 1 false⟩, ⟨2, .stationStatus⟩] } }

theorem witness_CloseHoldsTheAccountRequests :
    requestOf (.accountQuery 1 0 true) = some ⟨1, .accountQuery 0 true⟩ ∧
    (ReqBody.accountQuery 0 true).kind ∈ [0x0B, 0x0C, 0x08, 0x09, 0x0A, 0x10, 0x11, 0x18] ∧
    requestOf (.linkReset 1) = some ⟨1, .linkReset⟩ ∧
    ReqBody.linkReset.kind ∉ [0x0B, 0x0C, 0x08, 0x09, 0x0A, 0x10, 0x11, 0x18] ∧
    (closing (plant .parked)).receptive = true ∧ (closing (plant .parked)).hcu.close.isSome = true ∧
    (∀ waits ∈ [[], [(plant .running).handOver 9895]],
      let s := heldQuery waits
      s.quiet = true ∧ s.shaped = true ∧ s.hcu.close.isSome = true ∧ s.hcu.handOvers = waits ∧ s.slk.tx.length < 40 ∧
      s.slk.rx = [⟨1, .accountQuery 1 false⟩, ⟨2, .stationStatus⟩]) := by
  decide

/-- A part held in reset with a store. -/
def heldWith (st : SnapState) (c : Option Snapshot) : State := { held with sns := ⟨st, false, c, none⟩ }

theorem witness_ResetWithoutSnapshotStartsBlank :
    (heldWith .empty none).sts.inReset = true ∧ (heldWith .empty none).sns.state ≠ .valid ∧
    (heldWith .valid (some (plant .parked).snapshot)).sts.inReset = true ∧
    { plant .parked with sns := ⟨.writing, true, none, some (plant .parked).snapshot⟩ }.quiet = true ∧
    (plant .running).sts.inReset = false ∧ (plant .running).quiet = true := by
  decide

/-- The snapshot of a TRIPPED station with a SPENT bed. -/
theorem witness_ReleaseWithSnapshotRestores :
    let c := (waiting (plant .tripped)).snapshot
    let s := heldWith .valid (some c)
    s.sts.inReset = true ∧ s.sns.state = .valid ∧ s.sns.content = some c ∧ c.shaped = true ∧
    (nth c.trains 1).join.isSome = true ∧ (nth c.trains 2).join = none ∧
    (after (.powerOnOrReset true false false false) s).drc.heating = some (1, .b) ∧
    (after (.powerOnOrReset true true false false) s).drc.heating = none := by decide +kernel

theorem witness_TripPinIsRecorded :
    State.reset.quiet = true ∧ State.reset.sts.tripActive = false ∧ State.reset.sts.state = .blank ∧
    (plant .tripped).receptive = true ∧ (plant .tripped).sts.state = .tripped ∧
    (let s := { plant .parked with sts := ⟨.parked, true, false⟩ }
     s.quiet = true ∧ s.sts.tripActive = true) := by decide

/-- Two caverns flow, bed B of train 1 is HEATING, train 2 is ONLINE, and a unit runs whose feedback shows STOPPED,
then RUNNING. -/
theorem witness_TripEntryMakesTheStationSafe :
    (∀ v ∈ [0, 1],
      let s := withUnit ((heated (flowing (plant .running))).setTrain 2 (some (trn .online .ready .adsorbing)))
        (cmp .running)
      let s := s.setPoint 29 (good v)
      s.shaped = true ∧ s.heaterLaw = true ∧ s.sts.state = .running ∧ s.quiet = true ∧ s.sts.tripActive = false ∧
      s.receptive = true ∧ s.drc.heating = some (1, .b) ∧ (s.train 1).isSome = true ∧ s.showsStopped 1 = (v == 0) ∧
      (s.train 2).map (·.state) = some .online ∧ (s.unit 1).map (·.state) = some .running ∧
      (s.cavern 1).map (fun c => (c.state.flowing, c.config.settleTime)) = some (true, 30) ∧
      (s.cavern 2).map (fun c => (c.state.flowing, c.config.settleTime)) = some (true, 0)) ∧
    (plant .parked).shaped = true ∧ (plant .parked).heaterLaw = true ∧ (plant .parked).receptive = true ∧
    (plant .parked).drc.heating = none := by decide

/-- A clock that is invalid, and an hour closed before. -/
theorem witness_SetClockSetsOrTrims :
    (let s := { plant .parked with clk := { (plant .parked).clk with valid := false }
                                   hcu := { (plant .parked).hcu with lastClosed := some 9895 } }
     s.receptive = true ∧ s.clk.valid = false ∧ s.sts.state ≠ .running ∧
     hourAtOrBefore (412 * 24 + 25200 / 3600) 9895 = true ∧ hourAtOrBefore (412 * 24 + 28800 / 3600) 9895 = false) ∧
    (plant .running).receptive = true ∧ (plant .running).clk.valid = true ∧
    (let s := { plant .running with clk := { (plant .running).clk with second := 25200, boundaryDue := true } }
     s.sts.inReset = false ∧ s.clk.boundaryDue = true ∧ ∃ t, exec .hourBoundary s = .next t) :=
  ⟨by decide, by decide, by decide, rfl, rfl, _, rfl⟩

theorem witness_StartOpensTheStation :
    (plant .parked).receptive = true ∧ (plant .parked).shaped = true ∧ (plant .parked).sts.state = .parked ∧
    (plant .parked).clk.valid = true ∧ (plant .parked).cvc.any Option.isSome = true ∧
    (plant .parked).order 31 = some ⟨.isolation .isolate, 0, false⟩ ∧
    (loaded 37 (plant .parked)).receptive = true ∧ (loaded 38 (plant .parked)).receptive = true ∧
    (let s := (plant .parked).writeOrder 31 (.isolation .open)
     s.receptive = true ∧ s.order 31 = some ⟨.isolation .open, 5000, false⟩) ∧
    (plant .running).receptive = true ∧ (plant .running).sts.state ≠ .parked := by decide

/-- Two caverns flow, a unit runs (its feedback shows STOPPED, then RUNNING) and a train is ONLINE. -/
theorem witness_ParkStopsTheStation :
    (∀ v ∈ [0, 1],
      let s := withTrain (withUnit (flowing (plant .running)) (cmp .running)) (trn .online .adsorbing .ready)
      let s := s.setPoint 29 (good v)
      s.receptive = true ∧ s.shaped = true ∧ s.sts.state = .running ∧ s.showsStopped 1 = (v == 0) ∧
      (s.cavern 1).map (fun c => (c.state.flowing, c.config.settleTime)) = some (true, 30) ∧
      (s.cavern 2).map (fun c => (c.state.flowing, c.config.settleTime)) = some (true, 0) ∧
      (s.unit 1).map (·.state) = some .running ∧ (s.train 1).map (·.state) = some .online) ∧
    ((plant .running).cavern 1).map (·.state.flowing) = some false ∧ (plant .running).receptive = true ∧
    ((plant .running).unit 1).map (·.state) = some .ready ∧ (plant .parked).receptive = true := by decide

/-- A SPENT bed waits for the heater; nothing waits; and a unit whose load entry differs from its load. -/
theorem witness_ResumeParksATrippedStation :
    (let s := waiting (plant .tripped)
     s.receptive = true ∧ s.shaped = true ∧ s.orderLaw = true ∧ s.sts.state = .tripped ∧ s.sts.tripActive = false ∧
     s.drc.queue = [(1, .b)] ∧ s.drc.heating = none ∧ (s.train 1).isSome = true) ∧
    (let s := withUnit (plant .tripped) { cmp .ready with load := 5 }
     s.receptive = true ∧ s.shaped = true ∧ s.orderLaw = true ∧ s.drc.queue = [] ∧ s.loadOrder 1 = 0) ∧
    (plant .parked).receptive = true ∧ (plant .parked).orderLaw = true := by decide

theorem witness_BlankRefusesPlantAndBooks :
    requestOf (.switchBeds 1 1) = some ⟨1, .trainMode 1 2⟩ ∧ State.reset.receptive = true ∧
    State.reset.sts.state = .blank ∧ State.reset.hcu.close = none ∧
    (ReqBody.trainMode 1 2).kind ∈ [0x02, 0x08, 0x09, 0x0A, 0x10, 0x18, 0x19, 0x1C, 0x1D, 0x20, 0x21] ∧
    (∀ k, ReqBody.trainMode 1 2 ≠ .unknown k) :=
  ⟨rfl, by decide, rfl, rfl, by decide, by simp⟩

theorem witness_StationStatusShowsTheState : State.reset.receptive = true := by decide

/-- The limits of R22's example, for every class whose changes are delivered. -/
def shortened : Settings :=
  let l : Limit := ⟨2, 4⟩
  { blankSettings with limits := { blankSettings.limits with meter := l, cv := l, pressure := l, feedback := l } }

/-- BLANK, also with the pin active; a mode change refused; the regrade of 02 R22's example at the meter rate, the
calorific value, the pressure of a flowing cavern and the feedback of a RUNNING unit, each alone; and limits that
stand. -/
theorem witness_ConfigureStationAppliesSettings :
    (State.reset.receptive = true ∧ State.reset.shaped = true ∧ State.reset.sts.state = .blank ∧
     { State.reset with sts := ⟨.blank, true, false⟩ }.receptive = true) ∧
    (let s := plant .parked
     s.receptive = true ∧ s.shaped = true ∧ blankSettings.mode ≤ 2 ∧ 1 ≠ s.cfg.mode ∧ s.sts.state ≠ .blank ∧
     s.noShippers = false) ∧
    (∀ p ∈ [0, 2, pressurePoint 1, feedbackPoint 1],
      let s := flowing (withUnit (plant .running) (cmp .running))
      let s := { s with smt := State.reset.smt.set p ⟨17000, 6, .held, false⟩ }
      s.receptive = true ∧ s.shaped = true ∧ shortened.mode ≤ 2 ∧ shortened.mode = s.cfg.mode ∧
      s.sts.state ≠ .blank ∧ (s.cavern 1).map (·.state.flowing) = some true ∧
      (s.unit 1).map (·.state) = some .running ∧ (s.point p).quality ≠ .stale ∧
      (after (.configureStation 1 shortened) s).smt = s.smt.set p ⟨17000, 6, .stale, false⟩) ∧
    (let s := plant .running
     s.receptive = true ∧ s.shaped = true ∧ s.cfg.mode = 0 ∧
     (after (.configureStation 1 { blankSettings with lead := 3 }) s).cfg.limits = s.cfg.limits) := by
  decide +kernel

theorem witness_SnapshotWriteCopiesAtItsBegin :
    (let s := { plant .parked with sns := { (plant .parked).sns with due := true } }
     s.sts.inReset = false ∧ s.sns.due = true ∧ s.sts.state ≠ .blank ∧ s.sns.state ≠ .writing ∧ s.hcu.close = none ∧
     s.hcu.handOvers = [] ∧ s.clk.boundaryDue = false) ∧
    (plant .parked).sns.due = false ∧
    (let s := (plant .parked).beginWrite
     s.quiet = true ∧ s.sns.state = .writing) := by decide

theorem witness_SamplePairsAreTakenInTurn :
    (plant .running).receptive = true ∧ 1 ≤ [(6, 22001)].length ∧ [(6, 22001)].length ≤ 16 ∧
    (List.replicate 16 (41, 0)).length ≤ 16 := by decide

/-- A meter rate, a calorific value and the pressure of a flowing cavern go STALE at the next second. -/
theorem witness_SecondAdvancesClockAndAgesPoints :
    let lim := blankSettings.limits.pressure
    (plant .running).quiet = true ∧ (plant .running).shaped = true ∧ (plant .running).clk.valid = true ∧
    ((plant .running).point 6).quality ≠ .never ∧ ((plant .running).point 0).quality = .never ∧
    pointKind 40 ≠ none ∧ State.reset.quiet = true ∧ State.reset.clk.valid = false ∧
    { plant .running with clk := { (plant .running).clk with second := 86399 } }.quiet = true ∧
    (let s := (((flowing (plant .running)).setPoint 0 ⟨1, 10, .held, false⟩).setPoint 2 ⟨39000, 1800, .held, false⟩).setPoint
       6 ⟨17000, lim.hold, gradeOf lim lim.hold, false⟩
     s.quiet = true ∧ s.shaped = true ∧ (s.cavern 1).map (·.state.flowing) = some true ∧ (s.point 0).quality ≠ .stale ∧
     (s.point 2).quality ≠ .stale ∧ (s.point 6).quality ≠ .stale ∧ pressurePoint 1 = 6 ∧
     gradeOf s.cfg.limits.meter 11 = .stale ∧ gradeOf s.cfg.limits.cv 1801 = .stale ∧ gradeOf lim (lim.hold + 1) = .stale) := by
  decide

theorem witness_SecondIntegratesTheMeter : (heated (plant .running)).quiet = true ∧ State.reset.quiet = true := by
  decide

/-- A heating under way and one that ends; and a bed in line at the switch point with the heater free, then taken. -/
theorem witness_SecondCountsThePlant :
    let full : Train := { trn .online .adsorbing .ready with bedA := ⟨.adsorbing, 1700000000⟩ }
    let two (s : State) : State := s.setTrain 2 (some full)
    let h := heated (flowing (plant .running))
    (∀ s ∈ [h, { h with drc := { h.drc with heatingTimer := some 1 } }, two (plant .running), two h],
      s.quiet = true ∧ s.shaped = true ∧ s.heaterLaw = true ∧ (s.cavern 1).isSome = true ∧
      (s.unit 1).isSome = true ∧ (s.train 1).isSome = true) ∧
    trainSet.switchMg = 1700000000 ∧ (plant .running).drc.heating = none ∧ h.drc.heating = some (1, .b) := by decide

/-- A boundary at second 0 of a day in PARKED and while RUNNING, one within a day, and one in BLANK. -/
theorem witness_HourBoundaryHandsOver :
    let at' (s : State) (sec : Nat) : State := { s with clk := { s.clk with second := sec, boundaryDue := true } }
    ∀ s ∈ [at' (plant .parked) 0, at' (plant .running) 0, at' (plant .running) 25200, at' State.reset 0],
      s.sts.inReset = false ∧ s.shaped = true ∧ s.clk.boundaryDue = true := by decide

/-- Numbers 0, 16 and 17; an account that holds gas; and one that may close while an evaluation is in flight. -/
theorem witness_ConfigureShipperActsByAccountState :
    (let s := plant .parked
     s.receptive = true ∧ s.hcu.close = none ∧ s.sts.state ≠ .blank ∧ s.shaped = true ∧ ¬ s.shippers < 16 ∧
     s.shippers < 17 ∧ (s.accountOf 16).state = .vacant ∧ (s.accountOf 1).state = .active ∧
     (s.accountOf 1).inventory ≠ 0) ∧
    (let s := evaluating ((plant .parked).setAccount 1 { acct 0 with state := .suspended })
     s.receptive = true ∧ s.hcu.close = none ∧ s.sts.state ≠ .blank ∧ s.shaped = true ∧ s.plu.eval.isSome = true ∧
     (s.accountOf 1).inventory = 0 ∧ (s.partition 1).entries = [] ∧ s.act.transfers = []) := by decide

/-- The largest inventory is taken, and one more is refused. -/
theorem witness_LoadBalanceMovesTheStationAccount :
    (plant .parked).receptive = true ∧ (plant .parked).hcu.close = none ∧ (plant .parked).shaped = true ∧
    (plant .parked).sts.state = .parked ∧ ((plant .parked).accountOf 1).state ≠ .vacant ∧
    (plant .parked).shippers = 16 ∧ ((plant .parked).accountOf 16).state = .vacant ∧ (plant .running).receptive = true ∧
    ((after (.loadBalance 1 1 (2 ^ 47 - 1)) (plant .parked)).accountOf 1).inventory = 2 ^ 47 - 1 ∧
    (after (.loadBalance 1 1 (2 ^ 47)) (plant .parked)).act = (plant .parked).act := by decide +kernel

/-- In hour 786,535, transfers of hours 100 and 140 wait: 786,435 and 786,395 hours back, and 786,431 are the most
that count as earlier (01 R2). -/
def farTransfers : State :=
  let s := (plant .running).setAccount 16 (acct 0)
  { s with clk := { s.clk with gasDay := 32772 }
           act := { s.act with transfers := [⟨1, 16, 5, 100⟩, ⟨1, 16, 5, 140⟩] } }

/-- Two accounts, and a pending list of 15 and of 16 entries; and two entries kept over a reset, of which the clock set
half of all hours on counts the first as later and the second as earlier. -/
theorem witness_TransferJoinsThePendingList :
    let s (n : Nat) : State :=
      let s := (plant .running).setAccount 16 (acct 0)
      { s with act := { s.act with transfers := List.replicate n ⟨1, 16, 5, 9896⟩ } }
    (s 15).receptive = true ∧ (s 15).hcu.close = none ∧ (s 15).clk.valid = true ∧ (s 15).sts.state ≠ .blank ∧
    hourBefore 9895 (s 15).currentHour = false ∧ hourAfter 9935 (s 15).nextDayEnd = false ∧
    hourAfter 9936 (s 15).nextDayEnd = true ∧ hourBefore 9894 (s 15).currentHour = true ∧
    (s 16).receptive = true ∧
    farTransfers.receptive = true ∧ farTransfers.hcu.close = none ∧ farTransfers.clk.valid = true ∧
    hourBefore 786535 farTransfers.currentHour = false ∧ hourAfter 786535 farTransfers.nextDayEnd = false ∧
    farTransfers.act.transfers.map (fun t => hourAtOrBefore t.hour 786535) = [false, true] := by decide

/-- No record yet; and a record, with a saturated mark to clear and a plan. -/
theorem witness_BookAndPlanQueriesShowTheRecords :
    (plant .parked).receptive = true ∧ (plant .parked).hcu.close = none ∧ (plant .parked).shaped = true ∧
    (plant .parked).hcu.record = none ∧
    (let f := (plant .parked).closeFigures ((plant .parked).handOver 9894)
     let s := (planned (plant .parked) (some .inject) 20000).setAccount 1 { acct 1000 with saturated := true }
     let s := { s with hcu := { s.hcu with record := some f.allocate.record } }
     s.receptive = true ∧ s.hcu.close = none ∧ s.shaped = true ∧ s.hcu.record.isSome = true ∧
     (s.accountOf 1).saturated = true ∧ s.plu.record.isSome = true) := by decide

/-- The window of 5.7: 9,897 to 9,935. -/
theorem witness_NominateEditsThePartition :
    let s := plant .running
    let ahead (x : Nat) : Nat := (x + (1572864 - s.currentHour % 1572864)) % 1572864
    s.receptive = true ∧ s.hcu.close = none ∧ s.shaped = true ∧ s.clk.valid = true ∧
    hourBefore 9897 ((s.currentHour + s.cfg.lead) % 1572864) = false ∧
    hourBefore 9896 ((s.currentHour + s.cfg.lead) % 1572864) = true ∧ ahead s.nextDayEnd = ahead 9935 ∧
    ahead s.nextDayEnd < ahead 9935 + 1 ∧ (s.accountOf 1).state ≠ .vacant ∧ (s.accountOf 2).state = .vacant ∧
    16 < (List.replicate 17 (⟨9900, 1, .inject, 1⟩ : NomEntry)).length := by decide

/-- Two entries and an erase of 48 hours, counted from an ordinary hour and from one near the wrap; and a partition
with entries while a close is in flight. -/
theorem witness_NominationsStayOrderedAndEditsActByHour :
    (∀ b ∈ [9895, 1572862],
      let at' (n : Nat) : Nat := (b + n) % 1572864
      let ahead (y : Nat) : Nat := (y + (1572864 - b % 1572864)) % 1572864
      inOrderFrom b [⟨at' 5, 3, .inject, 40000⟩, ⟨at' 8, 5, .withdraw, 25000⟩] = true ∧
      at' 5 < 1572864 ∧ at' 8 < 1572864 ∧
      ahead (at' 7) + 48 ≤ 786432 ∧ at' 7 < 1572864 ∧ ahead (at' 7) < 786432 ∧ ahead (at' 54) < 786432) ∧
    (let es : List NomEntry := [⟨9894, 6, .inject, 40000⟩, ⟨9900, 48, .withdraw, 25000⟩]
     let s := queued .hourCloseComplete (closing ((plant .running).setPartition 1 ⟨es, false⟩))
     s.shaped = true ∧ s.nominationLaw = true ∧ s.hcu.handOvers.length ≤ 1 ∧ ∃ t, step s = .next t) :=
  ⟨by decide, by decide, by decide, by decide, _, rfl⟩

theorem witness_PlanEvaluationBeginsAndCompletes :
    (let s := (plant .running).makePlanDue
     s.sts.inReset = false ∧ s.plu.due = true ∧ s.plu.eval = none ∧ s.clk.valid = true ∧ s.sts.state ≠ .blank ∧
     s.hcu.close = none ∧ s.hcu.handOvers = [] ∧ s.clk.boundaryDue = false) ∧
    (plant .running).plu.due = false ∧
    (let s := evaluating (plant .running)
     s.quiet = true ∧ s.shaped = true ∧ s.plu.eval = some s.gather ∧ s.gather.hour = 412 * 24 + 25230 / 3600 ∧
     s.occupancy < 27 ∧ (s.train 1).isSome = true) ∧
    (let s := evaluating (plant .parked)
     s.quiet = true ∧ s.sts.state ≠ .running) ∧
    (let s := evaluating (plant .running)
     let late := { s with clk := { s.clk with second := 28801 } }
     late.quiet = true ∧ s.gather.hour ≠ late.clk.gasDay * 24 + late.clk.second / 3600) := by decide

theorem witness_ProportionalSharesSumToTheTotal :
    0 < [400000, 250000].sum ∧ [0, 0].sum = 0 ∧ [20000, 12500].length = [400000, 250000].length := by decide

/-- Evaluations that curtail, one to inject and one to withdraw: 100,000 kWh and no plant to carry them. -/
theorem witness_CurtailmentAndTargetFollowTheCapability :
    ∀ d ∈ [Dir.inject, .withdraw],
      let x : EvalShipper := ⟨.active, ⟨8000000, 1000000, 1000000, 500⟩, 500000, none, some (d, 100000), none, true⟩
      let e := { (plant .running).gather with shippers := [x] }
      0 < e.cv ∧ 0 < e.sLeft ∧ 0 < e.work.delta ∧ e.station = .running := by decide

theorem witness_CapsFollowLimitsRampAndHeadroom :
    (plant .running).shaped = true ∧ ((plant .running).cavern 1).isSome = true ∧
    ((plant .running).cavernsChanged.cavern 1).map (·.capInject) = some 40000 := by decide

/-- The caverns of 7.10, each kind of share, one at its reversal limit; a HOLD plan and a target of 0 while caverns
flow; and the events that bring a split. -/
theorem witness_SplitSharesTheTargetRate :
    (∀ n ∈ [50000, 70000], (fiveCaverns n).shaped = true ∧ (fiveCaverns n).sts.state = .running ∧
      (fiveCaverns n).planDir = some .withdraw ∧ 0 < (fiveCaverns n).planTarget ∧
      (fiveCaverns n).planTarget = n) ∧
    ((fiveCaverns 70000).cavern 3).map (fun c => (c.lastDir, c.reversals + 1, c.config.maxReversals)) =
      some (some .inject, 2, 2) ∧
    (∀ s ∈ [planned (flowing (plant .running)) none 0, planned (flowing (plant .running)) (some .inject) 0],
      let s := { s with clk := { s.clk with minuteDue := true } }
      s.shaped = true ∧ s.sts.state = .running ∧ s.sts.inReset = false ∧ s.clk.minuteDue = true ∧
      (s.planDir = none ∨ s.planTarget = 0) ∧ (s.cavern 1).map (·.state.flowing) = some true) ∧
    (let s := evaluating (flowing (plant .running))
     let e := s.gather
     s.quiet = true ∧ s.shaped = true ∧ s.sts.state = .running ∧ s.plu.eval = some e ∧
     e.hour = s.clk.gasDay * 24 + s.clk.second / 3600 ∧ (s.applyPlan e).planDir = none) := by decide

theorem witness_ConfigureCavernChecksAndApplies :
    (let s := plant .parked
     s.receptive = true ∧ s.hcu.close = none ∧ s.shaped = true ∧ s.sts.state = .parked ∧ s.cavern 8 = none ∧
     (s.cavern 1).map (·.state) = some .idle) ∧
    (let s := withCavern (plant .running) (cav .offline none)
     s.receptive = true ∧ (s.cavern 1).map (fun c => (c.state, c.booked)) = some (.offline, 0)) := by decide

theorem witness_CavernModeActsByCavernState :
    ∀ c ∈ [cav .offline none, cav .fault (some .inject), cav .idle none, cav .injecting (some .inject),
           { cav .settling (some .withdraw) with settle := some 1 }],
      let s := withCavern (plant .running) c
      s.receptive = true ∧ s.shaped = true ∧ s.sts.state ≠ .blank ∧ s.cavern 1 = some c ∧ s.cavern 8 = none ∧
      s.planDir = none := by
  decide

theorem witness_SettleExpiryAndValveFault :
    (let c := { cav .settling (some .inject) with settle := some 0 }
     let s := withCavern (plant .running) c
     s.sts.inReset = false ∧ s.shaped = true ∧ s.cavern 1 = some c ∧ c.state = .settling ∧ c.settle = some 0) ∧
    (let c := { cav .injecting (some .inject) with disagreement := 121, faultDue := true }
     let s := withCavern (plant .running) c
     s.sts.inReset = false ∧ s.shaped = true ∧ s.cavern 1 = some c ∧ c.state ≠ .offline ∧ c.state ≠ .fault ∧
     c.faultDue = true) ∧
    (let c := { cav .injecting (some .inject) with disagreement := 120 }
     let s := withCavern (plant .running) c
     s.quiet = true ∧ s.shaped = true ∧ 1 ∈ cavernNumbers ∧ s.cavern 1 = some c ∧
     (∀ i ∈ cavernNumbers,
       ((after .secondEvent s).point (pressurePoint i)).quality = (s.point (pressurePoint i)).quality)) ∧
    (let c := { cav .settling (some .inject) with settle := some 2 }
     let s := withCavern (plant .parked) c
     s.quiet = true ∧ s.shaped = true ∧ s.cavern 1 = some c ∧ s.sts.state ≠ .running ∧ c.state.flowing = false) := by
  decide +kernel

/-- Caverns at their window edges while a plan takes the station in their direction, against it, and in HOLD; and
one at rest with a mark to clear. -/
theorem witness_CavernPressuresAreFollowed :
    (let s := withCavern (plant .running) { cav .idle none with ring := List.replicate 61 (some 17000) }
     let s := { s with clk := { s.clk with minuteDue := true } }
     s.sts.inReset = false ∧ s.shaped = true ∧ s.clk.minuteDue = true ∧ (s.cavern 1).isSome = true) ∧
    (∀ x ∈ [(Dir.inject, 22000), (.withdraw, 12000)], ∀ plan ∈ [none, some Dir.inject, some .withdraw],
      let c := cav (flowState x.1) (some x.1)
      let s := withCavern (planned (plant .running) plan 20000) c
      s.receptive = true ∧ s.shaped = true ∧ s.cavern 1 = some c ∧ s.sts.state = .running ∧ s.planDir = plan ∧
      c.config.settleTime ≠ 0 ∧ c.lastDir = some x.1 ∧
      (x.1 = .inject → c.state = .injecting ∧ c.config.pressureMax ≤ min 30000 x.2) ∧
      (x.1 = .withdraw → c.state = .withdrawing ∧ min 30000 x.2 ≤ c.config.pressureMin)) ∧
    (let c := { cav .idle (some .inject) with full := true }
     let s := withCavern (plant .running) c
     s.receptive = true ∧ s.shaped = true ∧ s.cavern 1 = some c ∧ c.state ≠ .injecting ∧ c.state ≠ .withdrawing ∧
     s.planDir = none) := by
  decide

theorem witness_PlantQueriesShowTheRecords :
    (heated (plant .running)).receptive = true ∧ (heated (plant .running)).shaped = true := by decide

/-- A frame of a kind, tag 7 and FIELDS has come but for its last byte, and that byte. -/
def framed (kind : Byte) (fields : List Byte) (s : State) : State × Byte :=
  let kept := BitVec.ofNat 8 (fields.length + 2) :: kind :: 7 :: fields
  (parsing (.check2 kept (BitVec.ofNat 8 (crc16 kept / 256))) s, BitVec.ofNat 8 (crc16 kept % 256))

/-- The state after such a frame. -/
def received (kind : Byte) (fields : List Byte) (s : State) : State :=
  let f := framed kind fields s
  after (.frameReceived f.2) f.1

/-- The requests; and a STATION COMMAND without its action or with a fifth action, a SAMPLE of a broken pair and of 17
pairs, an unknown kind, and a CAVERN MODE with a fourth action, each as a frame but for its last byte. -/
theorem witness_LinkQueriesShowTheLink :
    (plant .running).receptive = true ∧ (plant .running).shaped = true ∧ (plant .running).hcu.close = none ∧
    (∀ f ∈ [((0x02 : Byte), ([] : List Byte)), (0x02, [4]), (0x05, [6, 0, 0, 0]), (0x05, List.replicate 85 0),
            (0x2E, []), (0x19, [1, 3])],
      let kept := BitVec.ofNat 8 (f.2.length + 2) :: f.1 :: 7 :: f.2
      crc16 kept = (BitVec.ofNat 8 (crc16 kept / 256)).toNat * 256 + (framed f.1 f.2 State.reset).2.toNat ∧
      (framed f.1 f.2 State.reset).1.receptive = true ∧ (framed f.1 f.2 (plant .running)).1.receptive = true) ∧
    ((plant .running).cavern 1).isSome = true ∧ State.reset.sts.state = .blank ∧
    16 < (List.replicate 17 ((0, 0) : Nat × Nat)).length := by
  decide +kernel

theorem witness_ConfigureUnitChecksAndApplies :
    (let s := withUnit (plant .parked) (cmp .unavailable)
     s.receptive = true ∧ s.shaped = true ∧ s.sts.state ≠ .blank ∧
     (s.unit 1).map (·.state) = some .unavailable ∧ s.unit 6 = none) ∧
    (plant .parked).receptive = true ∧ ((plant .parked).unit 1).map (·.state) = some .ready := by decide

/-- Every unit state, with a feedback that shows STOPPED. -/
theorem witness_UnitModeActsByUnitState :
    ∀ st ∈ [UnitState.unavailable, .ready, .resting, .starting, .running, .stopping, .tripped, .lockedOut],
      let s := withUnit (plant .running) (cmp st)
      s.receptive = true ∧ s.shaped = true ∧ s.sts.state ≠ .blank ∧ s.unit 1 = some (cmp st) ∧ s.unit 6 = none ∧
      (s.point 29).usable = true ∧ (s.point 29).value = 0 := by decide

/-- Each countdown at 0, and a start-list entry of 3,600 s. -/
theorem witness_UnitCountdownsExpire :
    ∀ u ∈ [{ cmp .running with minRun := some 0 }, { cmp .resting with minStop := some 0 },
           { cmp .resting with minStop := some 0, startList := [4000, 4001, 4002] },
           { cmp .starting with timeout := some 0 }, { cmp .stopping with timeout := some 0 },
           { cmp .resting with startList := [1400, 4000] }, { cmp .running with startList := [1400] }],
      let s := withUnit (plant .running) u
      s.sts.inReset = false ∧ s.shaped = true ∧ s.unit 1 = some u := by decide

/-- Every unit state, under each feedback code, with countdowns of the configuration and of 0, in PARKED too. -/
theorem witness_RunFeedbackMovesTheUnit :
    ∀ st ∈ [UnitState.unavailable, .ready, .resting, .starting, .running, .stopping, .tripped, .lockedOut],
      ∀ now ∈ [StationState.running, .parked], ∀ c ∈ [unitSet, { unitSet with minRun := 0, minStop := 0 }],
        let u := { cmp st with config := c }
        let s := withUnit (plant now) u
        s.receptive = true ∧ s.shaped = true ∧ s.unit 1 = some u ∧ u.startList.length < c.startsPerHour := by decide

/-- The stations of 8.12: starts, no stop, a stop, and PARKED. -/
theorem witness_DutyEvaluationServesTheNeed :
    (threeUnits 50000 .ready .running .ready).shaped = true ∧
    (threeUnits 50000 .ready .running .ready).runningCapacity < 50000 ∧
    (threeUnits 20000 .ready .running .running).shaped = true ∧
    20000 ≤ (threeUnits 20000 .ready .running .running).runningCapacity ∧
    (threeUnits 20000 .ready .running .running).showsStopped 3 = false ∧ (plant .parked).shaped = true ∧
    (plant .parked).sts.state ≠ .running := by decide

/-- A train that may be dropped, one that may not, one in service, and one whose bed in line stands at its switch
point, with the heater free and with it taken. -/
theorem witness_ConfigureTrainChecksAndApplies :
    (∀ r ∈ [trn .offline .adsorbing .ready, trn .offline .adsorbing .spent, trn .standby .adsorbing .ready],
      let s := withTrain (plant .parked) r
      s.receptive = true ∧ s.shaped = true ∧ s.sts.state ≠ .blank ∧ s.train 1 = some r) ∧
    (plant .parked).train 2 = none ∧
    (let r : Train := { trn .offline .adsorbing .ready with bedA := ⟨.adsorbing, trainSet.switchMg⟩ }
     ∀ s0 ∈ [plant .parked, heated (plant .parked)],
       let s := s0.setTrain 2 (some r)
       s.receptive = true ∧ s.shaped = true ∧ s.heaterLaw = true ∧ s.train 2 = some r ∧ r.planCap = 0) ∧
    (plant .parked).drc.heating = none ∧ (heated (plant .parked)).drc.heating ≠ none := by decide

theorem witness_TrainModeActsByTrainState :
    (∀ r ∈ [trn .offline .adsorbing .ready, trn .standby .adsorbing .ready],
      let s := withTrain (plant .running) r
      s.receptive = true ∧ s.shaped = true ∧ s.sts.state ≠ .blank ∧ s.train 1 = some r ∧ s.heaterLaw = true ∧
      (r.bed (otherBed r.inLine)).state = .ready ∧ s.drc.queue = [] ∧ s.drc.heating = none ∧ s.train 2 = none) ∧
    (heated (plant .running)).receptive = true ∧ (heated (plant .running)).drc.heating ≠ none ∧
    (waiting (plant .tripped)).receptive = true := by decide

/-- Train 1's bed B heats to its end while a bed of train 2 waits; then it cools to its end. -/
theorem witness_RegenerationExpires :
    (let s := heated (plant .running)
     let s := { s with drc := { s.drc with heatingTimer := some 0, queue := [(2, .a)]
                                           trains := [some (trn .standby .adsorbing .heating),
                                                      some (trn .standby .spent .adsorbing)] } }
     s.sts.inReset = false ∧ s.shaped = true ∧ s.heaterLaw = true ∧ s.drc.heatingTimer = some 0 ∧
     s.drc.heating = some (1, .b) ∧ (s.train 1).isSome = true ∧ s.drc.queue = [(2, .a)] ∧ s.sts.state ≠ .tripped ∧
     (s.train 2).isSome = true ∧ s.drc.switchDue = false) ∧
    (let r := { trn .standby .adsorbing .cooling with cooling := some 0 }
     let s := withTrain (plant .running) r
     s.sts.inReset = false ∧ s.shaped = true ∧ s.heaterLaw = true ∧ s.train 1 = some r ∧ r.cooling = some 0 ∧
     (r.bed .b).state = .cooling ∧ s.drc.heatingTimer ≠ some 0 ∧ s.drc.switchDue = false ∧
     { s with drc := { s.drc with switchDue := true } }.heaterLaw = true) := by decide

/-- A count at its delay in each of the two states, under a withdraw plan while RUNNING, and in PARKED. -/
theorem witness_OffspecFollowsTheCounts :
    ∀ s0 ∈ [planned (plant .running) (some .withdraw) 20000, plant .parked],
      ∀ r ∈ [{ trn .online .adsorbing .ready with aboveSpec := 120 },
             { trn .offspec .adsorbing .ready with inSpec := 120 }],
        let s := withTrain s0 r
        s.sts.inReset = false ∧ s.shaped = true ∧ s.train 1 = some r ∧
        (r.state = .online → r.config.offspecDelay ≤ r.aboveSpec) ∧
        (r.state = .offspec → r.config.offspecDelay ≤ r.inSpec) := by decide

/-- A close to begin, and one to complete at occupancies on both sides of the admission level. -/
theorem witness_HourCloseBeginsAndCompletes :
    (let s := plant .running
     let h := s.handOver 9894
     let s := { s with hcu := { s.hcu with handOvers := [h] } }
     s.sts.inReset = false ∧ s.hcu.close = none ∧ s.hcu.handOvers = [h]) ∧
    (∀ n ∈ [0, 22, 27, 28, 48],
      let s := loaded n (closing (plant .running))
      let f := (plant .running).closeFigures ((plant .running).handOver 9894)
      s.quiet = true ∧ s.shaped = true ∧ s.hcu.close = some f ∧ s.closeCurrent f = true ∧ s.occupancy = n ∧ s.slk.rx = [] ∧
      ((nth f.allocate.shippers 1).join).isSome = true) := by decide

/-- The close of 10.7. -/
theorem witness_AllocationBalancesTheBooks :
    let f := closeOf 9896 0 73000 900 10
      [(60000, some .withdraw, 50000), (30500, some .withdraw, 30000), (0, some .inject, 10000)]
      [(0, 40000), (0, 35000), (1200, 0)] [⟨2, 3, 1000, 9896⟩, ⟨1, 2, 100000, 9896⟩]
    (∀ x ∈ f.transfers, ((nth f.shippers x.source).join).isSome = true ∧ ((nth f.shippers x.target).join).isSome = true) ∧
    (∀ x ∈ f.shippers, (x.map (·.inventory)).getD 0 ≤ 2 ^ 47 - 1) ∧ f.hand.volumes.any Option.isSome = true := by
  decide

/-- Occupancies of 27, 28 and 37, 38; a countdown at 0; and the queue whose sent record takes it below 28. -/
theorem witness_RecordsAreOfferedByOccupancy :
    (plant .running).shaped = true ∧ AlertKind.stationTrip ≠ .reportsDropped ∧
    ((plant .running).alert .stationTrip).pending = false ∧ ((plant .running).alert .stationTrip).enabled = true ∧
    (loaded 27 (plant .running)).occupancy < 28 ∧ 28 ≤ (loaded 28 (plant .running)).occupancy ∧
    ((plant .running).order 31).isSome = true ∧ (loaded 37 (plant .running)).occupancy < 38 ∧
    ¬ (loaded 38 (plant .running)).occupancy < 38 ∧
    (let s := { plant .running with slk := { (plant .running).slk with statusCountdown := 0 } }
     s.sts.inReset = false ∧ 0 < s.cfg.statusInterval ∧ s.slk.statusCountdown = 0) ∧
    (loaded 28 (plant .running)).quiet = true ∧ (loaded 28 (plant .running)).slk.tx = filler :: List.replicate 27 filler ∧
    (loaded 48 (plant .running)).quiet = true ∧
    (∀ n ∈ [1, 2], (asked n (loaded 48 (plant .running))).quiet = true ∧ (asked n (loaded 48 (plant .running))).hcu.close = none) ∧
    (let s := { heldQuery [] with slk := { (heldQuery []).slk with tx := List.replicate 48 filler } }
     s.quiet = true ∧ s.hcu.close.isSome = true) ∧
    requestOf (.alertQuery 1) = some ⟨1, .alertQuery⟩ ∧ (plant .running).quiet = true ∧ (plant .running).slk.tx = [] := by
  decide

theorem witness_AlertControlAndLinkReset :
    (loaded 47 (plant .running)).receptive = true ∧ (loaded 47 (plant .running)).shaped = true := by decide

/-! ### One step of a command -/

/-- The alert kinds that are pending. -/
def alerts (s : State) : List Nat := (List.range' 1 23).filter (fun n => (nth s.als n).any (·.pending))

/-- The kind of each record in the transmit queue. -/
def sent (s : State) : List Nat := s.slk.tx.map (·.kind)

/-- Tag and first field of the last record. -/
def lastReply (s : State) : Option (Nat × Option Item) := s.slk.tx.getLast?.map (fun r => (r.tag, r.fields.head?))

/-- 01 R18: an INVALID store, then a trip pin, each with its alert, STORE_FAULT first. -/
theorem test_release_invalid_store :
    let t := after (.powerOnOrReset false true true false) (heldWith .invalid none)
    alerts t = [1, 2] ∧ t.slk.lineSpeed = 115200 ∧
    t.slk.tx.map (fun r => r.fields.head?) = [some (.u8 2), some (.u8 1)] := by decide +kernel

/-- 01 R17: a cavern that was INJECTING is restored IDLE, and the station is PARKED. -/
theorem test_release_valid_store :
    let t := after (.powerOnOrReset true false false false) (heldWith .valid (some (flowing (plant .running)).snapshot))
    t.sts.state = .parked ∧ (t.cavern 1).map (·.state) = some .idle ∧ t.plu.due = true := by decide +kernel

/-- 01 R10: 17 orders in actuator order, then STATION_TRIP, then the reply. -/
theorem test_trip_orders :
    let t := after (.stationCommandTrip 3) (plant .parked)
    sent t = List.replicate 17 0x80 ++ [0x83, 0x42] ∧ t.trippedPin = true ∧ lastReply t = some (3, some (.u8 0)) := by
  decide +kernel

/-- 01 R9: a second assertion of an active pin brings nothing. -/
theorem test_trip_pin_twice :
    after .tripNAssertion (after .tripNAssertion State.reset) = after .tripNAssertion State.reset := by decide +kernel

/-- 01 R4: a trim of 120 s is taken, and one of 121 s refused. -/
theorem test_trim :
    (after (.setClock 1 412 25350) (plant .running)).clk.trimSum = 120 ∧
    (after (.setClock 1 412 25351) (plant .running)).clk = (plant .running).clk := by decide +kernel

/-- 01 R2: the second event that ends second 86,399 begins a new gas day. -/
theorem test_midnight :
    let t := after .secondEvent { plant .parked with clk := { (plant .parked).clk with second := 86399, gasDay := 65535 } }
    (t.clk.second, t.clk.gasDay, t.clk.minuteDue, t.clk.boundaryDue) = (0, 0, true, true) := by decide +kernel

/-- 02 R21, R24: a flow point of age 20 is HELD; a second later it is STALE. -/
theorem test_point_ages :
    let s := (plant .parked).setPoint 5 ⟨1, 20, .held, false⟩
    (after .secondEvent s).point 5 = ⟨1, 21, .stale, false⟩ := by decide +kernel

/-- 02 R27: a value above the range is stored clamped, and the reply says CLAMPED. -/
theorem test_sample_clamps :
    let t := after (.sample 9 [(6, 30001)]) (plant .parked)
    t.point 6 = ⟨30000, 0, .good, true⟩ ∧ lastReply t = some (9, some (.u8 1)) := by decide +kernel

/-- 04 R55: a load of 400 below the inventory raises the station account by 400. -/
theorem test_load_balance :
    let t := after (.loadBalance 1 1 600) (plant .parked)
    (t.accountOf 1).inventory = 600 ∧ t.act.station = 400 := by decide +kernel

/-- 04 R54: an account that holds gas is not closed. -/
theorem test_close_account :
    lastReply (after (.configureShipperClose 1 1) (plant .parked)) = some (1, some (.u8 5)) := by decide +kernel

/-- 04 R62, R63: the transfer stands after the entry of hour 140, the last earlier one, at position 3 of 3. -/
theorem test_transfer_after_the_last_earlier :
    let t := after (.transfer 1 1 16 7 786535) farTransfers
    t.act.transfers.map (·.hour) = [100, 140, 786535] ∧
    t.slk.tx = [⟨0x4A, 1, [.u8 0, .u8 3, .u8 3]⟩] := by decide +kernel

/-- 05 5.7, step 7: 9,896 is before 9,897. -/
theorem test_nominate_late :
    lastReply (after (.nominate 1 1 9896 3 0 40000) (plant .running)) = some (1, some (.u8 6)) := by decide +kernel

/-- 05 R71: a first hour about half of all hours ahead is refused, and in index 22 of gas day 65,535 every one
after a lead of 2; a lead of 1 lets the last hour of that day pass (log 50). -/
theorem test_nominate_far :
    lastReply (after (.nominate 1 1 796329 48 0 40000) (plant .running)) = some (1, some (.u8 3)) ∧
    (let s := { plant .running with clk := ⟨true, 65535, 79230, 5000, 0, false, false⟩ }
     lastReply (after (.nominate 1 1 786432 48 0 40000) s) = some (1, some (.u8 3)) ∧
     lastReply (after (.nominate 1 1 1572863 1 0 40000) s) = some (1, some (.u8 6)) ∧
     (let s := { s with cfg := { s.cfg with lead := 1 } }
      lastReply (after (.nominate 1 1 1572863 1 0 40000) s) = some (1, some (.u8 0)) ∧
      lastReply (after (.nominate 1 1 1572863 2 0 40000) s) = some (1, some (.u8 3)))) := by decide +kernel

/-- 07 7.11, step 1: a valve GOOD at SHUT lets a cavern into service. -/
theorem test_in_service :
    let t := after (.cavernModeInService 1 1) (withCavern (plant .running) (cav .offline none))
    (t.cavern 1).map (·.state) = some .idle ∧ t.plu.eval.isNone = true ∧ t.plu.due = true := by decide +kernel

/-- 07 7.11, step 5: a pressure at the window's max stops an injecting cavern. -/
theorem test_full :
    let t := after (.sample 1 [(6, 22000)]) (withCavern (plant .running) (cav .injecting (some .inject)))
    (t.cavern 1).map (fun c => (c.state, c.settle, c.full)) = some (.settling, some 1800, true) ∧ alerts t = [11] := by
  decide +kernel

/-- 07 R112: a HELD pressure sampled at the window's max sets FULL and raises CAVERN_FULL (log 37). -/
theorem test_full_from_held :
    let s := withCavern (planned (plant .running) (some .inject) 20000) (cav .injecting (some .inject))
    let t := after (.sample 1 [(6, 22000)]) (s.setPoint 6 ⟨17000, s.cfg.limits.pressure.hold, .held, false⟩)
    (t.cavern 1).map (fun c => (c.state, c.settle, c.full)) = some (.settling, some 1800, true) ∧ alerts t = [11] ∧
    (t.point 6).quality = .good := by decide +kernel

/-- 07 7.11, step 6: the settling is abandoned. -/
theorem test_abandon :
    let t := after (.abandonSettle 1 1)
      (withCavern (plant .running) { cav .settling (some .inject) with settle := some 1800, full := true })
    (t.cavern 1).map (fun c => (c.state, c.settle, c.full, c.capInject)) = some (.idle, none, true, 0) := by decide +kernel

/-- 08 R137: a start that times out trips the unit, and the third trip locks it out. -/
theorem test_start_failed :
    let t := after (.timeoutExpiry 1) (withUnit (plant .running) { cmp .starting with timeout := some 0, trips := 2 })
    (t.unit 1).map (fun u => (u.state, u.trips)) = some (.lockedOut, 3) ∧ alerts t = [3, 10] := by decide +kernel

/-- 08 8.12, step 7: a STOPPED arrival rests the unit for its 900 s. -/
theorem test_stopped :
    let t := after (.sample 1 [(29, 0)]) (withUnit (plant .running) (cmp .stopping))
    (t.unit 1).map (fun u => (u.state, u.minStop)) = some (.resting, some 900) := by decide +kernel

/-- 09 R149, R150: the beds switch, and the heater takes the SPENT one at once. -/
theorem test_switch_beds :
    let t := after (.switchBeds 1 1) (plant .parked)
    (t.train 1).map (fun r => (r.bedA.state, r.bedB.state)) = some (.heating, .adsorbing) ∧
    t.drc.heatingTimer = some 14400 ∧ t.trainOrder 1 = (.offline, .b, .heat .a) := by decide +kernel

/-- 09 R154: an ONLINE train off its spec for the delay enters OFFSPEC. -/
theorem test_offspec :
    let t := after (.offspecEntry 1) (withTrain (plant .running) { trn .online .adsorbing .ready with aboveSpec := 120 })
    (t.train 1).map (fun r => (r.state, r.planCap)) = some (.offspec, 0) ∧ alerts t = [5] := by decide +kernel

/-- 10 R159: an ACCOUNT QUERY waits for a close in flight, and a STATION STATUS does not. -/
theorem test_close_holds :
    (after (.accountQuery 1 1 false) (closing (plant .parked))).slk.rx.length = 1 ∧
    sent (after (.stationStatus 1) (closing (plant .parked))) = [0x43] := by decide +kernel

/-- 10 R159, 11 R174: at the completion the held query is taken after the evaluation has begun, and the request behind
it after that; where a waiting close begins, both stay. -/
theorem test_close_releases :
    (let t := after .hourCloseComplete (heldQuery [])
     t.slk.rx = [] ∧ (sent t).drop 39 = [0x4B, 0x43] ∧ t.plu.eval.isSome = true ∧ t.hcu.close = none) ∧
    (let t := after .hourCloseComplete (heldQuery [(plant .running).handOver 9895])
     t.slk.rx.length = 2 ∧ sent t = List.replicate 39 0x84 ∧ (t.hcu.close.map (·.hand.hour)) = some 9895) := by
  decide +kernel

/-- 11 R174: a record that leaves a full transmit queue has the waiting head taken at once, and only the head. -/
theorem test_record_sent_takes_head :
    let t := after .recordSent (asked 2 (loaded 48 (plant .running)))
    t.slk.rx.length = 1 ∧ (sent t).length = 48 ∧ (sent t).getLast? = some 0x69 := by decide +kernel

/-- 11 R174, 01 R5, R7: the form check comes before the refusal of BLANK, and that before the action code. -/
theorem test_form_check :
    lastReply (received 0x02 [] State.reset) = some (7, some (.u8 2)) ∧
    lastReply (received 0x02 [4] State.reset) = some (7, some (.u8 8)) ∧
    lastReply (received 0x02 [4] (plant .running)) = some (7, some (.u8 3)) ∧
    lastReply (received 0x05 [6, 0, 0, 0] (plant .running)) = some (7, some (.u8 2)) := by decide +kernel

/-- 11 R178, R179: a disabled kind still becomes pending, and ATTN_N stays high. -/
theorem test_alert_control :
    let t := (after (.alertControl 1 0 1 0) (plant .parked)).raise .stationTrip 0
    alerts t = [1] ∧ t.attnN = true ∧ sent t = [0x6A] := by decide +kernel

/-- 11 R181: LINK RESET empties both queues, replies and offers the entries of the discarded reports again. -/
theorem test_link_reset :
    let s := loaded 3 (plant .parked)
    let s := { s with slk := { s.slk with tx := s.slk.tx ++ [⟨0x80, 0, [.u8 31, .u32 1, .u32 0]⟩], crcTally := 4 } }
    let t := after (.linkReset 1) s
    sent t = [0x6D, 0x80] ∧ t.slk.crcTally = 0 := by decide +kernel

/-- 11 R172: the frame of an ORDER report, and the frame of a request, taken byte by byte. -/
theorem test_frames :
    (orderReport 31 ⟨.isolation .open, 258, false⟩).frame.take 12 =
      [0xC5, 11, 0x80, 0, 31, 0, 0, 0, 0, 0, 0, 1] ∧
    (parseBytes .hunt (requestFrame 0x03 7 [])).2.getLast? = some (.frame ⟨7, .stationStatus⟩) := by decide +kernel

end Sys2Proof.Tests
end

section
/-! The frames of whole commands: what the plant blocks together may change, and what the books and the
nominations may change. -/

namespace Sys2Proof.Machine

/-! ### The plant blocks together -/

/-- `t` differs from `s` at most in CVC, the units, DRC, the order image, the alert set, the plan-due mark and records
offered. -/
structure PlantMoved (s t : State) : Prop where
  rest : { t with cvc := s.cvc, cdu := { t.cdu with units := s.cdu.units }, drc := s.drc, ori := s.ori, als := s.als
                  plu := { t.plu with due := s.plu.due }, slk := { t.slk with tx := s.slk.tx } } = s
  caverns : t.cvc.length = s.cvc.length
  units : t.cdu.units.length = s.cdu.units.length
  trains : t.drc.trains.length = s.drc.trains.length
  orders : t.ori.length = s.ori.length
  alerts : t.als.length = s.als.length
  sent : Sent s t

theorem PlantMoved.refl (s : State) : PlantMoved s s := ⟨rfl, rfl, rfl, rfl, rfl, rfl, .refl s⟩

theorem PlantMoved.trans {s t u : State} (h1 : PlantMoved s t) (h2 : PlantMoved t u) : PlantMoved s u :=
  ⟨(congrArg (fun x : State =>
      { x with cvc := s.cvc, cdu := { x.cdu with units := s.cdu.units }, drc := s.drc, ori := s.ori, als := s.als
               plu := { x.plu with due := s.plu.due }, slk := { x.slk with tx := s.slk.tx } }) h2.rest).trans h1.rest,
   h2.caverns.trans h1.caverns, h2.units.trans h1.units, h2.trains.trans h1.trains, h2.orders.trans h1.orders,
   h2.alerts.trans h1.alerts, h1.sent.trans h2.sent⟩

theorem PlantMoved.ite {s a b : State} {p : Prop} [Decidable p] (h1 : PlantMoved s a) (h2 : PlantMoved s b) :
    PlantMoved s (if p then a else b) := by split <;> assumption

theorem CavernsMoved.plant {s t : State} (h : CavernsMoved s t) : PlantMoved s t :=
  ⟨(congrArg (fun x : State => { x with cdu := { x.cdu with units := s.cdu.units }, drc := s.drc }) h.rest).trans rfl,
   h.caverns, by rw [← h.rest], by rw [← h.rest], h.orders, h.alerts, h.sent⟩

theorem UnitsMoved.plant {s t : State} (h : UnitsMoved s t) : PlantMoved s t :=
  ⟨(congrArg (fun x : State => { x with cvc := s.cvc, drc := s.drc }) h.rest).trans rfl,
   by rw [← h.rest], h.units, by rw [← h.rest], h.orders, h.alerts, h.sent⟩

theorem TrainsMoved.plant {s t : State} (h : TrainsMoved s t) : PlantMoved s t :=
  ⟨(congrArg (fun x : State => { x with cvc := s.cvc, cdu := { x.cdu with units := s.cdu.units } }) h.rest).trans rfl,
   by rw [← h.rest], by rw [← h.rest], h.trains, h.orders, h.alerts, h.sent⟩

theorem Reported.plant {s t : State} (h : Reported s t) : PlantMoved s t := h.caverns.plant

theorem Ordered.plant {s t : State} (h : Ordered s t) : PlantMoved s t := h.caverns.plant

section
variable {s t : State} (h : PlantMoved s t)
include h

theorem PlantMoved.clk : t.clk = s.clk := congrArg (fun x => x.clk) h.rest
theorem PlantMoved.sts : t.sts = s.sts := congrArg (fun x => x.sts) h.rest
theorem PlantMoved.sns : t.sns = s.sns := congrArg (fun x => x.sns) h.rest
theorem PlantMoved.cfg : t.cfg = s.cfg := congrArg (fun x => x.cfg) h.rest
theorem PlantMoved.smt : t.smt = s.smt := congrArg (fun x => x.smt) h.rest
theorem PlantMoved.act : t.act = s.act := congrArg (fun x => x.act) h.rest
theorem PlantMoved.nst : t.nst = s.nst := congrArg (fun x => x.nst) h.rest
theorem PlantMoved.hcu : t.hcu = s.hcu := congrArg (fun x => x.hcu) h.rest
theorem PlantMoved.required : t.cdu.required = s.cdu.required := congrArg (fun x => x.cdu.required) h.rest
theorem PlantMoved.planRecord : t.plu.record = s.plu.record := congrArg (fun x => x.plu.record) h.rest
theorem PlantMoved.planEval : t.plu.eval = s.plu.eval := congrArg (fun x => x.plu.eval) h.rest
theorem PlantMoved.rx : t.slk.rx = s.slk.rx := congrArg (fun x => x.slk.rx) h.rest
theorem PlantMoved.statusCountdown : t.slk.statusCountdown = s.slk.statusCountdown :=
  congrArg (fun x => x.slk.statusCountdown) h.rest
theorem PlantMoved.pending : t.pending = s.pending := congrArg (fun x => x.pending) h.rest

end

/-! ### The books, the nominations and the due marks -/

/-- `t` differs from `s` at most in ACT, NST, PLU, SNS, ALS and the link. -/
structure BooksMoved (s t : State) : Prop where
  rest : { t with act := s.act, nst := s.nst, plu := s.plu, sns := s.sns, als := s.als, slk := s.slk } = s

theorem BooksMoved.refl (s : State) : BooksMoved s s := ⟨rfl⟩

theorem BooksMoved.trans {s t u : State} (h1 : BooksMoved s t) (h2 : BooksMoved t u) : BooksMoved s u :=
  ⟨(congrArg (fun x : State => { x with act := s.act, nst := s.nst, plu := s.plu, sns := s.sns, als := s.als
                                        slk := s.slk }) h2.rest).trans h1.rest⟩

theorem BooksMoved.ite {s a b : State} {p : Prop} [Decidable p] (h1 : BooksMoved s a) (h2 : BooksMoved s b) :
    BooksMoved s (if p then a else b) := by split <;> assumption

theorem Reported.books {s t : State} (h : Reported s t) : BooksMoved s t :=
  ⟨(congrArg (fun x : State => { x with act := s.act, nst := s.nst, plu := s.plu, sns := s.sns, slk := s.slk })
     h.rest).trans rfl⟩

section
variable {s t : State} (h : BooksMoved s t)
include h

theorem BooksMoved.clk : t.clk = s.clk := congrArg (fun x => x.clk) h.rest
theorem BooksMoved.sts : t.sts = s.sts := congrArg (fun x => x.sts) h.rest
theorem BooksMoved.cvc : t.cvc = s.cvc := congrArg (fun x => x.cvc) h.rest
theorem BooksMoved.cdu : t.cdu = s.cdu := congrArg (fun x => x.cdu) h.rest
theorem BooksMoved.ori : t.ori = s.ori := congrArg (fun x => x.ori) h.rest
theorem BooksMoved.pending : t.pending = s.pending := congrArg (fun x => x.pending) h.rest

end

/-! ### What only books -/

theorem State.makePlanDue_books (s : State) : BooksMoved s s.makePlanDue := ⟨rfl⟩

theorem State.makeSnapshotDue_books (s : State) : BooksMoved s s.makeSnapshotDue := ⟨rfl⟩

theorem State.setAccount_books (s : State) (n : Nat) (a : Account) : BooksMoved s (s.setAccount n a) := ⟨rfl⟩

theorem State.setPartition_books (s : State) (n : Nat) (p : Partition) : BooksMoved s (s.setPartition n p) := ⟨rfl⟩

theorem State.raise_books (s : State) (k : AlertKind) (o : Nat) : BooksMoved s (s.raise k o) :=
  (s.raise_reported k o).books

theorem State.checkWarning_books (s : State) (n before : Nat) : BooksMoved s (s.checkWarning n before) := by
  unfold State.checkWarning
  exact .ite ((s.setPartition_books n _).trans (State.raise_books _ _ _)) (.ite (s.setPartition_books n _) (.refl s))

theorem State.retirePartition_books (h : Nat) (s : State) (n : Nat) : BooksMoved s (s.retirePartition h n) :=
  (s.setPartition_books n _).trans (State.checkWarning_books _ _ _)

theorem State.retireHours_books (s : State) (h : Nat) : BooksMoved s (s.retireHours h) :=
  State.forEach_induct (P := BooksMoved s) (.refl s) (fun u n _ hu => hu.trans (u.retirePartition_books h n))

theorem State.forgetShipper_books (s : State) (n : Nat) : BooksMoved s (s.forgetShipper n) := by
  unfold State.forgetShipper
  repeat' split
  · exact ⟨rfl⟩
  · exact .refl s
  · exact .refl s

theorem State.shipperAction_books (s : State) (n action : Nat) (r : Rights) :
    BooksMoved s (s.shipperAction n action r).1 := by
  refine BooksMoved.trans ?_ (State.makeSnapshotDue_books _)
  refine .ite ⟨rfl⟩ (.ite ?setRights (.ite ?suspend (.ite ?reactivate ?close)))
  case setRights => exact .ite ((s.setAccount_books n _).trans (State.raise_books _ _ _)) ⟨rfl⟩
  case suspend => exact .ite (.refl s) ⟨rfl⟩
  case reactivate => exact .ite (.refl s) ⟨rfl⟩
  case close => exact ((s.setAccount_books n _).trans (State.forgetShipper_books _ n)).trans (State.makePlanDue_books _)

theorem State.loadInventory_books (s : State) (n inventory : Nat) : BooksMoved s (s.loadInventory n inventory) := by
  refine BooksMoved.trans ?_ (State.makeSnapshotDue_books _)
  refine .ite ?_ ⟨rfl⟩
  refine BooksMoved.trans ?_ (State.raise_books _ _ _)
  exact ⟨rfl⟩

theorem State.applyNomination_books (s : State) (n : Nat) (e : NomEntry) : BooksMoved s (s.applyNomination n e) := by
  refine BooksMoved.trans ?_ (State.makeSnapshotDue_books _)
  have h := (s.setPartition_books n { s.partition n with entries := s.editedList n e }).trans
    (State.checkWarning_books _ n (s.partition n).entries.length)
  exact .ite (h.trans (State.makePlanDue_books _)) h

theorem State.controlAlerts_books (s : State) (set clear pend : Nat) :
    BooksMoved s (s.controlAlerts set clear pend) := .ite ⟨rfl⟩ ⟨rfl⟩

end Sys2Proof.Machine
end

section
/-! A law that every command keeps, reduced to what the blocks' own operations keep: the steps that are due, the
begins, the three completions, the second event, the release of reset, the trip pin and the answers to requests. -/

namespace Sys2Proof.Machine

/-- What has to be shown of a property that does not speak of the link, for every command to keep it. -/
structure StepLaw (P : State → Prop) : Prop where
  link : ∀ s l, P s → P { s with slk := l }
  resend : ∀ s, P s → P s.resendUnsent
  settleExpiry : ∀ j s, P s → P (stepSettleExpiry j s)
  valveFault : ∀ j s, P s → P (stepValveFault j s)
  timeoutExpiry : ∀ k s, P s → P (stepTimeoutExpiry k s)
  minRunExpiry : ∀ k s, P s → P (stepMinRunExpiry k s)
  minStopExpiry : ∀ k s, P s → P (stepMinStopExpiry k s)
  startListDrop : ∀ k s, P s → P (stepStartListDrop k s)
  heatingExpiry : ∀ s, P s → P (stepHeatingExpiry s)
  coolingExpiry : ∀ t s, P s → P (stepCoolingExpiry t s)
  offspecEntry : ∀ t s, P s → P (stepOffspecEntry t s)
  offspecRecovery : ∀ t s, P s → P (stepOffspecRecovery t s)
  minute : ∀ s, P s → P (stepMinute s)
  boundary : ∀ s, P s → P (stepBoundary s)
  status : ∀ s, P s → P (stepStatus s)
  closeBegin : ∀ s, P s → P (stepCloseBegin s)
  planBegin : ∀ s, P s → P (stepPlanBegin s)
  snapshotBegin : ∀ s, P s → P (stepSnapshotBegin s)
  completeClose : ∀ s, P s → P s.completeClose
  completePlan : ∀ s, P s → P s.completePlan
  completeWrite : ∀ verify s, P s → P (s.completeWrite verify)
  second : ∀ s, P s → P s.second
  assertReset : ∀ s, P s → P s.assertReset
  release : ∀ crc trip b1 b0 s, P s → P (s.release crc trip b1 b0)
  tripPin : ∀ s, P s → s.sts.tripActive = false →
    P ({ s with sts := { s.sts with tripActive := true } } : State).tripAsserted
  tripRelease : ∀ s, P s → P { s with sts := { s.sts with tripActive := false } }
  answer : ∀ b s, P s → P (s.answer b).state

/-- Steps that each keep a property keep it in turn. -/
theorem runSteps_keeps {P : State → Prop} {steps : List (State → State)} {s : State}
    (h : ∀ f ∈ steps, ∀ s, P s → P (f s)) (hs : P s) : P (runSteps steps s) := by
  induction steps generalizing s with
  | nil => exact hs
  | cons f fs ih =>
    exact ih (fun g hg => h g (List.mem_cons_of_mem _ hg)) (h f (List.mem_cons_self ..) s hs)

/-- A step the part makes due itself keeps what its effect keeps. -/
theorem internal_keeps {P : State → Prop} {f : State → State} {s : State} (hf : ∀ s, P s → P (f s)) (hs : P s) :
    P (internal s f) := by
  unfold internal
  split
  · exact hs
  · exact hf _ hs

namespace StepLaw

variable {P : State → Prop} (h : StepLaw P) {s : State}
include h

theorem handle (r : Request) (hs : P s) : P (s.handle r) := by
  have hp : P ((s.answer r.body).state.pushRecord (replyTo r (s.answer r.body))) :=
    h.link _ _ (h.answer r.body s hs)
  unfold State.handle
  split
  · exact h.resend _ hp
  · exact hp

theorem takeHead (hs : P s) : P s.takeHead := by
  unfold State.takeHead
  repeat' split
  · exact hs
  · exact h.link _ _ (h.handle _ hs)
  · exact hs

theorem enqueue (r : Request) (hs : P s) : P (s.enqueue r) := by
  unfold State.enqueue
  split <;> exact h.link _ _ hs

theorem byteEvent (e : ByteEvent) (hs : P s) : P (s.byteEvent e) := by
  cases e with
  | none => exact hs
  | badLength => exact h.link _ _ hs
  | badCheck => exact h.link _ _ hs
  | frame r => exact h.takeHead (h.enqueue r hs)

theorem parserTimeout (hs : P s) : P s.parserTimeout := by
  unfold State.parserTimeout
  split
  · exact hs
  · exact h.link _ _ hs

theorem recordSent (hs : P s) : P s.recordSent := by
  obtain ⟨_, e⟩ | ⟨x, rest, _, ⟨_, e⟩ | ⟨_, e⟩⟩ := s.recordSent_eq <;> rw [e]
  · exact hs
  · exact h.takeHead (h.resend _ (h.link _ _ hs))
  · exact h.takeHead (h.link _ _ hs)

theorem beginAndDrain (hs : P s) : P (beginAndDrain s) := by
  have hb : P (runSteps beginSteps s) := by
    refine runSteps_keeps ?_ hs
    simp only [beginSteps, List.forall_mem_cons]
    exact ⟨h.closeBegin, h.planBegin, h.snapshotBegin, List.forall_mem_nil _⟩
  have hd : ∀ n u, P u → P (drain n u) := by
    intro n
    induction n with
    | zero => exact fun _ hu => hu
    | succ n ih => exact fun u hu => ih _ (h.snapshotBegin _ (h.planBegin _ (h.takeHead hu)))
  exact hd 8 _ hb

theorem settle (hs : P s) : P (settle s) := by
  refine h.beginAndDrain (runSteps_keeps ?_ hs)
  simp only [secondSteps, List.forall_mem_append, List.forall_mem_map, List.forall_mem_cons]
  exact ⟨⟨⟨⟨⟨⟨⟨⟨⟨⟨fun j _ => h.settleExpiry j, fun j _ => h.valveFault j⟩, fun k _ => h.timeoutExpiry k⟩,
    fun k _ => h.minRunExpiry k⟩, fun k _ => h.minStopExpiry k⟩, fun k _ => h.startListDrop k⟩,
    h.heatingExpiry, List.forall_mem_nil _⟩, fun t _ => h.coolingExpiry t⟩, fun t _ => h.offspecEntry t⟩,
    fun t _ => h.offspecRecovery t⟩, h.minute, h.boundary, h.status, List.forall_mem_nil _⟩

theorem external (f : State → State) (hf : ∀ s, P s → P (f s)) (hs : P s) : P (external s f) := by
  unfold Machine.external
  split
  · exact hs
  · exact hf _ (h.settle hs)

theorem submit (r : Request) (hs : P s) : P (submit r s) :=
  h.external _ (fun _ hu => h.takeHead (h.enqueue r hu)) hs

/-- Every command answers a next state, and keeps the law. -/
theorem exec (c : Instr) (hs : P s) : ∃ t, exec c s = .next t ∧ P t := by
  have ext := fun f hf => h.external (s := s) f hf hs
  have int := fun f hf => internal_keeps (P := P) (f := f) (s := s) hf hs
  have byte : ∀ x u, P u → P (State.takeByte u x) := fun x u hu => h.byteEvent _ (h.link _ _ hu)
  cases hr : requestOf c with
  | some r => exact ⟨_, exec_of_request hr s, h.submit r hs⟩
  | none =>
    cases c
    case powerOnOrReset crc trip b1 b0 =>
      refine ⟨_, rfl, h.release crc trip b1 b0 _ ?_⟩
      split
      · exact hs
      · exact h.assertReset _ (h.settle hs)
    case resetAsserted => exact ⟨_, rfl, ext _ h.assertReset⟩
    case tripNAssertion =>
      refine ⟨_, rfl, ext _ (fun u hu => ?_)⟩
      dsimp only
      split
      · exact hu
      · next ht => exact h.tripPin u hu (by simpa using ht)
    case tripNRelease => exact ⟨_, rfl, ext _ h.tripRelease⟩
    case secondEvent => exact ⟨_, rfl, ext _ h.second⟩
    case minuteEvent => exact ⟨_, rfl, int _ h.minute⟩
    case hourBoundary => exact ⟨_, rfl, int _ h.boundary⟩
    case hourCloseBegin => exact ⟨_, rfl, int _ h.closeBegin⟩
    case hourCloseComplete =>
      refine ⟨_, rfl, ext _ (fun u hu => ?_)⟩
      obtain ⟨_, e⟩ | ⟨_, e⟩ := u.closeCompleted_eq <;> rw [e]
      · exact h.beginAndDrain (h.completeClose u hu)
      · exact hu
    case planEvaluationBegin => exact ⟨_, rfl, int _ h.planBegin⟩
    case planEvaluationComplete => exact ⟨_, rfl, ext _ h.completePlan⟩
    case snapshotWriteBegin => exact ⟨_, rfl, int _ h.snapshotBegin⟩
    case snapshotWriteComplete v => exact ⟨_, rfl, ext _ (h.completeWrite v)⟩
    case settleTimerExpiry j => exact ⟨_, rfl, int _ (h.settleExpiry j)⟩
    case valveFault j => exact ⟨_, rfl, int _ (h.valveFault j)⟩
    case minRunExpiry k => exact ⟨_, rfl, int _ (h.minRunExpiry k)⟩
    case minStopExpiry k => exact ⟨_, rfl, int _ (h.minStopExpiry k)⟩
    case timeoutExpiry k => exact ⟨_, rfl, int _ (h.timeoutExpiry k)⟩
    case startListEntryDrop k => exact ⟨_, rfl, int _ (h.startListDrop k)⟩
    case heatingExpiry => exact ⟨_, rfl, int _ h.heatingExpiry⟩
    case coolingExpiry t => exact ⟨_, rfl, int _ (h.coolingExpiry t)⟩
    case offspecEntry t => exact ⟨_, rfl, int _ (h.offspecEntry t)⟩
    case offspecRecovery t => exact ⟨_, rfl, int _ (h.offspecRecovery t)⟩
    case statusCountdownExpiry => exact ⟨_, rfl, int _ h.status⟩
    case frameReceived x => exact ⟨_, rfl, ext _ (byte x)⟩
    case byteReceived x => exact ⟨_, rfl, ext _ (byte x)⟩
    case parserTimeout => exact ⟨_, rfl, ext _ (fun _ hu => h.parserTimeout hu)⟩
    case recordSent => exact ⟨_, rfl, ext _ (fun _ hu => h.recordSent hu)⟩
    all_goals cases hr

/-- Every step keeps a law that does not speak of the commands that wait. -/
theorem step (hp : ∀ u l, P u → P { u with pending := l }) {t : State} (hs : P s)
    (ht : Machine.step s = .next t) : P t := by
  unfold Machine.step at ht
  cases hc : s.pending with
  | nil => simp only [hc] at ht; cases ht; exact hs
  | cons c rest =>
    simp only [hc] at ht
    obtain ⟨u, hu, hP⟩ := h.exec c (hp s rest hs)
    rw [hu] at ht
    cases ht
    exact hP

end StepLaw

/-- A request answered by its checks keeps what its effect keeps. -/
theorem answerBy_keeps {P : State → Prop} {s : State} {refusal : Option Result} {effect : State × Result}
    {items : State → List Item} (hs : P s) (he : refusal = none → P effect.1) :
    P (answerBy s refusal effect items).state := by
  unfold answerBy
  split
  · exact hs
  · exact he rfl

end Sys2Proof.Machine
end

section
/-! The frames of the deliveries, the station commands and the plant requests, and what they give of the commands that
wait. -/

namespace Sys2Proof.Machine

/-! ### What SMT delivers -/

theorem State.deliverArrival_plant (s : State) (k : PointKind) (value : Nat) :
    PlantMoved s (s.deliverArrival k value) := by
  cases k
  case wellPressure j => exact (s.pressureArrival_moved j value).plant
  case runFeedback k => exact (s.feedbackArrival_moved k value).plant
  all_goals exact .refl s

theorem State.deliverQuality_plant (s : State) (k : PointKind) (q : Quality) :
    PlantMoved s (s.deliverQuality k q) := by
  cases k
  case wellPressure j => exact (s.pressureQuality_moved j q).plant
  case runFeedback k => exact (s.feedbackQuality_moved k q).plant
  case meterRate => exact .ite (s.raise_reported _ _).plant (.refl s)
  case calorific => exact .ite (s.raise_reported _ _).plant (.refl s)
  all_goals exact .refl s

theorem deliverChange_plant (old : List Point) (s : State) (p : Nat) : PlantMoved s (deliverChange old s p) := by
  unfold deliverChange
  repeat' split
  · exact .refl s
  · exact s.deliverQuality_plant _ _
  · exact .refl s

/-- Grading writes the graded points, and otherwise delivers. -/
theorem State.gradeAll_plant (s : State) (f : PointKind → Point → Point) :
    PlantMoved { s with smt := gradePoints f 0 s.smt } (s.gradeAll f) :=
  State.forEach_induct (P := PlantMoved { s with smt := gradePoints f 0 s.smt }) (.refl _)
    (fun u p _ h => h.trans (deliverChange_plant s.smt u p))

theorem State.storeSample_plant (s : State) (p : Nat) (k : PointKind) (value : Nat) (clamped : Bool) :
    PlantMoved (s.setPoint p ⟨value, 0, .good, clamped⟩) (s.storeSample p k value clamped) := by
  have h := (s.setPoint p ⟨value, 0, .good, clamped⟩).deliverArrival_plant k value
  exact .ite h (h.trans (State.deliverQuality_plant _ _ _))

/-- A pair that is taken stores its point and delivers it; any other changes nothing. -/
theorem State.takePair_cases (s : State) (p value : Nat) :
    (s.takePair p value).1 = s ∨ ∃ k v clamped, (s.takePair p value).1 = s.storeSample p k v clamped := by
  unfold State.takePair
  cases pointKind p with
  | none => exact .inl rfl
  | some k =>
    dsimp only
    split
    · cases storedValue k value with
      | none => exact .inl rfl
      | some x => exact .inr ⟨k, x.1, x.2, rfl⟩
    · exact .inl rfl

/-- What every stored pair keeps, the pairs keep. -/
theorem State.takePairs_keeps {P : State → Prop} (h : ∀ u p k v c, P u → P (State.storeSample u p k v c))
    (ps : List (Nat × Nat)) {s : State} (hs : P s) : P (s.takePairs ps).1 := by
  induction ps generalizing s with
  | nil => exact hs
  | cons q ps ih =>
    refine ih ?_
    obtain e | ⟨k, v, c, e⟩ := s.takePair_cases q.1 q.2
    · rw [e]; exact hs
    · rw [e]; exact h _ _ _ _ _ hs

/-- Clearing points touches the sample table alone. -/
theorem State.clearPoints_eq (s : State) (ps : List Nat) :
    s.clearPoints ps = { s with smt := ps.foldl (fun l p => l.set p Point.never) s.smt } := by
  induction ps generalizing s with
  | nil => rfl
  | cons p ps ih => exact ih (s.setPoint p Point.never)

/-! ### The station commands -/

theorem State.safeOrders_plant (s : State) : PlantMoved s s.safeOrders := by
  unfold State.safeOrders
  refine State.forEach_induct (P := PlantMoved s) ?_ (fun u t _ h => h.trans (u.writeOrder_ordered _ _).plant)
  refine State.forEach_induct (P := PlantMoved s) ?_ (fun u k _ h => h.trans (u.writeOrder_ordered _ _).plant)
  refine State.forEach_induct (P := PlantMoved s) (.refl s) (fun u j _ h => h.trans ?_)
  exact .ite ((u.writeOrder_ordered _ _).caverns.trans (State.modCavern_moved _ _ _)).plant
    (u.writeOrder_ordered _ _).plant

theorem State.start_plant (s : State) : PlantMoved (s.setStation .running) s.start :=
  ((State.makePlanDue_caverns _).plant.trans (State.writeOrderIfNew_ordered _ _ _).plant).trans
    (State.formAllCaps_moved _).plant

theorem State.blocksStop_plant (s : State) : PlantMoved s s.cavernsStop.unitsStop.trainsStop :=
  (s.cavernsStop_moved.plant.trans (State.unitsStop_moved _).plant).trans (State.trainsStop_moved _).plant

theorem State.park_plant (s : State) : PlantMoved (s.setStation .parked) s.park :=
  ((State.safeOrders_plant _).trans (State.makePlanDue_caverns _).plant).trans (State.blocksStop_plant _)

theorem State.resume_plant (s : State) : PlantMoved (s.setStation .parked) s.resume :=
  ((State.makePlanDue_caverns _).plant.trans (State.blocksStop_plant _)).trans (State.serveHeater_moved _).plant

theorem State.tripEntry_plant (s : State) : PlantMoved (s.setStation .tripped) s.tripEntry :=
  (((((State.safeOrders_plant _).trans (State.writeOrder_ordered _ _ _).plant).trans
    (State.makePlanDue_caverns _).plant).trans (State.abortHeating_moved _).plant).trans
    (State.raise_reported _ _ _).plant).trans (State.blocksStop_plant _)

/-- A trip enters TRIPPED, or only reports. -/
theorem State.tripAsserted_plant (s : State) :
    ∃ st, PlantMoved (s.setStation st) s.tripAsserted := by
  unfold State.tripAsserted
  cases h : s.sts.state
  case parked => exact ⟨_, s.tripEntry_plant⟩
  case running => exact ⟨_, s.tripEntry_plant⟩
  all_goals
    refine ⟨s.sts.state, ?_⟩
    exact (s.raise_reported _ _).plant

/-- An accepted STATION COMMAND sets the station state, and otherwise moves the plant. -/
theorem State.command_plant (s : State) (action : Nat) : ∃ st, PlantMoved (s.setStation st) (s.command action) := by
  unfold State.command
  split
  · exact ⟨_, s.start_plant⟩
  split
  · exact ⟨_, s.park_plant⟩
  split
  · exact s.tripAsserted_plant
  · exact ⟨_, s.resume_plant⟩

theorem State.leaveBlank_plant (s : State) : ∃ st, PlantMoved (s.setStation st) s.leaveBlank := by
  unfold State.leaveBlank
  split
  · split
    · exact ⟨_, s.tripEntry_plant⟩
    · exact ⟨_, (State.makePlanDue_caverns _).plant⟩
  · exact ⟨s.sts.state, .refl s⟩

theorem State.gasDayRollover_plant (s : State) : PlantMoved s s.gasDayRollover :=
  s.cavernRollover_moved.plant.trans (State.unitRollover_moved _).plant

/-! ### The plant requests -/

theorem State.cavernInService_moved (s : State) (j : Nat) : CavernsMoved s (s.cavernInService j) := by
  unfold State.cavernInService
  split
  · exact .ite (((s.setCavern_moved j _).trans (State.makePlanDue_caverns _)).trans (State.cavernsChanged_moved _))
      (.refl s)
  · exact .refl s

theorem State.cavernOutOfService_moved (s : State) (j : Nat) : CavernsMoved s (s.cavernOutOfService j) := by
  unfold State.cavernOutOfService
  split
  · exact .ite (.refl s) ((((s.shutCavern_moved j).trans (State.modCavern_moved _ _ _)).trans
      (State.makePlanDue_caverns _)).trans (State.cavernsChanged_moved _))
  · exact .refl s

theorem State.abandonSettle_moved (s : State) (j : Nat) : CavernsMoved s (s.abandonSettle j) := by
  unfold State.abandonSettle
  split
  · exact .ite (((s.setCavern_moved j _).trans (State.makePlanDue_caverns _)).trans (State.cavernsChanged_moved _))
      (.refl s)
  · exact .refl s

theorem State.changeUnit_duty_moved (s : State) (k : Nat) (u v : Compressor) :
    UnitsMoved s (dutyAfter (s.changeUnit k u v, 1)) :=
  UnitsMoved.trans (s.changeUnit_moved k u v) (dutyAfter_moved (s.changeUnit k u v, 1))

theorem State.unitAvailable_moved (s : State) (k : Nat) : UnitsMoved s (s.unitAvailable k) := by
  unfold State.unitAvailable
  split
  · exact .ite (s.changeUnit_duty_moved k _ _) (.refl s)
  · exact .refl s

theorem State.unitUnavailable_moved (s : State) (k : Nat) : UnitsMoved s (s.unitUnavailable k) := by
  unfold State.unitUnavailable
  split
  · exact .ite (.refl s) (s.changeUnit_duty_moved k _ _)
  · exact .refl s

theorem State.unitRelease_moved (s : State) (k : Nat) : UnitsMoved s (s.unitRelease k) := by
  unfold State.unitRelease
  split
  · exact .ite ((s.enterResting_moved k _).trans (dutyAfter_moved _)) (.refl s)
  · exact .refl s

theorem State.applyTrain_moved (s : State) (t : Nat) (f : TrainFields) : TrainsMoved s (s.applyTrain t f) :=
  ((s.setTrain_moved t _).trans (State.formTrain_moved _ _)).trans (State.switchTest_moved _ _)

theorem State.trainInService_moved (s : State) (t : Nat) : TrainsMoved s (s.trainInService t) := by
  unfold State.trainInService
  split
  · exact .ite ((s.changeTrain_moved t _ _).trans (State.decideMode_ordered _ _).trains) (.refl s)
  · exact .refl s

theorem State.trainOutOfService_moved (s : State) (t : Nat) : TrainsMoved s (s.trainOutOfService t) := by
  unfold State.trainOutOfService
  split
  · exact .ite (.refl s) ((s.changeTrain_moved t _ _).trans (State.decideMode_ordered _ _).trains)
  · exact .refl s

theorem State.trainSwitch_moved (s : State) (t : Nat) : TrainsMoved s (s.trainSwitch t) := by
  unfold State.trainSwitch
  split
  · exact .ite (s.switchBeds_moved t _) (.refl s)
  · exact .refl s

/-! ### What a discarded link leaves -/

/-- Marking the discarded orders touches the unsent marks of the order image alone. -/
theorem State.markUnsent_eq (s : State) (r : Record) :
    s.markUnsent r = s ∨ ∃ i e, s.order i = some e ∧
      s.markUnsent r = { s with ori := setNth s.ori i { e with unsent := true } } := by
  unfold State.markUnsent
  repeat' split
  · exact .inr ⟨_, _, ‹_›, rfl⟩
  · exact .inl rfl
  · exact .inl rfl

/-- What every marking of an unsent entry keeps, LINK RESET keeps of what is not the link's. -/
theorem State.clearLink_keeps {P : State → Prop} (hl : ∀ u l, P u → P { u with slk := l })
    (h : ∀ u : State, ∀ i e, P u → u.order i = some e → P { u with ori := setNth u.ori i { e with unsent := true } })
    {s : State} (hs : P s) : P s.clearLink := by
  have hm : ∀ (rs : List Record) u, P u → P (rs.foldl State.markUnsent u) := by
    intro rs
    induction rs with
    | nil => exact fun _ hu => hu
    | cons r rs ih =>
      intro u hu
      refine ih _ ?_
      obtain e | ⟨i, x, hi, e⟩ := u.markUnsent_eq r <;> rw [e]
      · exact hu
      · exact h u i x hu hi
  exact hl _ _ (hm _ s hs)

end Sys2Proof.Machine
end

section
/-! The frames of the second event and of an hour-close completion; and every command answers a next state and leaves
the commands that wait (01 R14, 00_scope.md 1.1). -/

open Sys2Proof Sys2Proof.Machine

namespace Sys2Proof.Machine

/-! ### The second event, block by block (log 4) -/

/-- What a second event brings in CVC, CDU and DRC. -/
def State.plantSecond (s : State) : State :=
  ((s.forEach cavernNumbers State.cavernSecond).forEach unitNumbers State.unitSecond).dryerSecond

theorem State.second_eq (s : State) : s.second = s.clockSecond.meterSecond.plantSecond.statusSecond.agePoints := rfl

theorem State.plantSecond_plant (s : State) : PlantMoved s s.plantSecond := by
  refine PlantMoved.trans ?_ (State.dryerSecond_moved _).plant
  refine State.forEach_induct (P := PlantMoved s) ?_ (fun u k _ h => h.trans (u.modUnit_moved k _).plant)
  exact State.forEach_induct (P := PlantMoved s) (.refl s) (fun u j _ h => h.trans (u.cavernSecond_moved j).plant)

/-- MTU's second event touches the meter alone. -/
theorem State.meterSecond_eq (s : State) : ∃ m, s.meterSecond = { s with mtu := m } := by
  unfold State.meterSecond
  split
  · exact ⟨s.mtu, rfl⟩
  · exact ⟨_, rfl⟩

/-- The status countdown is all that its second touches. -/
theorem State.statusSecond_eq (s : State) :
    s.statusSecond = { s with slk := { s.slk with
      statusCountdown := s.slk.statusCountdown - (if s.cfg.statusInterval = 0 then 0 else 1) } } := by
  unfold State.statusSecond
  by_cases h : s.cfg.statusInterval = 0
  · simp [h]
  · simp [h, Nat.pos_of_ne_zero h]

theorem State.agePoints_pending (s : State) : s.agePoints.pending = s.pending := (s.gradeAll_plant _).pending

theorem State.statusSecond_pending (s : State) : s.statusSecond.pending = s.pending := by
  rw [State.statusSecond_eq]

theorem State.meterSecond_pending (s : State) : s.meterSecond.pending = s.pending := by
  obtain ⟨m, h⟩ := s.meterSecond_eq
  rw [h]

theorem State.second_pending (s : State) : s.second.pending = s.pending := by
  rw [State.second_eq, State.agePoints_pending, State.statusSecond_pending, (State.plantSecond_plant _).pending,
    State.meterSecond_pending]
  rfl

theorem BooksMoved.of_act (s : State) (a : Accounts) : BooksMoved s { s with act := a } := ⟨rfl⟩

/-! ### An hour-close completion (10 R168) -/

theorem postShipper_books (rs : List (Option ShipperResult)) (s : State) (n : Nat) :
    BooksMoved s (postShipper rs s n) := by
  unfold postShipper
  split
  · exact .ite ((s.setAccount_books n _).trans (State.raise_books _ _ _)) (s.setAccount_books n _)
  · exact .refl s

theorem postCavern_moved (ls : List (Option CavernLine)) (s : State) (j : Nat) :
    CavernsMoved s (postCavern ls s j) := by
  unfold postCavern
  split
  · exact s.modCavern_moved j _
  · exact .refl s

theorem raiseOverrun_reported (rs : List (Option ShipperResult)) (s : State) (n : Nat) :
    Reported s (raiseOverrun rs s n) := by
  unfold raiseOverrun
  split
  · exact .ite (s.raise_reported _ _) (.refl s)
  · exact .refl s

theorem raiseOverSpace_reported (rs : List (Option ShipperResult)) (s : State) (n : Nat) :
    Reported s (raiseOverSpace rs s n) := by
  unfold raiseOverSpace
  split
  · exact .ite (s.raise_reported _ _) (.refl s)
  · exact .refl s

theorem State.raiseClose_reported (s : State) (r : CloseResult) : Reported s (s.raiseClose r) := by
  have h1 : Reported s (s.forEach r.failed (fun s n => s.raise .transferFailed n)) :=
    State.forEach_induct (P := Reported s) (.refl s) (fun u n _ h => h.trans (u.raise_reported _ _))
  have h2 := State.forEach_induct (P := Reported s) (ns := shipperNumbers) h1
    (fun u n _ h => h.trans (raiseOverrun_reported r.shippers u n))
  have h3 := State.forEach_induct (P := Reported s) (ns := shipperNumbers) h2
    (fun u n _ h => h.trans (raiseOverSpace_reported r.shippers u n))
  exact .ite (h3.trans (State.raise_reported _ _ _)) h3

theorem State.endClose_books (s : State) (h : Nat) :
    BooksMoved { s with hcu := { s.hcu with close := none } } (s.endClose h) :=
  ((State.retireHours_books _ h).trans (State.makePlanDue_books _)).trans (State.makeSnapshotDue_books _)

/-- What the books, the postings to the caverns and a change of HCU keep, a completion keeps. -/
theorem State.completeClose_keeps {P : State → Prop} (hb : ∀ u v, BooksMoved u v → P u → P v)
    (hc : ∀ ls u j, P u → P (postCavern ls u j)) (hh : ∀ u x, P u → P { u with hcu := x }) {s : State} (hs : P s) :
    P s.completeClose := by
  unfold State.completeClose
  split
  · exact hs
  · next f _ =>
    have h1 : P (s.forEach shipperNumbers (postShipper f.allocate.shippers)) :=
      State.forEach_induct hs (fun u n _ hu => hb _ _ (postShipper_books _ u n) hu)
    have h2 : P (s.postClose f f.allocate) :=
      State.forEach_induct (hb _ _ (BooksMoved.of_act _ _) h1) (fun u j _ hu => hc _ u j hu)
    have h3 : P ((s.postClose f f.allocate).recordClose f.allocate.record) := hh _ _ h2
    have h4 := hb _ _ (State.raiseClose_reported _ f.allocate).books h3
    exact hb _ _ (State.endClose_books _ _)
      (hh _ _ (hb _ _ (State.offerReport_reported _ (closeReport f.allocate.record)).books h4))

/-! ### The commands that wait -/

theorem State.cavernMinute_pending (s : State) : s.cavernMinute.pending = s.pending := s.cavernMinute_moved.plant.pending

theorem State.testRequirement_pending (s : State) : s.testRequirement.pending = s.pending := by
  unfold State.testRequirement
  dsimp only
  repeat' split
  all_goals rfl

theorem State.handHour_pending (s : State) : s.handHour.pending = s.pending := by
  unfold State.handHour
  split
  · rfl
  · exact (State.zeroVolumes_moved _).plant.pending

theorem stepMinute_pending (s : State) : (stepMinute s).pending = s.pending := by
  unfold stepMinute
  split
  · rw [State.testRequirement_pending, State.cavernMinute_pending]
  · rfl

theorem stepBoundary_pending (s : State) : (stepBoundary s).pending = s.pending := by
  unfold stepBoundary
  split
  · dsimp only
    split
    · rw [(State.gasDayRollover_plant _).pending, State.handHour_pending]
    · rw [State.handHour_pending]
  · rfl

theorem stepStatus_pending (s : State) : (stepStatus s).pending = s.pending := by
  unfold stepStatus
  split
  · exact (s.offerReport_reported _).plant.pending
  · rfl

theorem stepCloseBegin_pending (s : State) : (stepCloseBegin s).pending = s.pending := by
  unfold stepCloseBegin
  repeat' split
  all_goals rfl

theorem State.applyPlan_pending (s : State) (e : Evaluation) : (s.applyPlan e).pending = s.pending := by
  refine (State.offerReport_reported _ _).plant.pending.trans ?_
  split
  · exact (State.raise_reported _ _ _).plant.pending
  · rfl

theorem State.planTaken_plant (s : State) : PlantMoved s s.planTaken :=
  (s.splitFlow_moved.plant.trans (State.evaluateDuty_moved _).plant).trans (State.trainsPlan_moved _).plant

theorem State.completePlan_pending (s : State) : s.completePlan.pending = s.pending := by
  unfold State.completePlan
  repeat' split
  · rfl
  · rw [(State.planTaken_plant _).pending, State.applyPlan_pending]
  · rfl

theorem State.completeWrite_pending (s : State) (v : Bool) : (s.completeWrite v).pending = s.pending := by
  unfold State.completeWrite
  repeat' split
  · rfl
  · exact (State.raise_reported _ _ _).plant.pending
  · rfl

theorem State.release_pending (s : State) (crc trip b1 b0 : Bool) :
    (s.release crc trip b1 b0).pending = s.pending := by
  have hr : ∀ (u : State) k, (u.raise k 0).pending = u.pending := fun u k => (u.raise_reported k 0).plant.pending
  unfold State.release
  dsimp only
  split
  · rw [(State.serveHeater_moved _).plant.pending]
    split
    · exact (State.tripEntry_plant _).pending
    · rfl
  · repeat' split
    all_goals simp only [hr]
    all_goals rfl

theorem State.tripAsserted_pending (s : State) : s.tripAsserted.pending = s.pending := by
  obtain ⟨st, h⟩ := s.tripAsserted_plant
  exact h.pending

theorem State.acceptClock_pending (s : State) (d t : Nat) : (s.acceptClock d t).pending = s.pending := by
  have h (u : State) (x : Nat) : (u.retireHours x).makePlanDue.makeSnapshotDue.pending = u.pending := by
    rw [State.makeSnapshotDue_pending, State.makePlanDue_pending, (u.retireHours_books x).pending]
  unfold State.acceptClock
  dsimp only
  split
  · rw [h]
  · rw [(State.gasDayRollover_plant _).pending, h]

theorem State.regradePoints_pending (s : State) (old : ClassLimits) : (s.regradePoints old).pending = s.pending :=
  (s.gradeAll_plant _).pending

theorem State.acceptSettings_pending (s : State) (f : Settings) : (s.acceptSettings f).pending = s.pending := by
  obtain ⟨st, h⟩ := ((s.applySettings f).regradePoints s.cfg.limits).leaveBlank_plant
  unfold State.acceptSettings
  rw [State.makeSnapshotDue_pending, h.pending, State.setStation_pending, State.regradePoints_pending,
    State.applySettings_pending]

theorem State.cavernAction_pending (s : State) (j action : Nat) (f : CavernConfig) (ia : Nat) (v : Int) :
    (s.cavernAction j action f ia v).1.pending = s.pending := by
  unfold State.cavernAction
  split
  · dsimp only
    rw [State.makeSnapshotDue_pending]
    unfold State.applyCavern
    dsimp only
    split <;> rw [(State.cavernsChanged_moved _).plant.pending] <;> rfl
  · dsimp only
    rw [State.makeSnapshotDue_pending]
    unfold State.dropCavern
    rw [(State.cavernsChanged_moved _).plant.pending, State.clearPoints_eq]
    rfl

theorem State.cavernModeAction_pending (s : State) (j action : Nat) :
    (s.cavernModeAction j action).pending = s.pending := by
  refine Eq.trans (State.makeSnapshotDue_pending _) ?_
  repeat' split
  · exact (s.cavernInService_moved j).plant.pending
  · exact (s.cavernOutOfService_moved j).plant.pending
  · exact (s.abandonSettle_moved j).plant.pending

theorem State.unitAction_pending (s : State) (k action : Nat) (f : UnitFields) :
    (s.unitAction k action f).1.pending = s.pending := by
  unfold State.unitAction
  split
  · rfl
  · dsimp only
    rw [State.makeSnapshotDue_pending]
    unfold State.dropUnit
    rw [State.clearPoints_eq]
    rfl

theorem State.unitModeAction_pending (s : State) (k action : Nat) :
    (s.unitModeAction k action).pending = s.pending := by
  refine Eq.trans (State.makeSnapshotDue_pending _) ?_
  repeat' split
  · exact (s.unitAvailable_moved k).plant.pending
  · exact (s.unitUnavailable_moved k).plant.pending
  · exact (s.unitRelease_moved k).plant.pending

theorem State.trainAction_pending (s : State) (t action : Nat) (f : TrainFields) :
    (s.trainAction t action f).1.pending = s.pending := by
  unfold State.trainAction
  split
  · exact (s.applyTrain_moved t f).plant.pending
  · dsimp only
    rw [State.makeSnapshotDue_pending]
    unfold State.dropTrain
    rw [(State.writeTrainStep_ordered _ _ _).plant.pending, (State.writeTrainBed_ordered _ _ _).plant.pending,
      State.clearPoints_eq]
    rfl

theorem State.trainModeAction_pending (s : State) (t action : Nat) :
    (s.trainModeAction t action).pending = s.pending := by
  refine Eq.trans (State.makeSnapshotDue_pending _) ?_
  repeat' split
  · exact (s.trainInService_moved t).plant.pending
  · exact (s.trainOutOfService_moved t).plant.pending
  · exact (s.trainSwitch_moved t).plant.pending

theorem State.answer_pending (b : ReqBody) (s : State) : (s.answer b).state.pending = s.pending := by
  have by_checks {refusal effect items} (he : effect.1.pending = s.pending) :
      (answerBy s refusal effect items).state.pending = s.pending :=
    answerBy_keeps (P := fun u => u.pending = s.pending) rfl (fun _ => he)
  cases b <;> simp only [State.answer]
  case setClock d t =>
    unfold State.setClock
    split
    · exact by_checks rfl
    · exact by_checks (s.acceptClock_pending d t)
  case stationCommand a =>
    obtain ⟨st, h⟩ := s.command_plant a
    exact by_checks h.pending
  case stationStatus => rfl
  case configureStation f => exact by_checks (s.acceptSettings_pending f)
  case sample ps =>
    split
    · exact State.takePairs_keeps (P := fun u => u.pending = s.pending)
        (fun u p k v c hu => (u.storeSample_plant p k v c).pending.trans hu) ps rfl
    · rfl
  case pointQuery f c => unfold State.pointQuery; split <;> rfl
  case configureShipper n a r => exact by_checks (s.shipperAction_books n a r).pending
  case loadBalance n x => exact by_checks (s.loadInventory_books n x).pending
  case transfer a b x h => unfold State.requestTransfer; dsimp only; split <;> rfl
  case accountQuery n c =>
    unfold State.accountQuery
    repeat' split
    all_goals rfl
  case allocationQuery => rfl
  case nominate n f sp d q =>
    unfold State.nominate
    dsimp only
    repeat' split
    · rfl
    · rfl
    · exact (s.applyNomination_books n _).pending
  case nominationQuery n f => unfold State.nominationQuery; split <;> rfl
  case planQuery => rfl
  case configureCavern j a f ia v => exact by_checks (s.cavernAction_pending j a f ia v)
  case cavernMode j a =>
    unfold State.cavernMode
    dsimp only
    split
    · rfl
    · exact s.cavernModeAction_pending j a
  case cavernQuery => rfl
  case configureUnit k a f => exact by_checks (s.unitAction_pending k a f)
  case unitMode k a =>
    unfold State.unitMode
    dsimp only
    split
    · rfl
    · exact s.unitModeAction_pending k a
  case unitQuery => rfl
  case configureTrain t a f => exact by_checks (s.trainAction_pending t a f)
  case trainMode t a => exact by_checks (s.trainModeAction_pending t a)
  case trainQuery => rfl
  case orderQuery f c => unfold State.orderQuery; split <;> rfl
  case alertQuery => rfl
  case alertControl a b c => exact by_checks (s.controlAlerts_books a b c).pending
  case linkStatus => rfl
  case linkReset =>
    exact State.clearLink_keeps (P := fun u => u.pending = s.pending) (fun _ _ hu => hu) (fun _ _ _ hu _ => hu) rfl

/-- No command touches the commands that wait. -/
theorem pending_stepLaw (p : List Instr) : StepLaw (fun s => s.pending = p) where
  link _ _ h := h
  resend s h := s.resendUnsent_ordered.plant.pending.trans h
  settleExpiry j s h := (stepSettleExpiry_moved j s).plant.pending.trans h
  valveFault j s h := (stepValveFault_moved j s).plant.pending.trans h
  timeoutExpiry k s h := (stepTimeoutExpiry_moved k s).plant.pending.trans h
  minRunExpiry k s h := (stepMinRunExpiry_moved k s).plant.pending.trans h
  minStopExpiry k s h := (stepMinStopExpiry_moved k s).plant.pending.trans h
  startListDrop k s h := (stepStartListDrop_moved k s).plant.pending.trans h
  heatingExpiry s h := (stepHeatingExpiry_moved s).plant.pending.trans h
  coolingExpiry t s h := (stepCoolingExpiry_moved t s).plant.pending.trans h
  offspecEntry t s h := (stepOffspecEntry_moved t s).plant.pending.trans h
  offspecRecovery t s h := (stepOffspecRecovery_moved t s).plant.pending.trans h
  minute s h := (stepMinute_pending s).trans h
  boundary s h := (stepBoundary_pending s).trans h
  status s h := (stepStatus_pending s).trans h
  closeBegin s h := (stepCloseBegin_pending s).trans h
  planBegin s h := by unfold stepPlanBegin; split <;> exact h
  snapshotBegin s h := by unfold stepSnapshotBegin; split <;> exact h
  completeClose s h :=
    State.completeClose_keeps (P := fun s => s.pending = p) (fun _ _ hb hu => hb.pending.trans hu)
      (fun ls u j hu => (postCavern_moved ls u j).plant.pending.trans hu) (fun _ _ hu => hu) h
  completePlan s h := s.completePlan_pending.trans h
  completeWrite v s h := (s.completeWrite_pending v).trans h
  second s h := s.second_pending.trans h
  assertReset _ h := h
  release crc trip b1 b0 s h := (s.release_pending crc trip b1 b0).trans h
  tripPin s h _ := (State.tripAsserted_pending _).trans h
  tripRelease _ h := h
  answer b s h := (s.answer_pending b).trans h

/-! ### Commands without effect -/

/-- The rows of the table by how they act: the release, a request, a step the part makes due itself, or another event
from outside. -/
theorem exec_cases (c : Instr) (s : State) :
    (∃ a b d e, c = .powerOnOrReset a b d e) ∨ (∃ f, exec c s = .next (external s f)) ∨
    (∃ f, exec c s = .next (internal s f)) := by
  cases hr : requestOf c with
  | some r => exact .inr (.inl ⟨_, exec_of_request hr s⟩)
  | none =>
    cases c
    case powerOnOrReset a b d e => exact .inl ⟨a, b, d, e, rfl⟩
    case resetAsserted => exact .inr (.inl ⟨_, rfl⟩)
    case tripNAssertion => exact .inr (.inl ⟨_, rfl⟩)
    case tripNRelease => exact .inr (.inl ⟨_, rfl⟩)
    case secondEvent => exact .inr (.inl ⟨_, rfl⟩)
    case hourCloseComplete => exact .inr (.inl ⟨_, rfl⟩)
    case planEvaluationComplete => exact .inr (.inl ⟨_, rfl⟩)
    case snapshotWriteComplete v => exact .inr (.inl ⟨_, rfl⟩)
    case frameReceived x => exact .inr (.inl ⟨_, rfl⟩)
    case byteReceived x => exact .inr (.inl ⟨_, rfl⟩)
    case parserTimeout => exact .inr (.inl ⟨_, rfl⟩)
    case recordSent => exact .inr (.inl ⟨_, rfl⟩)
    case minuteEvent => exact .inr (.inr ⟨_, rfl⟩)
    case hourBoundary => exact .inr (.inr ⟨_, rfl⟩)
    case hourCloseBegin => exact .inr (.inr ⟨_, rfl⟩)
    case planEvaluationBegin => exact .inr (.inr ⟨_, rfl⟩)
    case snapshotWriteBegin => exact .inr (.inr ⟨_, rfl⟩)
    case settleTimerExpiry j => exact .inr (.inr ⟨_, rfl⟩)
    case valveFault j => exact .inr (.inr ⟨_, rfl⟩)
    case minRunExpiry k => exact .inr (.inr ⟨_, rfl⟩)
    case minStopExpiry k => exact .inr (.inr ⟨_, rfl⟩)
    case timeoutExpiry k => exact .inr (.inr ⟨_, rfl⟩)
    case startListEntryDrop k => exact .inr (.inr ⟨_, rfl⟩)
    case heatingExpiry => exact .inr (.inr ⟨_, rfl⟩)
    case coolingExpiry t => exact .inr (.inr ⟨_, rfl⟩)
    case offspecEntry t => exact .inr (.inr ⟨_, rfl⟩)
    case offspecRecovery t => exact .inr (.inr ⟨_, rfl⟩)
    case statusCountdownExpiry => exact .inr (.inr ⟨_, rfl⟩)
    all_goals cases hr

/-- Held in reset, every command but the release leaves the state (log 7). -/
theorem exec_of_reset {c : Instr} {s : State} (h : s.sts.inReset = true)
    (hc : ∀ a b d e, c ≠ .powerOnOrReset a b d e) : exec c s = .next s := by
  obtain ⟨a, b, d, e, hp⟩ | ⟨f, hf⟩ | ⟨f, hf⟩ := exec_cases c s
  · exact absurd hp (hc a b d e)
  · rw [hf, external_of_reset h]
  · rw [hf]; simp [internal, h]

/-- In a quiet state a step that the part makes due itself has no effect (log 1). -/
theorem exec_ownStep_of_quiet {c : Instr} {s : State} (hc : ownSteps c = true) (h : s.quiet = true) :
    exec c s = .next s := by
  obtain ⟨hr, hp, hk, h1, h2, h3, _⟩ := State.quiet_parts h
  have int (f : State → State) (hf : f s = s) : Host.Outcome.next (internal s f) = (.next s : Step) := by
    rw [internal_of_released hr, hf]
  cases c
  case minuteEvent => exact int _ (stepMinute_of_calm hk)
  case hourBoundary => exact int _ (stepBoundary_of_calm hk)
  case hourCloseBegin => exact int _ (stepCloseBegin_of_not_due h1)
  case planEvaluationBegin => exact int _ (stepPlanBegin_of_not_due h2)
  case snapshotWriteBegin => exact int _ (stepSnapshotBegin_of_not_due h3)
  case settleTimerExpiry j => exact int _ (stepSettleExpiry_of_calm hp j)
  case valveFault j => exact int _ (stepValveFault_of_calm hp j)
  case minRunExpiry k => exact int _ (stepMinRunExpiry_of_calm hp k)
  case minStopExpiry k => exact int _ (stepMinStopExpiry_of_calm hp k)
  case timeoutExpiry k => exact int _ (stepTimeoutExpiry_of_calm hp k)
  case startListEntryDrop k => exact int _ (stepStartListDrop_of_calm hp k)
  case heatingExpiry => exact int _ (stepHeatingExpiry_of_calm hp)
  case coolingExpiry t => exact int _ (stepCoolingExpiry_of_calm hp t)
  case offspecEntry t => exact int _ (stepOffspecEntry_of_calm hp t)
  case offspecRecovery t => exact int _ (stepOffspecRecovery_of_calm hp t)
  case statusCountdownExpiry => exact int _ (stepStatus_of_calm hk)
  all_goals cases hc

/-- Settles O2: no command touches the commands that wait (`pending_stepLaw`), held in reset nothing acts, and in a
quiet state nothing is due. -/
theorem everyCommandAnswersNextState : Obligations.EveryCommandAnswersNextState :=
  ⟨fun c s => (pending_stepLaw s.pending).exec c rfl,
   fun _ _ h hc => exec_of_reset h hc,
   fun _ _ hc h => exec_ownStep_of_quiet hc h⟩

end Sys2Proof.Machine
end

section
/-! While the station is not RUNNING no flow and no compressor is ordered, and none runs (01 R12): what each operation
does to a station at rest, and that every step keeps the law. -/

open Sys2Proof Sys2Proof.Machine

namespace Sys2Proof.Machine

/-! ### A station at rest -/

/-- The station is not RUNNING, its orders are safe, and nothing flows or runs. -/
def State.resting (s : State) : Prop := s.sts.state ≠ .running ∧ s.ordersSafe = true ∧ s.atRest = true

theorem State.orderLaw_iff (s : State) : s.orderLaw = true ↔ s.sts.state = .running ∨ s.resting := by
  unfold State.orderLaw State.resting
  by_cases h : s.sts.state = .running <;> simp [h]

theorem State.ordersSafe_iff (s : State) : s.ordersSafe = true ↔
    (∀ j ∈ cavernNumbers, s.valveOrder j = .shut) ∧ (∀ k ∈ unitNumbers, s.runOrder k = .stop) := by
  simp only [State.ordersSafe, Bool.and_eq_true, List.all_eq_true, beq_iff_eq]

theorem State.atRest_iff (s : State) : s.atRest = true ↔
    (∀ j ∈ cavernNumbers, ∀ c, s.cavern j = some c → c.state.flowing = false) ∧
    (∀ k ∈ unitNumbers, ∀ u, s.unit k = some u → u.state.engaged = false) := by
  simp only [State.atRest, Bool.and_eq_true, List.all_eq_true, Bool.not_eq_true', Option.any_eq_false]

/-- A value that orders neither a flow nor a compressor. -/
def OrderValue.safe : OrderValue → Bool
  | .valve v => v == .shut
  | .run r => r == .stop
  | _ => true

/-- Every entry that `t` holds stands in `s` or is safe. -/
def OrdersSafer (s t : State) : Prop :=
  ∀ i e, t.order i = some e → e.value.safe = true ∨ ∃ e', s.order i = some e' ∧ e'.value = e.value

theorem State.valveOrder_eq_shut_iff (s : State) (j : Nat) : s.valveOrder j = .shut ↔
    ∀ e, s.order (valveActuator j) = some e → ∀ v, e.value = .valve v → v = .shut := by
  unfold State.valveOrder
  split
  · next v _ _ h => simp [h]
  · next h =>
    refine ⟨fun _ e he v hv => ?_, fun _ => rfl⟩
    obtain ⟨x, sec, u⟩ := e
    obtain rfl : x = .valve v := hv
    exact absurd he (h v sec u)

theorem State.runOrder_eq_stop_iff (s : State) (k : Nat) : s.runOrder k = .stop ↔
    ∀ e, s.order (runActuator k) = some e → ∀ r, e.value = .run r → r = .stop := by
  unfold State.runOrder
  split
  · next v _ _ h => simp [h]
  · next h =>
    refine ⟨fun _ e he v hv => ?_, fun _ => rfl⟩
    obtain ⟨x, sec, u⟩ := e
    obtain rfl : x = .run v := hv
    exact absurd he (h v sec u)

theorem OrdersSafer.trans {s t u : State} (h1 : OrdersSafer s t) (h2 : OrdersSafer t u) : OrdersSafer s u := by
  intro i e he
  obtain h | ⟨e', he', hv'⟩ := h2 i e he
  · exact .inl h
  · obtain h | ⟨e'', he'', hv''⟩ := h1 i e' he'
    · exact .inl (by rwa [← hv'])
    · exact .inr ⟨e'', he'', hv''.trans hv'⟩

theorem OrdersSafer.of_eq {s t : State} (h : t.ori = s.ori) : OrdersSafer s t :=
  fun i e he => .inr ⟨e, by rw [← he]; unfold State.order; rw [h], rfl⟩

theorem OrdersSafer.valveOrder {s t : State} (h : OrdersSafer s t) {j : Nat} (hs : s.valveOrder j = .shut) :
    t.valveOrder j = .shut := by
  refine (t.valveOrder_eq_shut_iff j).mpr (fun e he v hev => ?_)
  obtain hsafe | ⟨e', he', hee⟩ := h _ e he
  · simpa [OrderValue.safe, hev] using hsafe
  · exact (s.valveOrder_eq_shut_iff j).mp hs e' he' v (hee.trans hev)

theorem OrdersSafer.runOrder {s t : State} (h : OrdersSafer s t) {k : Nat} (hs : s.runOrder k = .stop) :
    t.runOrder k = .stop := by
  refine (t.runOrder_eq_stop_iff k).mpr (fun e he v hev => ?_)
  obtain hsafe | ⟨e', he', hee⟩ := h _ e he
  · simpa [OrderValue.safe, hev] using hsafe
  · exact (s.runOrder_eq_stop_iff k).mp hs e' he' v (hee.trans hev)

/-- Safer orders are safe where the orders were. -/
theorem OrdersSafer.ordersSafe {s t : State} (h : OrdersSafer s t) (hs : s.ordersSafe = true) :
    t.ordersSafe = true := by
  obtain ⟨hv, hr⟩ := s.ordersSafe_iff.mp hs
  exact t.ordersSafe_iff.mpr ⟨fun j hj => h.valveOrder (hv j hj), fun k hk => h.runOrder (hr k hk)⟩

/-! ### Operations that leave a station at rest -/

/-- Cavern `j` flows. -/
def State.flows (s : State) (j : Nat) : Prop := ∃ c, s.cavern j = some c ∧ c.state.flowing = true

/-- Unit `k` is STARTING or RUNNING. -/
def State.runs (s : State) (k : Nat) : Prop := ∃ u, s.unit k = some u ∧ u.state.engaged = true

theorem State.atRest_iff_not (s : State) : s.atRest = true ↔
    (∀ j ∈ cavernNumbers, ¬ s.flows j) ∧ (∀ k ∈ unitNumbers, ¬ s.runs k) := by
  rw [State.atRest_iff]
  simp [State.flows, State.runs]

/-- `t` has the station state of `s`; and while that is not RUNNING, `t` orders no more than is safe, and no cavern and
no unit comes into flow. -/
structure Safe (s t : State) : Prop where
  station : t.sts.state = s.sts.state
  orders : s.sts.state ≠ .running → OrdersSafer s t
  caverns : s.sts.state ≠ .running → ∀ j, t.flows j → s.flows j
  units : s.sts.state ≠ .running → ∀ k, t.runs k → s.runs k

theorem Safe.refl (s : State) : Safe s s := ⟨rfl, fun _ => .of_eq rfl, fun _ _ => id, fun _ _ => id⟩

theorem Safe.not_running {s t : State} (h : Safe s t) (hs : s.sts.state ≠ .running) : t.sts.state ≠ .running := by
  rwa [h.station]

theorem Safe.trans {s t u : State} (h1 : Safe s t) (h2 : Safe t u) : Safe s u :=
  ⟨h2.station.trans h1.station, fun h => (h1.orders h).trans (h2.orders (h1.not_running h)),
   fun h j hj => h1.caverns h j (h2.caverns (h1.not_running h) j hj),
   fun h k hk => h1.units h k (h2.units (h1.not_running h) k hk)⟩

theorem Safe.ite {s a b : State} {p : Prop} [Decidable p] (h1 : Safe s a) (h2 : Safe s b) :
    Safe s (if p then a else b) := by split <;> assumption

/-- A station at rest stays so. -/
theorem Safe.rests {s t : State} (h : Safe s t) : s.resting → t.resting := by
  intro ⟨hr, ho, ha⟩
  obtain ⟨hc, hu⟩ := s.atRest_iff_not.mp ha
  exact ⟨h.not_running hr, (h.orders hr).ordersSafe ho, t.atRest_iff_not.mpr
    ⟨fun j hj hf => hc j hj (h.caverns hr j hf), fun k hk hf => hu k hk (h.units hr k hf)⟩⟩

/-- A safe change keeps the law. -/
theorem Safe.law {s t : State} (h : Safe s t) (hs : s.orderLaw = true) : t.orderLaw = true := by
  rw [State.orderLaw_iff] at hs ⊢
  exact hs.imp (fun hr => h.station.trans hr) h.rests

/-- A change of blocks that neither order nor flow. -/
theorem Safe.of_eq {s t : State} (hsts : t.sts.state = s.sts.state) (hori : t.ori = s.ori) (hcvc : t.cvc = s.cvc)
    (hcdu : t.cdu.units = s.cdu.units) : Safe s t := by
  refine ⟨hsts, fun _ => .of_eq hori, fun _ j ⟨c, hc, hf⟩ => ⟨c, ?_, hf⟩, fun _ k ⟨u, hu, he⟩ => ⟨u, ?_, he⟩⟩
  · rw [← hc]; unfold State.cavern; rw [hcvc]
  · rw [← hu]; unfold State.unit; rw [hcdu]

/-- While RUNNING, whatever keeps the station state is safe. -/
theorem Safe.of_running {s t : State} (hr : s.sts.state = .running) (h : t.sts.state = s.sts.state) : Safe s t :=
  ⟨h, fun hs => absurd hr hs, fun hs => absurd hr hs, fun hs => absurd hr hs⟩

theorem BooksMoved.safe {s t : State} (h : BooksMoved s t) : Safe s t :=
  .of_eq (by rw [h.sts]) h.ori h.cvc (by rw [h.cdu])

theorem Reported.safe {s t : State} (h : Reported s t) : Safe s t := h.books.safe

/-- An order leaves caverns and units, so it is safe where its orders are. -/
theorem Ordered.safe {s t : State} (h : Ordered s t) (ho : OrdersSafer s t) : Safe s t := by
  refine ⟨by rw [h.plant.sts], fun _ => ho, fun _ j ⟨c, hc, hf⟩ => ⟨c, ?_, hf⟩, fun _ k ⟨u, hu, he⟩ => ⟨u, ?_, he⟩⟩
  · rw [← hc]; exact (h.cavern j).symm
  · rw [← hu]
    exact (congrArg (fun x : State => x.unit k) h.rest).symm

/-! ### Orders -/

theorem State.offerOrder_safer (s : State) (i : Nat) : OrdersSafer s (s.offerOrder i) := by
  intro k e he
  by_cases hk : k = i
  · subst hk
    cases h : s.order k with
    | none => simp only [State.offerOrder, h] at he; cases he
    | some x =>
      rw [State.order_offerOrder h] at he
      cases he
      exact .inr ⟨x, rfl, rfl⟩
  · rw [State.order_offerOrder_of_ne _ hk] at he
    exact .inr ⟨e, he, rfl⟩

theorem State.writeOrder_safer (s : State) (i : Nat) {v : OrderValue} (hv : v.safe = true) :
    OrdersSafer s (s.writeOrder i v) := by
  intro k e he
  by_cases hk : k = i
  · subst hk
    cases h : s.order k with
    | none => simp only [State.writeOrder, h] at he; cases he
    | some x =>
      rw [State.order_writeOrder v h] at he
      cases he
      exact .inl hv
  · rw [State.order_writeOrder_of_ne _ _ hk] at he
    exact .inr ⟨e, he, rfl⟩

theorem State.writeOrder_safe (s : State) (i : Nat) {v : OrderValue} (hv : v.safe = true) :
    Safe s (s.writeOrder i v) := (s.writeOrder_ordered i v).safe (s.writeOrder_safer i hv)

theorem State.writeOrderIfNew_safe (s : State) (i : Nat) {v : OrderValue} (hv : v.safe = true) :
    Safe s (s.writeOrderIfNew i v) := by
  unfold State.writeOrderIfNew
  split
  · exact .ite (.refl s) (s.writeOrder_safe i hv)
  · exact .refl s

theorem State.resendUnsent_safe (s : State) : Safe s s.resendUnsent := by
  refine State.forEach_induct (P := Safe s) (.refl s) (fun u i _ h => h.trans ?_)
  split
  · exact .ite ((u.offerOrder_ordered i).safe (u.offerOrder_safer i)) (.refl u)
  · exact .refl u

theorem State.markUnsent_safe (s : State) {i : Nat} {e : OrderEntry} (h : s.order i = some e) :
    Safe s { s with ori := setNth s.ori i { e with unsent := true } } := by
  refine ⟨rfl, fun _ k x hx => ?_, fun _ _ => id, fun _ _ => id⟩
  by_cases hk : k = i
  · subst hk
    obtain rfl : { e with unsent := true } = x := Option.some.inj ((nth_setNth_self _ h).symm.trans hx)
    exact .inr ⟨e, h, rfl⟩
  · exact .inr ⟨x, (nth_setNth_of_ne _ _ hk).symm.trans hx, rfl⟩

/-! ### CVC -/

/-- The record read is the one written, or none where the number names none. -/
theorem nth_setNth_cases {α : Type} {l : List α} {n : Nat} {x y : α} (h : nth (setNth l n x) n = some y) : y = x := by
  obtain ⟨z, hz⟩ := Option.isSome_iff_exists.mp
    (nth_isSome.mpr (by simpa using nth_isSome.mp (Option.isSome_of_eq_some h)) : (nth l n).isSome = true)
  rw [nth_setNth_self x hz] at h
  exact (Option.some.inj h).symm

/-- A cavern record written brings no flow where it does not flow, or flowed. -/
theorem State.setCavern_safe (s : State) (j : Nat) (x : Option Cavern)
    (h : ∀ c, x = some c → c.state.flowing = true → s.flows j) : Safe s (s.setCavern j x) := by
  refine ⟨rfl, fun _ => .of_eq rfl, fun _ i ⟨c, hc, hf⟩ => ?_, fun _ _ => id⟩
  by_cases hi : i = j
  · subst hi
    exact h c (nth_setNth_cases (Option.join_eq_some_iff.mp hc)).symm hf
  · exact ⟨c, by rwa [State.cavern_setCavern_of_ne _ _ hi] at hc, hf⟩

theorem State.modCavern_safe (s : State) (j : Nat) (f : Cavern → Cavern)
    (h : ∀ c, (f c).state.flowing = true → c.state.flowing = true) : Safe s (s.modCavern j f) := by
  obtain ⟨c, hc, e⟩ | ⟨_, e⟩ := s.modCavern_eq j f <;> rw [e]
  · exact s.setCavern_safe j _ (fun x hx hf => ⟨c, hc, h c (by cases hx; exact hf)⟩)
  · exact .refl s

theorem State.makePlanDue_safe (s : State) : Safe s s.makePlanDue := s.makePlanDue_books.safe

theorem State.writeValve_shut_safe (s : State) (j : Nat) : Safe s (s.writeValve j .shut) := by
  unfold State.writeValve
  exact .ite (.refl s) ((s.writeOrder_safe _ rfl).trans (State.modCavern_safe _ _ _ (fun _ => id)))

theorem State.writeRate_safe (s : State) (j n : Nat) : Safe s (s.writeRate j n) := s.writeOrderIfNew_safe _ rfl

theorem State.shutCavern_safe (s : State) (j : Nat) : Safe s (s.shutCavern j) :=
  ((s.writeValve_shut_safe j).trans (State.writeRate_safe _ _ _)).trans (State.modCavern_safe _ _ _ (fun _ => id))

theorem State.enterSettling_safe (s : State) (j : Nat) : Safe s (s.enterSettling j) := by
  refine ((s.shutCavern_safe j).trans (State.modCavern_safe _ _ _ (fun c hf => ?_))).trans (State.makePlanDue_safe _)
  split at hf <;> cases hf

theorem State.formCaps_safe (s : State) (j : Nat) : Safe s (s.formCaps j).1 := by
  unfold State.formCaps
  cases h : s.cavern j with
  | none => exact .refl s
  | some c =>
    have hset : ∀ x : Cavern, x.state = c.state → Safe s (s.setCavern j (some x)) := fun x hx =>
      s.setCavern_safe j _ (fun y hy hf => ⟨c, h, by cases hy; rwa [hx] at hf⟩)
    refine .ite (Safe.trans (hset _ ?_) (State.makePlanDue_safe _)) (hset _ ?_) <;> rfl

/-- What the forming of one cavern's caps keeps, the forming of all keeps. -/
theorem State.formAllCaps_keeps {P : State → Prop} (h : ∀ u j, j ∈ cavernNumbers → P u → P (u.formCaps j).1)
    {s : State} (hs : P s) : P s.formAllCaps.1 := by
  have key : ∀ (ns : List Nat) (acc : State × Bool), (∀ j ∈ ns, j ∈ cavernNumbers) → P acc.1 →
      P (ns.foldl (fun (acc : State × Bool) j =>
        let (s', ch) := acc.1.formCaps j
        (s', acc.2 || ch)) acc).1 := by
    intro ns
    induction ns with
    | nil => exact fun _ _ ha => ha
    | cons n ns ih =>
      intro acc hns ha
      exact ih ((acc.1.formCaps n).1, acc.2 || (acc.1.formCaps n).2) (fun j hj => hns j (List.mem_cons_of_mem _ hj))
          (h _ _ (hns n (List.mem_cons_self ..)) ha)
  exact key cavernNumbers (s, false) (fun _ => id) hs

theorem State.formAllCaps_safe (s : State) : Safe s s.formAllCaps.1 :=
  State.formAllCaps_keeps (P := Safe s) (fun u j _ h => h.trans (u.formCaps_safe j)) (.refl s)

/-- While the station is not RUNNING a change of what the caps depend on forms the caps, and makes no split. -/
theorem State.cavernsChanged_of_not_running {s : State} (h : s.sts.state ≠ .running) :
    s.cavernsChanged = s.formAllCaps.1 := by
  have hf : ¬ s.formAllCaps.1.sts.state = .running := by rw [s.formAllCaps_moved.plant.sts]; exact h
  unfold State.cavernsChanged settleCaps
  simp only [Bool.and_eq_true, beq_iff_eq, hf, and_false, if_false]

theorem State.cavernsChanged_safe (s : State) : Safe s s.cavernsChanged := by
  by_cases h : s.sts.state = .running
  · exact .of_running h (by rw [s.cavernsChanged_moved.plant.sts])
  · rw [State.cavernsChanged_of_not_running h]
    exact s.formAllCaps_safe

theorem State.splitFlow_safe (s : State) : Safe s s.splitFlow := by
  unfold State.splitFlow
  split
  · next h => exact .of_running h (by rw [(s.runSplit_moved.trans (State.cavernsChanged_moved _)).plant.sts])
  · exact .refl s

theorem State.pushPressure_safe (s : State) (j : Nat) : Safe s (s.pushPressure j) := by
  unfold State.pushPressure
  cases h : s.cavern j with
  | none => exact .refl s
  | some c =>
    have hset : ∀ x : Cavern, x.state = c.state → Safe s (s.setCavern j (some x)) := fun x hx =>
      s.setCavern_safe j _ (fun y hy hf => ⟨c, h, by cases hy; rwa [hx] at hf⟩)
    refine .ite (Safe.trans (hset _ ?_) (State.raise_reported _ _ _).safe) (.ite (hset _ ?_) (hset _ ?_)) <;> rfl

theorem State.cavernMinute_safe (s : State) : Safe s s.cavernMinute := by
  unfold State.cavernMinute
  have h : Safe s (s.forEach cavernNumbers State.pushPressure) :=
    State.forEach_induct (P := Safe s) (.refl s) (fun u j _ h => h.trans (u.pushPressure_safe j))
  exact (h.trans (State.formAllCaps_safe _)).trans (State.splitFlow_safe _)

theorem State.pressureArrival_safe (s : State) (j value : Nat) : Safe s (s.pressureArrival j value) := by
  unfold State.pressureArrival
  cases s.cavern j with
  | none => exact .refl s
  | some c =>
    refine Safe.trans (Safe.trans ?_ (State.modCavern_safe _ _ _ ?_)) (State.cavernsChanged_safe _)
    · have h := fun (f : Cavern → Cavern) a (hf : ∀ c, (f c).state = c.state) =>
        ((s.modCavern_safe j f (fun c => by rw [hf]; exact id)).trans (State.enterSettling_safe _ j)).trans
          (State.raise_reported _ a j).safe
      exact .ite (h _ _ (fun _ => rfl)) (.ite (h _ _ (fun _ => rfl)) (.refl s))
    · exact fun _ => id

theorem State.pressureQuality_safe (s : State) (j : Nat) (q : Quality) : Safe s (s.pressureQuality j q) := by
  unfold State.pressureQuality
  cases s.cavern j with
  | none => exact .refl s
  | some c => exact Safe.trans (.ite (s.enterSettling_safe j) (.refl s)) (State.cavernsChanged_safe _)

/-- A second of a cavern counts its volumes, its valve watch and its settle timer, and touches nothing else. -/
theorem State.cavernSecond_eq {s : State} {j : Nat} {c : Cavern} (h : s.cavern j = some c) :
    ∃ vi vw qi qw n b, s.cavernSecond j = s.setCavern j (some
      { c with volInject := vi, volWithdraw := vw, qInject := qi, qWithdraw := qw, disagreement := n, faultDue := b
               settle := tick c.settle }) := by
  have hv : ∃ vi vw qi qw, s.integrateVolume j c =
      { c with volInject := vi, volWithdraw := vw, qInject := qi, qWithdraw := qw } := by
    unfold State.integrateVolume
    split <;> exact ⟨_, _, _, _, rfl⟩
  have hw : ∀ x, ∃ n b, s.watchValve j x = { x with disagreement := n, faultDue := b } := by
    intro x
    unfold State.watchValve
    dsimp only
    repeat' split
    all_goals exact ⟨_, _, rfl⟩
  obtain ⟨vi, vw, qi, qw, hv⟩ := hv
  obtain ⟨n, b, hw⟩ := hw (s.integrateVolume j c)
  rw [hv] at hw
  refine ⟨vi, vw, qi, qw, n, b, ?_⟩
  simp only [State.cavernSecond, h, hv, hw]

theorem State.cavernSecond_safe (s : State) (j : Nat) : Safe s (s.cavernSecond j) := by
  cases h : s.cavern j with
  | none => rw [show s.cavernSecond j = s by simp only [State.cavernSecond, h]]; exact .refl s
  | some c =>
    obtain ⟨vi, vw, qi, qw, n, b, e⟩ := State.cavernSecond_eq h
    rw [e]
    exact s.setCavern_safe j _ (fun x hx hf => ⟨c, h, by cases hx; exact hf⟩)

theorem stepSettleExpiry_safe (j : Nat) (s : State) : Safe s (stepSettleExpiry j s) := by
  unfold stepSettleExpiry
  cases h : s.cavern j with
  | none => exact .refl s
  | some c =>
    refine .ite (.ite ?_ ?_) (.refl s)
    · refine Safe.trans (Safe.trans ?_ (State.makePlanDue_safe _)) (State.cavernsChanged_safe _)
      exact s.setCavern_safe j _ (fun x hx hf => by cases hx; cases hf)
    · exact s.setCavern_safe j _ (fun x hx hf => ⟨c, h, by cases hx; exact hf⟩)

theorem stepValveFault_safe (j : Nat) (s : State) : Safe s (stepValveFault j s) := by
  unfold stepValveFault
  cases h : s.cavern j with
  | none => exact .refl s
  | some c =>
    refine .ite (.ite ?_ ?_) (.refl s)
    · exact s.setCavern_safe j _ (fun x hx hf => ⟨c, h, by cases hx; exact hf⟩)
    · refine Safe.trans (Safe.trans (Safe.trans ?_ (State.raise_reported _ _ _).safe) (State.makePlanDue_safe _))
        (State.cavernsChanged_safe _)
      exact (s.shutCavern_safe j).trans (State.modCavern_safe _ _ _ (fun _ hf => by cases hf))

theorem State.zeroVolumes_safe (s : State) : Safe s s.zeroVolumes :=
  State.forEach_induct (P := Safe s) (.refl s) (fun u j _ h => h.trans (u.modCavern_safe j _ (fun _ => id)))

theorem State.cavernRollover_safe (s : State) : Safe s s.cavernRollover := by
  unfold State.cavernRollover
  refine Safe.trans ?_ (State.cavernsChanged_safe _)
  exact State.forEach_induct (P := Safe s) (.refl s) (fun u j _ h => h.trans (u.modCavern_safe j _ (fun _ => id)))

theorem postCavern_safe (ls : List (Option CavernLine)) (s : State) (j : Nat) : Safe s (postCavern ls s j) := by
  unfold postCavern
  split
  · exact s.modCavern_safe j _ (fun _ => id)
  · exact .refl s

theorem State.cavernInService_safe (s : State) (j : Nat) : Safe s (s.cavernInService j) := by
  unfold State.cavernInService
  split
  · refine .ite (Safe.trans (Safe.trans ?_ (State.makePlanDue_safe _)) (State.cavernsChanged_safe _)) (.refl s)
    exact s.setCavern_safe j _ (fun x hx hf => by cases hx; cases hf)
  · exact .refl s

theorem State.cavernOutOfService_safe (s : State) (j : Nat) : Safe s (s.cavernOutOfService j) := by
  unfold State.cavernOutOfService
  split
  · refine .ite (.refl s) (Safe.trans (Safe.trans ?_ (State.makePlanDue_safe _)) (State.cavernsChanged_safe _))
    exact (s.shutCavern_safe j).trans (State.modCavern_safe _ _ _ (fun _ hf => by cases hf))
  · exact .refl s

theorem State.abandonSettle_safe (s : State) (j : Nat) : Safe s (s.abandonSettle j) := by
  unfold State.abandonSettle
  split
  · refine .ite (Safe.trans (Safe.trans ?_ (State.makePlanDue_safe _)) (State.cavernsChanged_safe _)) (.refl s)
    exact s.setCavern_safe j _ (fun x hx hf => by cases hx; cases hf)
  · exact .refl s

theorem State.applyCavern_safe (s : State) (j : Nat) (f : CavernConfig) (ia : Nat) (v : Int) :
    Safe s (s.applyCavern j f ia v) := by
  have hset : ∀ b : Option Int, Safe s (s.setCavern j (some (
      let c : Cavern := match s.cavern j with
        | some c => { c with config := s.cavernApplied j f }
        | none => newCavern (s.cavernApplied j f)
      { c with booked := b.getD c.booked }))) := by
    intro b
    refine s.setCavern_safe j _ (fun x hx hf => ?_)
    cases hx
    dsimp only at hf
    split at hf
    · next c h => exact ⟨c, h, hf⟩
    · cases hf
  unfold State.applyCavern
  dsimp only
  split
  · refine Safe.trans ?_ (State.cavernsChanged_safe _)
    exact (hset (some v)).trans (.of_eq rfl rfl rfl rfl)
  · exact (hset none).trans (State.cavernsChanged_safe _)

theorem State.clearPoints_safe (s : State) (ps : List Nat) : Safe s (s.clearPoints ps) := by
  rw [State.clearPoints_eq]
  exact .of_eq rfl rfl rfl rfl

theorem State.dropCavern_safe (s : State) (j : Nat) : Safe s (s.dropCavern j) :=
  ((s.setCavern_safe j none (fun _ hx => by cases hx)).trans (State.clearPoints_safe _ _)).trans
    (State.cavernsChanged_safe _)

/-! ### CDU -/

/-- A unit record written brings no run where it is not STARTING or RUNNING, or was so. -/
theorem State.setUnit_safe (s : State) (k : Nat) (x : Option Compressor)
    (h : ∀ u, x = some u → u.state.engaged = true → s.runs k) : Safe s (s.setUnit k x) := by
  refine ⟨rfl, fun _ => .of_eq rfl, fun _ _ => id, fun _ i ⟨u, hu, hf⟩ => ?_⟩
  by_cases hi : i = k
  · subst hi
    exact h u (nth_setNth_cases (Option.join_eq_some_iff.mp hu)).symm hf
  · exact ⟨u, by rwa [State.unit_setUnit_of_ne _ _ hi] at hu, hf⟩

theorem State.modUnit_safe (s : State) (k : Nat) (f : Compressor → Compressor)
    (h : ∀ u, (f u).state = u.state) : Safe s (s.modUnit k f) := by
  obtain ⟨u, hu, e⟩ | ⟨_, e⟩ := s.modUnit_eq k f <;> rw [e]
  · exact s.setUnit_safe k _ (fun x hx hf => ⟨u, hu, by cases hx; rwa [h] at hf⟩)
  · exact .refl s

theorem State.writeUnitOrders_safe (s : State) : Safe s s.writeUnitOrders := by
  unfold State.writeUnitOrders
  refine State.forEach_induct (P := Safe s) ?_ (fun u k _ h => h.trans ?_)
  · refine State.forEach_induct (P := Safe s) (.refl s) (fun u k _ h => h.trans ?_)
    cases u.unit k with
    | none => exact .refl u
    | some x =>
      dsimp only
      split
      · exact .refl u
      · next hx =>
        by_cases hr : u.sts.state = .running
        · exact .of_running hr (by rw [(u.writeOrderIfNew_ordered _ _).plant.sts])
        · refine u.writeOrderIfNew_safe _ ?_
          have : x.state.engaged = false := by simpa [hr] using hx
          simp [OrderValue.safe, UnitState.runOrder, this]
  · cases u.unit k with
    | none => exact .refl u
    | some x => exact u.writeOrderIfNew_safe _ rfl

theorem State.changeUnit_safe (s : State) (k : Nat) (u v : Compressor) (h : v.state.engaged = true → s.runs k) :
    Safe s (s.changeUnit k u v) := by
  have hs := s.setUnit_safe k (some v) (fun x hx hf => h (by cases hx; exact hf))
  exact .ite (hs.trans (State.makePlanDue_safe _)) hs

theorem State.readyTest_safe (s : State) (k : Nat) : Safe s (s.readyTest k).1 := by
  unfold State.readyTest
  repeat' split
  · exact s.changeUnit_safe k _ _ (fun hf => by cases hf)
  · exact .refl s
  · exact .refl s

theorem State.enterResting_safe (s : State) (k : Nat) (u : Compressor) : Safe s (s.enterResting k u).1 :=
  (s.changeUnit_safe k _ _ (fun hf => by cases hf)).trans (State.readyTest_safe _ k)

theorem State.stoppedTest_safe (s : State) (k : Nat) : Safe s (s.stoppedTest k).1 := by
  unfold State.stoppedTest
  repeat' split
  · exact s.enterResting_safe k _
  · exact .refl s
  · exact .refl s

theorem State.evaluateDuty_safe (s : State) : Safe s s.evaluateDuty := by
  by_cases h : s.sts.state = .running
  · exact .of_running h (by rw [s.evaluateDuty_moved.plant.sts])
  · unfold State.evaluateDuty
    rw [if_neg h]
    exact .refl s

theorem dutyAfter_safe (r : State × Nat) : Safe r.1 (dutyAfter r) := by
  have hd : ∀ n s, Safe s (repeatDuty n s) := by
    intro n
    induction n with
    | zero => exact .refl
    | succ n ih => exact fun s => s.evaluateDuty_safe.trans (ih _)
  exact .ite (.refl _) (r.1.writeUnitOrders_safe.trans (hd _ _))

theorem State.changeUnit_duty_safe (s : State) (k : Nat) (u v : Compressor) (h : v.state.engaged = true → s.runs k) :
    Safe s (dutyAfter (s.changeUnit k u v, 1)) :=
  Safe.trans (s.changeUnit_safe k u v h) (dutyAfter_safe (s.changeUnit k u v, 1))

theorem State.tripUnit_safe (s : State) (k : Nat) (u : Compressor) (a : AlertKind) : Safe s (s.tripUnit k u a) := by
  unfold State.tripUnit
  refine Safe.trans ?_ (dutyAfter_safe _)
  refine Safe.trans ?_ (State.stoppedTest_safe _ k)
  have h := fun (v : Compressor) (hv : v.state.engaged = false) =>
    ((s.changeUnit_safe k u v (fun hf => by simp [hv] at hf)).trans (State.writeUnitOrders_safe _)).trans
      (State.raise_reported _ a k).safe
  have hl : ∀ b : Bool, (if b then UnitState.lockedOut else .tripped).engaged = false := by decide
  exact .ite ((h _ (hl _)).trans (State.raise_reported _ _ _).safe) (h _ (hl _))

theorem State.feedbackArrival_safe (s : State) (k value : Nat) : Safe s (s.feedbackArrival k value) := by
  unfold State.feedbackArrival
  have hs := (s.stoppedTest_safe k).trans (dutyAfter_safe _)
  cases hu : s.unit k with
  | none => exact .refl s
  | some u =>
    have ht := s.tripUnit_safe k u .unitTrip
    cases h : u.state <;> simp only [h]
    case starting => exact .ite (s.changeUnit_duty_safe k _ _ (fun _ => ⟨u, hu, by rw [h]; rfl⟩)) (.ite ht (.refl s))
    case running => exact .ite ht (.refl s)
    case stopping => exact .ite ht (.ite hs (.refl s))
    case tripped => exact .ite hs (.refl s)
    all_goals exact .refl s

theorem State.feedbackQuality_safe (s : State) (k : Nat) (q : Quality) : Safe s (s.feedbackQuality k q) := by
  unfold State.feedbackQuality
  repeat' split
  · exact .refl s
  · exact s.tripUnit_safe k _ _
  · exact .refl s

theorem stepMinRunExpiry_safe (k : Nat) (s : State) : Safe s (stepMinRunExpiry k s) := by
  unfold stepMinRunExpiry
  cases h : s.unit k with
  | none => exact .refl s
  | some u =>
    refine .ite (Safe.trans ?_ (State.evaluateDuty_safe _)) (.refl s)
    exact s.setUnit_safe k _ (fun x hx hf => ⟨u, h, by cases hx; exact hf⟩)

theorem stepMinStopExpiry_safe (k : Nat) (s : State) : Safe s (stepMinStopExpiry k s) := by
  unfold stepMinStopExpiry
  cases h : s.unit k with
  | none => exact .refl s
  | some u =>
    refine .ite ?_ (.refl s)
    refine Safe.trans (Safe.trans (Safe.trans ?_ (State.readyTest_safe _ k)) (dutyAfter_safe _))
      (State.evaluateDuty_safe _)
    exact s.setUnit_safe k _ (fun x hx hf => ⟨u, h, by cases hx; exact hf⟩)

theorem stepTimeoutExpiry_safe (k : Nat) (s : State) : Safe s (stepTimeoutExpiry k s) := by
  unfold stepTimeoutExpiry
  cases h : s.unit k with
  | none => exact .refl s
  | some u =>
    refine .ite ?_ (.refl s)
    cases hs : u.state <;> simp only
    case starting => exact s.tripUnit_safe k u _
    case stopping => exact s.tripUnit_safe k u _
    all_goals exact s.setUnit_safe k _ (fun x hx hf => ⟨u, h, by cases hx; rw [hs]; exact hf⟩)

theorem stepStartListDrop_safe (k : Nat) (s : State) : Safe s (stepStartListDrop k s) := by
  unfold stepStartListDrop
  cases h : s.unit k with
  | none => exact .refl s
  | some u =>
    refine .ite ?_ (.refl s)
    refine Safe.trans (Safe.trans ?_ (State.readyTest_safe _ k)) (dutyAfter_safe _)
    exact s.setUnit_safe k _ (fun x hx hf => ⟨u, h, by cases hx; exact hf⟩)

theorem State.unitRollover_safe (s : State) : Safe s s.unitRollover :=
  State.forEach_induct (P := Safe s) (.refl s) (fun u k _ h => h.trans (u.modUnit_safe k _ (fun _ => rfl)))

theorem State.gasDayRollover_safe (s : State) : Safe s s.gasDayRollover :=
  s.cavernRollover_safe.trans (State.unitRollover_safe _)

theorem State.stopEngaged_safe (s : State) (k : Nat) : Safe s (s.stopEngaged k) := by
  unfold State.stopEngaged
  repeat' split
  · exact (s.changeUnit_safe k _ _ (fun hf => by cases hf)).trans (State.stoppedTest_safe _ k)
  · exact .refl s
  · exact .refl s

theorem State.unitsStop_safe (s : State) : Safe s s.unitsStop :=
  (State.forEach_induct (P := Safe s) (.refl s) (fun u k _ h => h.trans (u.stopEngaged_safe k))).trans
    (State.writeUnitOrders_safe _)

theorem State.unitAvailable_safe (s : State) (k : Nat) : Safe s (s.unitAvailable k) := by
  unfold State.unitAvailable
  split
  · refine .ite (s.changeUnit_duty_safe k _ _ (fun hf => ?_)) (.refl s)
    dsimp only at hf
    split at hf <;> cases hf
  · exact .refl s

theorem State.unitUnavailable_safe (s : State) (k : Nat) : Safe s (s.unitUnavailable k) := by
  unfold State.unitUnavailable
  split
  · exact .ite (.refl s) (s.changeUnit_duty_safe k _ _ (fun hf => by cases hf))
  · exact .refl s

theorem State.unitRelease_safe (s : State) (k : Nat) : Safe s (s.unitRelease k) := by
  unfold State.unitRelease
  split
  · exact .ite ((s.enterResting_safe k _).trans (dutyAfter_safe _)) (.refl s)
  · exact .refl s

theorem State.applyUnit_safe (s : State) (k : Nat) (f : UnitFields) : Safe s (s.applyUnit k f) := by
  refine s.setUnit_safe k _ (fun x hx hf => ?_)
  cases hx
  split at hf
  · next u h => exact ⟨u, h, hf⟩
  · cases hf

theorem State.dropUnit_safe (s : State) (k : Nat) : Safe s (s.dropUnit k) :=
  (s.setUnit_safe k none (fun _ hx => by cases hx)).trans (State.clearPoints_safe _ _)

end Sys2Proof.Machine
end

section
/-! The law of 01 R12 over DRC, the station commands, the deliveries and the requests: every step keeps it. -/

open Sys2Proof Sys2Proof.Machine

namespace Sys2Proof.Machine

/-! ### DRC orders trains alone -/

theorem Safe.of_drc (s : State) (d : Drying) : Safe s { s with drc := d } := .of_eq rfl rfl rfl rfl

theorem State.setTrain_safe (s : State) (t : Nat) (r : Option Train) : Safe s (s.setTrain t r) :=
  .of_eq rfl rfl rfl rfl

theorem State.modTrain_safe (s : State) (t : Nat) (f : Train → Train) : Safe s (s.modTrain t f) := by
  obtain ⟨r, _, e⟩ | ⟨_, e⟩ := s.modTrain_eq t f <;> rw [e]
  · exact s.setTrain_safe t _
  · exact .refl s

theorem State.writeTrainMode_safe (s : State) (t : Nat) (m : TrainMode) : Safe s (s.writeTrainMode t m) :=
  s.writeOrderIfNew_safe _ rfl

theorem State.writeTrainBed_safe (s : State) (t : Nat) (bed : Bed) : Safe s (s.writeTrainBed t bed) :=
  s.writeOrderIfNew_safe _ rfl

theorem State.writeTrainStep_safe (s : State) (t : Nat) (st : RegenStep) : Safe s (s.writeTrainStep t st) :=
  s.writeOrderIfNew_safe _ rfl

theorem State.formTrain_safe (s : State) (t : Nat) : Safe s (s.formTrain t) := by
  unfold State.formTrain
  cases s.train t with
  | none => exact .refl s
  | some r =>
    dsimp only
    repeat' split
    · exact (s.setTrain_safe t _).trans (State.raise_reported _ _ _).safe
    · exact (s.setTrain_safe t _).trans (State.raise_reported _ _ _).safe
    · exact s.setTrain_safe t _
    · exact ((s.setTrain_safe t _).trans (State.raise_reported _ _ _).safe).trans (State.makePlanDue_safe _)
    · exact ((s.setTrain_safe t _).trans (State.raise_reported _ _ _).safe).trans (State.makePlanDue_safe _)
    · exact (s.setTrain_safe t _).trans (State.makePlanDue_safe _)

theorem State.decideMode_safe (s : State) (t : Nat) : Safe s (s.decideMode t) := by
  unfold State.decideMode
  split
  · exact .ite (s.writeTrainMode_safe t _) (.refl s)
  · exact .refl s

theorem State.changeTrain_safe (s : State) (t : Nat) (r : Train) (st : TrainState) :
    Safe s (s.changeTrain t r st) :=
  ((s.setTrain_safe t _).trans (State.formTrain_safe _ _)).trans (State.makePlanDue_safe _)

theorem State.trainsPlan_safe (s : State) : Safe s s.trainsPlan := by
  by_cases h : s.sts.state = .running
  · exact .of_running h (by rw [s.trainsPlan_moved.plant.sts])
  · unfold State.trainsPlan
    rw [if_neg h]
    exact .refl s

theorem State.trainsStop_safe (s : State) : Safe s s.trainsStop := by
  refine State.forEach_induct (P := Safe s) (.refl s) (fun u t _ h => h.trans ?_)
  split
  · exact .ite (u.changeTrain_safe t _ _) (.refl u)
  · exact .refl u

theorem State.serveHeater_safe (s : State) : Safe s s.serveHeater := by
  unfold State.serveHeater
  cases s.drc.queue with
  | nil => exact .refl s
  | cons x rest =>
    refine .ite ?_ (.refl s)
    cases s.train x.1 with
    | none => exact .refl s
    | some r =>
      refine Safe.trans ?_ (State.formTrain_safe _ _)
      refine Safe.trans ?_ (State.writeTrainStep_safe _ _ _)
      exact (Safe.of_drc s _).trans (State.setTrain_safe _ _ _)

theorem State.switchBeds_safe (s : State) (t : Nat) (r : Train) : Safe s (s.switchBeds t r) := by
  unfold State.switchBeds
  refine Safe.trans ?_ (State.serveHeater_safe _)
  refine Safe.trans ?_ (State.formTrain_safe _ _)
  refine Safe.trans ?_ (State.writeTrainBed_safe _ _ _)
  exact (s.setTrain_safe t _).trans (Safe.of_drc _ _)

theorem State.switchTest_safe (s : State) (t : Nat) : Safe s (s.switchTest t) := by
  unfold State.switchTest
  split
  · exact .ite (s.switchBeds_safe t _) (.refl s)
  · exact .refl s

theorem State.switchTests_safe (s : State) : Safe s s.switchTests := by
  unfold State.switchTests
  split
  · exact .of_drc s _
  · exact State.forEach_induct (P := Safe s) (.of_drc s _) (fun u t _ h => h.trans (u.switchTest_safe t))

theorem State.resumeSwitchTests_safe (s : State) : Safe s s.resumeSwitchTests := .ite s.switchTests_safe (.refl s)

theorem stepHeatingExpiry_safe (s : State) : Safe s (stepHeatingExpiry s) := by
  unfold stepHeatingExpiry
  refine .ite ?_ (.refl s)
  cases s.drc.heating with
  | none => exact .of_drc s _
  | some x =>
    refine Safe.trans ?_ (State.resumeSwitchTests_safe _)
    refine Safe.trans ?_ (State.serveHeater_safe _)
    refine Safe.trans ?_ (State.formTrain_safe _ _)
    refine Safe.trans ?_ (State.writeTrainStep_safe _ _ _)
    exact (Safe.of_drc s _).trans (State.modTrain_safe _ _ _)

theorem stepCoolingExpiry_safe (t : Nat) (s : State) : Safe s (stepCoolingExpiry t s) := by
  unfold stepCoolingExpiry
  cases s.train t with
  | none => exact .refl s
  | some r =>
    refine .ite ?_ (.refl s)
    refine Safe.trans ?_ (State.resumeSwitchTests_safe _)
    refine Safe.trans ?_ (State.formTrain_safe _ _)
    refine Safe.trans ?_ (State.writeTrainStep_safe _ _ _)
    exact s.setTrain_safe t _

theorem State.abortHeating_safe (s : State) : Safe s s.abortHeating := by
  unfold State.abortHeating
  cases s.drc.heating with
  | none => exact .refl s
  | some x =>
    refine Safe.trans ?_ (State.formTrain_safe _ _)
    refine Safe.trans ?_ (State.writeTrainStep_safe _ _ _)
    exact (Safe.of_drc s _).trans (State.modTrain_safe _ _ _)

theorem State.dryerSecond_safe (s : State) : Safe s s.dryerSecond := by
  have h : Safe s (s.forEach trainNumbers State.trainSecond) := by
    refine State.forEach_induct (P := Safe s) (.refl s) (fun u t _ h => h.trans ?_)
    unfold State.trainSecond
    split
    · exact .refl u
    · exact (u.setTrain_safe t _).trans (State.formTrain_safe _ _)
  unfold State.dryerSecond
  exact (h.trans (Safe.of_drc _ _)).trans (State.switchTests_safe _)

theorem stepOffspecEntry_safe (t : Nat) (s : State) : Safe s (stepOffspecEntry t s) := by
  unfold stepOffspecEntry
  cases s.train t with
  | none => exact .refl s
  | some r =>
    refine .ite (Safe.trans ?_ (State.decideMode_safe _ _)) (.refl s)
    exact (s.changeTrain_safe t _ _).trans (State.raise_reported _ _ _).safe

theorem stepOffspecRecovery_safe (t : Nat) (s : State) : Safe s (stepOffspecRecovery t s) := by
  unfold stepOffspecRecovery
  cases s.train t with
  | none => exact .refl s
  | some r => exact .ite ((s.changeTrain_safe t _ _).trans (State.decideMode_safe _ _)) (.refl s)

theorem State.applyTrain_safe (s : State) (t : Nat) (f : TrainFields) : Safe s (s.applyTrain t f) :=
  ((s.setTrain_safe t _).trans (State.formTrain_safe _ _)).trans (State.switchTest_safe _ _)

theorem State.dropTrain_safe (s : State) (t : Nat) : Safe s (s.dropTrain t) :=
  (((s.setTrain_safe t none).trans (State.clearPoints_safe _ _)).trans (State.writeTrainBed_safe _ _ _)).trans
    (State.writeTrainStep_safe _ _ _)

theorem State.trainInService_safe (s : State) (t : Nat) : Safe s (s.trainInService t) := by
  unfold State.trainInService
  split
  · exact .ite ((s.changeTrain_safe t _ _).trans (State.decideMode_safe _ _)) (.refl s)
  · exact .refl s

theorem State.trainOutOfService_safe (s : State) (t : Nat) : Safe s (s.trainOutOfService t) := by
  unfold State.trainOutOfService
  split
  · exact .ite (.refl s) ((s.changeTrain_safe t _ _).trans (State.decideMode_safe _ _))
  · exact .refl s

theorem State.trainSwitch_safe (s : State) (t : Nat) : Safe s (s.trainSwitch t) := by
  unfold State.trainSwitch
  split
  · exact .ite (s.switchBeds_safe t _) (.refl s)
  · exact .refl s

/-! ### The steps of an entry to PARKED or TRIPPED (01 R8, R10) -/

/-- The safe order of cavern `j`: SHUT, written whether or not the entry held it. -/
def State.shutValve (s : State) (j : Nat) : State :=
  let changed := s.valveOrder j != .shut
  let s' := s.writeOrder (valveActuator j) (.valve .shut)
  if changed then s'.modCavern j (fun c => { c with disagreement := 0 }) else s'

/-- The safe order of unit `k`: STOP. -/
def State.stopRun (s : State) (k : Nat) : State := s.writeOrder (runActuator k) (.run .stop)

/-- The safe order of train `t`: OFFLINE, with its bed in line and its regeneration step kept. -/
def State.offlineTrain (s : State) (t : Nat) : State :=
  s.writeOrder (trainActuator t) (.train .offline (s.trainOrder t).2.1 (s.trainOrder t).2.2)

theorem State.safeOrders_eq (s : State) : s.safeOrders =
    ((s.forEach cavernNumbers State.shutValve).forEach unitNumbers State.stopRun).forEach trainNumbers
      State.offlineTrain := rfl

/-- A flowing cavern enters SETTLING. -/
def State.stopFlow (s : State) (j : Nat) : State :=
  match s.cavern j with
  | some c => if c.state.flowing then s.enterSettling j else s
  | none => s

theorem State.cavernsStop_eq (s : State) :
    s.cavernsStop = (s.forEach cavernNumbers State.stopFlow).cavernsChanged := rfl

/-- An ONLINE train enters STANDBY. -/
def State.standDown (s : State) (t : Nat) : State :=
  match s.train t with
  | some r => if r.state = .online then s.changeTrain t r .standby else s
  | none => s

theorem State.trainsStop_eq (s : State) : s.trainsStop = s.forEach trainNumbers State.standDown := rfl

/-- What the steps of the other numbers leave is, after all of them, as step `n` leaves it. -/
theorem State.forEach_view {β : Type} {I : State → Prop} (v : State → β) {f : State → Nat → State} {ns : List Nat}
    {n : Nat} (hn : n ∈ ns) (hd : ns.Nodup) (hI : ∀ u m, m ∈ ns → I u → I (f u m))
    (hne : ∀ u m, m ∈ ns → m ≠ n → I u → v (f u m) = v u) {s : State} (hs : I s) :
    ∃ u, I u ∧ v u = v s ∧ v (s.forEach ns f) = v (f u n) := by
  induction ns generalizing s with
  | nil => exact absurd hn List.not_mem_nil
  | cons m ns ih =>
    obtain ⟨hm, hd⟩ := List.nodup_cons.mp hd
    have hI' := fun u k (hk : k ∈ ns) => hI u k (List.mem_cons_of_mem _ hk)
    have hne' := fun u k (hk : k ∈ ns) => hne u k (List.mem_cons_of_mem _ hk)
    obtain rfl | hn' := List.mem_cons.mp hn
    · refine ⟨s, hs, rfl, ?_⟩
      have : I ((f s n).forEach ns f) ∧ v ((f s n).forEach ns f) = v (f s n) :=
        State.forEach_induct (P := fun u => I u ∧ v u = v (f s n)) ⟨hI s n (List.mem_cons_self ..) hs, rfl⟩
          (fun u k hk hu => ⟨hI' u k hk hu.1, (hne' u k hk (fun e => hm (e ▸ hk)) hu.1).trans hu.2⟩)
      exact this.2
    · obtain ⟨u, hu, h1, h2⟩ := ih hn' hd hI' hne' (hI s m (List.mem_cons_self ..) hs)
      exact ⟨u, hu, h1.trans (hne s m (List.mem_cons_self ..) (fun e => hm (e ▸ hn')) hs), h2⟩

/-! ### The safe orders -/

theorem State.shutValve_moved (s : State) (j : Nat) : CavernsMoved s (s.shutValve j) := by
  unfold State.shutValve
  exact .ite ((s.writeOrder_ordered _ _).caverns.trans (State.modCavern_moved _ _ _)) (s.writeOrder_ordered _ _).caverns

theorem State.order_shutValve (s : State) (j i : Nat) :
    (s.shutValve j).order i = (s.writeOrder (valveActuator j) (.valve .shut)).order i := by
  unfold State.shutValve
  dsimp only
  split
  · exact State.order_modCavern _ _ _ _
  · rfl

theorem OrdersSafer.of_order {s t u : State} (h : OrdersSafer s t) (he : ∀ i, u.order i = t.order i) :
    OrdersSafer s u := fun i e hu => h i e (by rwa [← he])

theorem State.shutValve_safe (s : State) (j : Nat) : Safe s (s.shutValve j) := by
  unfold State.shutValve
  refine .ite (Safe.trans (s.writeOrder_safe _ rfl) (State.modCavern_safe _ _ _ ?_)) (s.writeOrder_safe _ rfl)
  exact fun _ => id

theorem State.shutValve_safer (s : State) (j : Nat) : OrdersSafer s (s.shutValve j) :=
  (s.writeOrder_safer _ rfl).of_order (s.order_shutValve j)

theorem State.valveOrder_shutValve (s : State) (j : Nat) : (s.shutValve j).valveOrder j = .shut := by
  unfold State.valveOrder
  rw [State.order_shutValve]
  cases h : s.order (valveActuator j) with
  | none => unfold State.writeOrder; simp [h]
  | some e => rw [State.order_writeOrder _ h]

theorem State.runOrder_stopRun (s : State) (k : Nat) : (s.stopRun k).runOrder k = .stop := by
  unfold State.runOrder State.stopRun
  cases h : s.order (runActuator k) with
  | none => unfold State.writeOrder; simp [h]
  | some e => rw [State.order_writeOrder _ h]

theorem State.safeOrders_safe (s : State) : Safe s s.safeOrders := by
  rw [State.safeOrders_eq]
  refine State.forEach_induct (P := Safe s) ?_ (fun u t _ h => h.trans (u.writeOrder_safe _ rfl))
  refine State.forEach_induct (P := Safe s) ?_ (fun u k _ h => h.trans (u.writeOrder_safe _ rfl))
  exact State.forEach_induct (P := Safe s) (.refl s) (fun u j _ h => h.trans (u.shutValve_safe j))

/-- Steps that keep the orders safe keep them safe together. -/
theorem State.forEach_safer {f : State → Nat → State} (h : ∀ u n, OrdersSafer u (f u n)) (ns : List Nat) (s : State) :
    OrdersSafer s (s.forEach ns f) :=
  State.forEach_induct (P := OrdersSafer s) (.of_eq rfl) (fun u n _ hu => hu.trans (h u n))

/-- Once the safe orders are written, every valve entry holds SHUT and every run entry STOP. -/
theorem State.safeOrders_ordersSafe (s : State) : s.safeOrders.ordersSafe = true := by
  have hrun : ∀ u k, OrdersSafer u (State.stopRun u k) := fun u k => u.writeOrder_safer _ rfl
  have htrain : ∀ u t, OrdersSafer u (State.offlineTrain u t) := fun u t => u.writeOrder_safer _ rfl
  rw [State.safeOrders_eq, State.ordersSafe_iff]
  refine ⟨fun j hj => ?_, fun k hk => ?_⟩
  · refine (State.forEach_safer htrain _ _).valveOrder ((State.forEach_safer hrun _ _).valveOrder ?_)
    obtain ⟨u, _, _, e⟩ := State.forEach_view (f := State.shutValve) (I := fun _ => True) (s := s) (fun u => u.valveOrder j) hj (by decide)
      (fun _ _ _ _ => trivial) (fun u m _ hm _ => by
        unfold State.valveOrder
        rw [State.order_shutValve, State.order_writeOrder_of_ne]
        exact fun e => hm e.symm) trivial
    exact e.trans (u.valveOrder_shutValve j)
  · refine (State.forEach_safer htrain _ _).runOrder ?_
    obtain ⟨u, _, _, e⟩ := State.forEach_view (f := State.stopRun) (I := fun _ => True)
      (s := s.forEach cavernNumbers State.shutValve) (fun u => u.runOrder k) hk (by decide)
      (fun _ _ _ _ => trivial) (fun u m _ hm _ => by
        unfold State.runOrder State.stopRun
        rw [State.order_writeOrder_of_ne]
        unfold runActuator; omega) trivial
    exact e.trans (u.runOrder_stopRun k)

/-! ### Caverns and units that stop -/

theorem State.stopFlow_safe (s : State) (j : Nat) : Safe s (s.stopFlow j) := by
  unfold State.stopFlow
  split
  · exact .ite (s.enterSettling_safe j) (.refl s)
  · exact .refl s

theorem State.stopFlow_not_flows (s : State) (j : Nat) : ¬ (s.stopFlow j).flows j := by
  unfold State.stopFlow
  cases h : s.cavern j with
  | none => rintro ⟨c, hc, _⟩; simp [h] at hc
  | some c =>
    dsimp only
    split
    · rintro ⟨x, hx, hf⟩
      obtain ⟨⟨y, hy, _, _, _, _, _, _, hst⟩, _⟩ := State.enterSettling_tookSettling h
      obtain rfl : x = y := Option.some.inj (hx.symm.trans hy)
      split at hst <;> simp [hst.1, CavernState.flowing] at hf
    · next hf => rintro ⟨x, hx, hx'⟩; rw [h] at hx; cases hx; exact hf hx'

theorem State.cavernsStop_safe (s : State) : Safe s s.cavernsStop := by
  rw [State.cavernsStop_eq]
  exact (State.forEach_induct (P := Safe s) (.refl s) (fun u j _ h => h.trans (u.stopFlow_safe j))).trans
    (State.cavernsChanged_safe _)

/-- Steps that are safe and each bring about what a safe step keeps, bring about all of it. -/
theorem State.forEach_stops {f : State → Nat → State} {Q : Nat → State → Prop} (hf : ∀ u n, Safe u (f u n))
    (hkeep : ∀ u v n, Safe u v → u.sts.state ≠ .running → Q n u → Q n v) (hself : ∀ u n, u.sts.state ≠ .running → Q n (f u n))
    {ns : List Nat} {s : State} (hs : s.sts.state ≠ .running) : ∀ n ∈ ns, Q n (s.forEach ns f) := by
  induction ns generalizing s with
  | nil => exact fun _ hn => absurd hn List.not_mem_nil
  | cons m ns ih =>
    intro n hn
    have hm := (hf s m).not_running hs
    obtain rfl | hn := List.mem_cons.mp hn
    · exact hkeep _ _ n (State.forEach_induct (ns := ns) (s := f s n) (P := Safe (f s n)) (.refl _) (fun u k _ h => h.trans (hf u k))) hm
        (hself s n hs)
    · exact ih hm n hn

theorem State.cavernsStop_not_flows {s : State} (hs : s.sts.state ≠ .running) :
    ∀ j ∈ cavernNumbers, ¬ s.cavernsStop.flows j := by
  intro j hj
  rw [State.cavernsStop_eq]
  have hk : ∀ u v n, Safe u v → u.sts.state ≠ .running → ¬ u.flows n → ¬ v.flows n :=
    fun u v n h hu hn hv => hn (h.caverns hu n hv)
  have h0 : Safe s (s.forEach cavernNumbers State.stopFlow) :=
    State.forEach_induct (P := Safe s) (.refl s) (fun u j _ h => h.trans (u.stopFlow_safe j))
  refine hk _ _ j (State.cavernsChanged_safe _) (h0.not_running hs) ?_
  exact State.forEach_stops (Q := fun n u => ¬ u.flows n) State.stopFlow_safe hk
    (fun u n _ => u.stopFlow_not_flows n) hs j hj

theorem State.unit_changeUnit {s : State} {k : Nat} {x : Compressor} (h : s.unit k = some x) (u v : Compressor) :
    (s.changeUnit k u v).unit k = some v := by
  unfold State.changeUnit
  dsimp only
  split <;> exact State.unit_setUnit _ h

theorem State.not_runs {s : State} {k : Nat} {u : Compressor} (h : s.unit k = some u) (hu : u.state.engaged = false) :
    ¬ s.runs k := by
  rintro ⟨x, hx, hr⟩
  rw [h] at hx
  cases hx
  simp [hu] at hr

theorem State.stoppedTest_not_runs {s : State} {k : Nat} (hs : s.sts.state ≠ .running) (h : ¬ s.runs k) :
    ¬ (s.stoppedTest k).1.runs k := fun hr => h ((s.stoppedTest_safe k).units hs k hr)

theorem State.stopEngaged_not_runs {s : State} (hs : s.sts.state ≠ .running) (k : Nat) : ¬ (s.stopEngaged k).runs k := by
  unfold State.stopEngaged
  cases h : s.unit k with
  | none => rintro ⟨u, hu, _⟩; simp [h] at hu
  | some u =>
    dsimp only
    split
    · refine State.stoppedTest_not_runs ?_ (State.not_runs (State.unit_changeUnit h u _) rfl)
      rwa [(s.changeUnit_moved k _ _).plant.sts]
    · next he => exact State.not_runs h (by simpa using he)

theorem State.unitsStop_not_runs {s : State} (hs : s.sts.state ≠ .running) :
    ∀ k ∈ unitNumbers, ¬ s.unitsStop.runs k := by
  intro k hk'
  have hk : ∀ u v n, Safe u v → u.sts.state ≠ .running → ¬ u.runs n → ¬ v.runs n :=
    fun u v n h hu hn hv => hn (h.units hu n hv)
  have h0 : Safe s (s.forEach unitNumbers State.stopEngaged) :=
    State.forEach_induct (P := Safe s) (.refl s) (fun u k _ h => h.trans (u.stopEngaged_safe k))
  refine hk _ _ k (State.writeUnitOrders_safe _) (h0.not_running hs) ?_
  exact State.forEach_stops (Q := fun n u => ¬ u.runs n) State.stopEngaged_safe hk
    (fun u n hu => State.stopEngaged_not_runs hu n) hs k hk'

end Sys2Proof.Machine
end

section
/-! The station's entries, the deliveries, the second event and the answers keep a station at rest (01 R12), and with
them every step. -/

open Sys2Proof Sys2Proof.Machine

namespace Sys2Proof.Machine

/-! ### The station's entries (01 R7 to R11) -/

/-- Outside RUNNING, safe orders and the blocks' stop put the station at rest. -/
theorem State.blocksStop_resting {s : State} (hs : s.sts.state ≠ .running) (ho : s.ordersSafe = true) :
    s.cavernsStop.unitsStop.trainsStop.resting := by
  have h1 := s.cavernsStop_safe
  have h2 := s.cavernsStop.unitsStop_safe
  have h3 := s.cavernsStop.unitsStop.trainsStop_safe
  have hs1 := h1.not_running hs
  have hs2 := h2.not_running hs1
  refine ⟨h3.not_running hs2, ((h1.trans h2).trans h3 |>.orders hs).ordersSafe ho, (State.atRest_iff_not _).mpr ⟨?_, ?_⟩⟩
  · exact fun j hj hf => State.cavernsStop_not_flows hs j hj (h2.caverns hs1 j (h3.caverns hs2 j hf))
  · exact fun k hk hf => State.unitsStop_not_runs hs1 k hk (h3.units hs2 k hf)

theorem State.park_resting (s : State) : s.park.resting := by
  unfold State.park
  dsimp only
  have h := (State.safeOrders_safe (s.setStation .parked)).trans (State.makePlanDue_safe _)
  refine State.blocksStop_resting (h.not_running (by simp)) ?_
  exact (OrdersSafer.of_eq (State.makePlanDue_ori _)).ordersSafe (State.safeOrders_ordersSafe _)

theorem State.tripEntry_resting (s : State) : s.tripEntry.resting := by
  unfold State.tripEntry
  dsimp only
  have h1 := (State.safeOrders_safe (s.setStation .tripped)).not_running (by simp)
  have h2 := State.writeOrder_safe (s.setStation .tripped).safeOrders isolationActuator
    (v := .isolation .isolate) rfl
  have h3 := ((h2.trans (State.makePlanDue_safe _)).trans (State.abortHeating_safe _)).trans
    (State.raise_reported _ .stationTrip 0).safe
  exact State.blocksStop_resting (h3.not_running h1) ((h3.orders h1).ordersSafe (State.safeOrders_ordersSafe _))

theorem State.start_running (s : State) : s.start.sts.state = .running := by rw [s.start_plant.sts]; rfl

/-- A station state other than RUNNING leaves a station at rest. -/
theorem State.setStation_resting {s : State} (h : s.resting) {st : StationState} (hst : st ≠ .running) :
    (s.setStation st).resting := by
  obtain ⟨_, ho, ha⟩ := h
  exact ⟨hst, ho, ha⟩

theorem State.resume_resting {s : State} (h : s.resting) : s.resume.resting := by
  refine (Safe.trans ?_ (State.serveHeater_safe _)).rests (State.setStation_resting h (st := .parked) (by decide))
  exact (((State.makePlanDue_safe _).trans (State.cavernsStop_safe _)).trans (State.unitsStop_safe _)).trans
    (State.trainsStop_safe _)

theorem State.resting.law {s : State} (h : s.resting) : s.orderLaw = true := s.orderLaw_iff.mpr (.inr h)

theorem State.resting_of_law {s : State} (h : s.orderLaw = true) (hs : s.sts.state ≠ .running) : s.resting :=
  (s.orderLaw_iff.mp h).resolve_left hs

theorem State.tripAsserted_law {s : State} (h : s.orderLaw = true) : s.tripAsserted.orderLaw = true := by
  unfold State.tripAsserted
  cases s.sts.state
  case parked => exact s.tripEntry_resting.law
  case running => exact s.tripEntry_resting.law
  all_goals exact (s.raise_reported _ _).safe.law h

/-- A request that no check refuses passes every check. -/
theorem firstFailure_eq_none {cs : List (Bool × Result)} : firstFailure cs = none ↔ ∀ c ∈ cs, c.1 = false := by
  simp [firstFailure]

/-- RESUME is accepted in TRIPPED alone. -/
theorem State.commandRefusal_resume {s : State} {action : Nat} (h : s.commandRefusal action = none)
    (h0 : action ≠ 0) (h1 : action ≠ 1) (h2 : action ≠ 2) : s.sts.state = .tripped := by
  have h3 := firstFailure_eq_none.mp h
  simp only [List.mem_cons, forall_eq_or_imp, decide_eq_false_iff_not, Nat.not_lt] at h3
  obtain ⟨_, hle, _, _, hc, _⟩ := h3
  obtain rfl : action = 3 := by omega
  simp only [beq_self_eq_true, Bool.true_and, Bool.not_eq_false', Bool.and_eq_true, beq_iff_eq] at hc
  exact hc.1

theorem State.command_law {s : State} {action : Nat} (hr : s.commandRefusal action = none)
    (h : s.orderLaw = true) : (s.command action).orderLaw = true := by
  unfold State.command
  split
  · exact (State.orderLaw_iff _).mpr (.inl s.start_running)
  · split
    · exact s.park_resting.law
    · split
      · exact State.tripAsserted_law h
      · next h0 h1 h2 =>
        have ht := State.commandRefusal_resume hr h0 h1 h2
        exact (State.resume_resting (State.resting_of_law h (by simp [ht]))).law

theorem State.leaveBlank_law {s : State} (h : s.orderLaw = true) : s.leaveBlank.orderLaw = true := by
  unfold State.leaveBlank
  split
  · next hb =>
    split
    · exact s.tripEntry_resting.law
    · have hs : s.sts.state ≠ .running := by
        intro e
        simp [State.isBlank, e] at hb
      exact ((State.makePlanDue_safe _).rests
        (State.setStation_resting (State.resting_of_law h hs) (st := .parked) (by decide))).law
  · exact h

/-! ### Reset and release -/

theorem State.reset_resting : State.reset.resting := by
  refine ⟨by decide, by decide, by decide⟩

theorem restoreCavern_not_flowing (c : SnapCavern) : (restoreCavern c).state.flowing = false := by
  unfold restoreCavern
  cases c.state <;> rfl

theorem restoreUnit_not_engaged (u : SnapUnit) : (restoreUnit u).state.engaged = false := by
  unfold restoreUnit
  cases u.state <;> rfl

/-- Nothing restored flows or runs. -/
theorem restored_resting {s : State} (h : s.ordersSafe = true) (c : Snapshot) : (restored s c).resting := by
  refine ⟨nofun, (OrdersSafer.of_eq rfl).ordersSafe h, (State.atRest_iff_not _).mpr ⟨?_, ?_⟩⟩
  · rintro j - ⟨x, hx, hf⟩
    obtain ⟨_, _, e⟩ := List.mem_map.mp (show _ ∈ c.caverns.map (·.map restoreCavern) from State.cavern_mem hx)
    obtain ⟨y, _, rfl⟩ := Option.map_eq_some_iff.mp e
    simp [restoreCavern_not_flowing] at hf
  · rintro k - ⟨x, hx, hf⟩
    obtain ⟨_, _, e⟩ := List.mem_map.mp (show _ ∈ c.units.map (·.map restoreUnit) from State.unit_mem hx)
    obtain ⟨y, _, rfl⟩ := Option.map_eq_some_iff.mp e
    simp [restoreUnit_not_engaged] at hf

theorem State.released_safe (s : State) (trip b1 b0 : Bool) (x : Store) :
    Safe State.reset { s.released trip b1 b0 with sns := x } := .of_eq rfl rfl rfl rfl

theorem State.release_law (crc trip b1 b0 : Bool) (s : State) : (s.release crc trip b1 b0).orderLaw = true := by
  have h0 := fun x => (s.released_safe trip b1 b0 x).rests State.reset_resting
  have hr : ∀ u : State, u.orderLaw = true → ∀ k, (u.raise k 0).orderLaw = true :=
    fun u hu k => (u.raise_reported k 0).safe.law hu
  unfold State.release
  dsimp only
  split
  · refine (State.serveHeater_safe _).law ?_
    split
    · exact (State.tripEntry_resting _).law
    · exact (restored_resting (h0 _).2.1 _).law
  · repeat' split
    · exact hr _ (hr _ (h0 _).law _) _
    · exact hr _ (h0 _).law _
    · exact hr _ (h0 _).law _
    · exact (h0 _).law

/-! ### Deliveries -/

theorem State.deliverArrival_safe (s : State) (k : PointKind) (value : Nat) : Safe s (s.deliverArrival k value) := by
  cases k
  case wellPressure j => exact s.pressureArrival_safe j value
  case runFeedback k => exact s.feedbackArrival_safe k value
  all_goals exact .refl s

theorem State.deliverQuality_safe (s : State) (k : PointKind) (q : Quality) : Safe s (s.deliverQuality k q) := by
  cases k
  case wellPressure j => exact s.pressureQuality_safe j q
  case runFeedback k => exact s.feedbackQuality_safe k q
  case meterRate => exact .ite (s.raise_reported _ _).safe (.refl s)
  case calorific => exact .ite (s.raise_reported _ _).safe (.refl s)
  all_goals exact .refl s

theorem deliverChange_safe (old : List Point) (s : State) (p : Nat) : Safe s (deliverChange old s p) := by
  unfold deliverChange
  repeat' split
  · exact .refl s
  · exact s.deliverQuality_safe _ _
  · exact .refl s

theorem State.gradeAll_safe (s : State) (f : PointKind → Point → Point) : Safe s (s.gradeAll f) :=
  State.forEach_induct (P := Safe s) (.of_eq rfl rfl rfl rfl) (fun u p _ h => h.trans (deliverChange_safe s.smt u p))

theorem State.storeSample_safe (s : State) (p : Nat) (k : PointKind) (value : Nat) (clamped : Bool) :
    Safe s (s.storeSample p k value clamped) := by
  have h : Safe s ((s.setPoint p ⟨value, 0, .good, clamped⟩).deliverArrival k value) :=
    Safe.trans (t := s.setPoint p ⟨value, 0, .good, clamped⟩) (.of_eq rfl rfl rfl rfl) (State.deliverArrival_safe _ _ _)
  exact .ite h (h.trans (State.deliverQuality_safe _ _ _))

/-! ### The second event and what it makes due -/

theorem Safe.of_clk (s : State) (c : Clock) : Safe s { s with clk := c } := .of_eq rfl rfl rfl rfl
theorem Safe.of_sns (s : State) (x : Store) : Safe s { s with sns := x } := .of_eq rfl rfl rfl rfl
theorem Safe.of_books (s : State) (a : Accounts) (p : Planner) : Safe s { s with act := a, plu := p } :=
  .of_eq rfl rfl rfl rfl
theorem Safe.of_hours (s : State) (h : Closer) (m : Meter) : Safe s { s with hcu := h, mtu := m } :=
  .of_eq rfl rfl rfl rfl

theorem State.second_safe (s : State) : Safe s s.second := by
  rw [State.second_eq]
  have h1 : Safe s s.clockSecond := .of_eq rfl rfl rfl rfl
  have h2 : Safe s.clockSecond s.clockSecond.meterSecond := by
    obtain ⟨m, e⟩ := s.clockSecond.meterSecond_eq
    rw [e]
    exact .of_eq rfl rfl rfl rfl
  have h3 : ∀ u : State, Safe u u.plantSecond := by
    intro u
    refine Safe.trans ?_ (State.dryerSecond_safe _)
    refine State.forEach_induct (P := Safe u) ?_ (fun v k _ h => h.trans (v.modUnit_safe k _ (fun _ => rfl)))
    exact State.forEach_induct (P := Safe u) (.refl u) (fun v j _ h => h.trans (v.cavernSecond_safe j))
  have h4 : ∀ u : State, Safe u u.statusSecond := by
    intro u
    rw [u.statusSecond_eq]
    exact .of_eq rfl rfl rfl rfl
  exact (((h1.trans h2).trans (h3 _)).trans (h4 _)).trans (State.gradeAll_safe _ _)

theorem State.testRequirement_safe (s : State) : Safe s s.testRequirement := by
  unfold State.testRequirement
  dsimp only
  repeat' split
  · exact .refl s
  · exact .refl s
  · exact .of_eq rfl rfl rfl rfl

theorem stepMinute_safe (s : State) : Safe s (stepMinute s) := by
  unfold stepMinute
  split
  · exact (Safe.of_clk s _).trans ((State.cavernMinute_safe _).trans (State.testRequirement_safe _))
  · exact .refl s

theorem State.handHour_safe (s : State) : Safe s s.handHour := by
  unfold State.handHour
  split
  · exact .refl s
  · exact (Safe.of_hours s _ _).trans (State.zeroVolumes_safe _)

theorem stepBoundary_safe (s : State) : Safe s (stepBoundary s) := by
  unfold stepBoundary
  split
  · have h : Safe s ({ s with clk := { s.clk with boundaryDue := false, trimSum := 0 } } : State).handHour :=
      (Safe.of_clk s _).trans (State.handHour_safe _)
    exact .ite (h.trans (State.gasDayRollover_safe _)) h
  · exact .refl s

theorem stepStatus_safe (s : State) : Safe s (stepStatus s) := by
  unfold stepStatus
  split
  · exact (s.offerReport_reported _).safe.trans (.of_eq rfl rfl rfl rfl)
  · exact .refl s

theorem stepCloseBegin_safe (s : State) : Safe s (stepCloseBegin s) := by
  unfold stepCloseBegin
  repeat' split
  all_goals exact .of_eq rfl rfl rfl rfl

theorem State.planTaken_safe (s : State) : Safe s s.planTaken :=
  (s.splitFlow_safe.trans (State.evaluateDuty_safe _)).trans (State.trainsPlan_safe _)

theorem State.applyPlan_safe (s : State) (e : Evaluation) : Safe s (s.applyPlan e) := by
  have h : ∀ u v : State, Safe u v → Safe u { v with plu := { v.plu with eval := none } } :=
    fun u v h => h.trans (.of_eq rfl rfl rfl rfl)
  refine h _ _ (Safe.trans ?_ (State.offerReport_reported _ _).safe)
  split
  · exact (Safe.of_books s _ _).trans (State.raise_reported _ _ _).safe
  · exact .of_eq rfl rfl rfl rfl

theorem State.completePlan_safe (s : State) : Safe s s.completePlan := by
  unfold State.completePlan
  repeat' split
  · exact .refl s
  · exact (s.applyPlan_safe _).trans (State.planTaken_safe _)
  · exact .of_eq rfl rfl rfl rfl

theorem State.completeWrite_safe (s : State) (v : Bool) : Safe s (s.completeWrite v) := by
  unfold State.completeWrite
  repeat' split
  · exact .of_eq rfl rfl rfl rfl
  · exact (Safe.of_sns s _).trans (State.raise_reported _ _ _).safe
  · exact .refl s

theorem State.completeClose_safe (s : State) : Safe s s.completeClose :=
  State.completeClose_keeps (P := Safe s) (fun _ _ hb hu => hu.trans hb.safe)
    (fun ls u j hu => hu.trans (postCavern_safe ls u j)) (fun _ _ hu => hu.trans (.of_eq rfl rfl rfl rfl)) (.refl s)

/-! ### Requests -/

theorem State.acceptClock_safe (s : State) (d t : Nat) : Safe s (s.acceptClock d t) := by
  have h : ∀ (u : State) (x : Nat), Safe u (u.retireHours x).makePlanDue.makeSnapshotDue := fun u x =>
    ((u.retireHours_books x).trans (State.makePlanDue_books _)).trans (State.makeSnapshotDue_books _) |>.safe
  have h1 : ∀ (c : Clock) (x : Nat),
      Safe s (({ s with clk := c } : State).retireHours x).makePlanDue.makeSnapshotDue :=
    fun c x => (Safe.of_clk s c).trans (h _ x)
  unfold State.acceptClock
  dsimp only
  split
  · exact h1 _ _
  · exact Safe.trans (h1 _ _) (State.gasDayRollover_safe _)

theorem State.acceptSettings_law {s : State} (h : s.orderLaw = true) (f : Settings) :
    (s.acceptSettings f).orderLaw = true := by
  have h1 : Safe s ((s.applySettings f).regradePoints s.cfg.limits) :=
    Safe.trans (t := s.applySettings f) (.of_eq rfl rfl rfl rfl) (State.gradeAll_safe _ _)
  exact (State.makeSnapshotDue_books _).safe.law (State.leaveBlank_law (h1.law h))

theorem State.cavernAction_safe (s : State) (j action : Nat) (f : CavernConfig) (ia : Nat) (v : Int) :
    Safe s (s.cavernAction j action f ia v).1 := by
  unfold State.cavernAction
  split
  · exact (s.applyCavern_safe j f ia v).trans (State.makeSnapshotDue_books _).safe
  · exact (s.dropCavern_safe j).trans (State.makeSnapshotDue_books _).safe

theorem State.cavernModeAction_safe (s : State) (j action : Nat) : Safe s (s.cavernModeAction j action) := by
  refine Safe.trans ?_ (State.makeSnapshotDue_books _).safe
  exact .ite (s.cavernInService_safe j) (.ite (s.cavernOutOfService_safe j) (s.abandonSettle_safe j))

theorem State.unitAction_safe (s : State) (k action : Nat) (f : UnitFields) : Safe s (s.unitAction k action f).1 := by
  unfold State.unitAction
  split
  · exact (s.applyUnit_safe k f).trans (State.makeSnapshotDue_books _).safe
  · exact (s.dropUnit_safe k).trans (State.makeSnapshotDue_books _).safe

theorem State.unitModeAction_safe (s : State) (k action : Nat) : Safe s (s.unitModeAction k action) := by
  refine Safe.trans ?_ (State.makeSnapshotDue_books _).safe
  exact .ite (s.unitAvailable_safe k) (.ite (s.unitUnavailable_safe k) (s.unitRelease_safe k))

theorem State.trainAction_safe (s : State) (t action : Nat) (f : TrainFields) :
    Safe s (s.trainAction t action f).1 := by
  unfold State.trainAction
  split
  · exact (s.applyTrain_safe t f).trans (State.makeSnapshotDue_books _).safe
  · exact (s.dropTrain_safe t).trans (State.makeSnapshotDue_books _).safe

theorem State.trainModeAction_safe (s : State) (t action : Nat) : Safe s (s.trainModeAction t action) := by
  refine Safe.trans ?_ (State.makeSnapshotDue_books _).safe
  exact .ite (s.trainInService_safe t) (.ite (s.trainOutOfService_safe t) (s.trainSwitch_safe t))

theorem State.clearLink_safe (s : State) : Safe s s.clearLink :=
  State.clearLink_keeps (P := Safe s) (fun _ _ hu => hu.trans (.of_eq rfl rfl rfl rfl))
    (fun u _ _ hu hi => hu.trans (u.markUnsent_safe hi)) (.refl s)

theorem State.answer_law (b : ReqBody) {s : State} (h : s.orderLaw = true) : (s.answer b).state.orderLaw = true := by
  have by_checks {refusal effect items} (he : Safe s effect.1) :
      (answerBy s refusal effect items).state.orderLaw = true :=
    answerBy_keeps (P := fun u => u.orderLaw = true) h (fun _ => he.law h)
  cases b <;> simp only [State.answer]
  case setClock d t =>
    unfold State.setClock
    split
    · exact by_checks (.of_eq rfl rfl rfl rfl)
    · exact by_checks (s.acceptClock_safe d t)
  case stationCommand a =>
    exact answerBy_keeps (P := fun u => u.orderLaw = true) h (fun hr => State.command_law hr h)
  case stationStatus => exact h
  case configureStation f =>
    exact answerBy_keeps (P := fun u => u.orderLaw = true) h (fun _ => State.acceptSettings_law h f)
  case sample ps =>
    split
    · exact State.takePairs_keeps (P := fun u => u.orderLaw = true)
        (fun u p k v c hu => (u.storeSample_safe p k v c).law hu) ps h
    · exact h
  case pointQuery f c => unfold State.pointQuery; split <;> exact h
  case configureShipper n a r => exact by_checks (s.shipperAction_books n a r).safe
  case loadBalance n x => exact by_checks (s.loadInventory_books n x).safe
  case transfer a b x y =>
    unfold State.requestTransfer
    dsimp only
    split <;> exact h
  case accountQuery n c =>
    unfold State.accountQuery
    repeat' split
    all_goals exact h
  case allocationQuery => exact h
  case nominate n f sp d q =>
    unfold State.nominate
    dsimp only
    repeat' split
    · exact h
    · exact h
    · exact (s.applyNomination_books n _).safe.law h
  case nominationQuery n f => unfold State.nominationQuery; split <;> exact h
  case planQuery => exact h
  case configureCavern j a f ia v => exact by_checks (s.cavernAction_safe j a f ia v)
  case cavernMode j a =>
    unfold State.cavernMode
    dsimp only
    split
    · exact h
    · exact (s.cavernModeAction_safe j a).law h
  case cavernQuery => exact h
  case configureUnit k a f => exact by_checks (s.unitAction_safe k a f)
  case unitMode k a =>
    unfold State.unitMode
    dsimp only
    split
    · exact h
    · exact (s.unitModeAction_safe k a).law h
  case unitQuery => exact h
  case configureTrain t a f => exact by_checks (s.trainAction_safe t a f)
  case trainMode t a => exact by_checks (s.trainModeAction_safe t a)
  case trainQuery => exact h
  case orderQuery f c => unfold State.orderQuery; split <;> exact h
  case alertQuery => exact h
  case alertControl a b c => exact by_checks (s.controlAlerts_books a b c).safe
  case linkStatus => exact h
  case linkReset => exact s.clearLink_safe.law h
  all_goals exact h

/-! ### Every step -/

theorem orderLaw_stepLaw : StepLaw (fun s => s.orderLaw = true) where
  link _ _ h := h
  resend s h := s.resendUnsent_safe.law h
  settleExpiry j s h := (stepSettleExpiry_safe j s).law h
  valveFault j s h := (stepValveFault_safe j s).law h
  timeoutExpiry k s h := (stepTimeoutExpiry_safe k s).law h
  minRunExpiry k s h := (stepMinRunExpiry_safe k s).law h
  minStopExpiry k s h := (stepMinStopExpiry_safe k s).law h
  startListDrop k s h := (stepStartListDrop_safe k s).law h
  heatingExpiry s h := (stepHeatingExpiry_safe s).law h
  coolingExpiry t s h := (stepCoolingExpiry_safe t s).law h
  offspecEntry t s h := (stepOffspecEntry_safe t s).law h
  offspecRecovery t s h := (stepOffspecRecovery_safe t s).law h
  minute s h := (stepMinute_safe s).law h
  boundary s h := (stepBoundary_safe s).law h
  status s h := (stepStatus_safe s).law h
  closeBegin s h := (stepCloseBegin_safe s).law h
  planBegin s h := by unfold stepPlanBegin; split <;> exact h
  snapshotBegin s h := by unfold stepSnapshotBegin; split <;> exact h
  completeClose s h := s.completeClose_safe.law h
  completePlan s h := s.completePlan_safe.law h
  completeWrite v s h := (s.completeWrite_safe v).law h
  second s h := s.second_safe.law h
  assertReset _ _ := State.reset_resting.law
  release crc trip b1 b0 s _ := s.release_law crc trip b1 b0
  tripPin s h _ := State.tripAsserted_law (s := { s with sts := { s.sts with tripActive := true } }) h
  tripRelease _ h := h
  answer b _ h := State.answer_law b h

/-- Settles O5: no operation orders or starts anything outside RUNNING (`orderLaw_stepLaw`), and every entry to PARKED
or TRIPPED writes the safe orders and stops what flows or runs. -/
theorem stepKeepsSafeOrders : Obligations.StepKeepsSafeOrders :=
  fun _ _ _ hs ht => orderLaw_stepLaw.step (fun _ _ h => h) hs ht

end Sys2Proof.Machine
end

section
/-! How a request is taken in a receptive state, and the station's statements that say a command's effect whole: the
reset state (01 R18), STATION STATUS (R13), the refusals in BLANK (R5), the trip pin (R9) and a snapshot write (R16). -/

open Sys2Proof Sys2Proof.Machine

namespace Sys2Proof.Machine

/-! ### A request taken at once (11 R174) -/

/-- The state with a receive queue. -/
def State.withRx (s : State) (l : List Request) : State := { s with slk := { s.slk with rx := l } }

@[simp] theorem State.withRx_withRx (s : State) (l l' : List Request) : (s.withRx l).withRx l' = s.withRx l' := rfl

theorem State.withRx_self {s : State} {l : List Request} (h : s.slk.rx = l) : s.withRx l = s := by subst h; rfl

/-- In a receptive state a request that no close holds is answered at once, and its reply queued. -/
theorem exec_taken {c : Instr} {r : Request} {s : State} (hc : requestOf c = some r) (h : s.receptive = true)
    (hh : s.held r = false) (hl : r.body ≠ .linkReset) :
    exec c s = .next
      (let a := (s.withRx [r]).answer r.body
       (a.state.pushRecord (replyTo r a)).withRx (a.state.slk.rx.drop 1)) := by
  rw [exec_of_request hc, submit_of_receptive h hh]
  simp only [State.handle, hl, if_false]
  rfl

/-- An answer that changes nothing leaves the reply alone. -/
theorem exec_answered {c : Instr} {tag : Nat} {b : ReqBody} {s : State} {res : Result} {items : List Item}
    (hc : requestOf c = some ⟨tag, b⟩) (h : s.receptive = true) (hh : s.held ⟨tag, b⟩ = false) (hl : b ≠ .linkReset)
    (hk : ReqBody.replyKind b = b.kind + 0x40)
    (ha : (s.withRx [⟨tag, b⟩]).answer b = { state := s.withRx [⟨tag, b⟩], result := res, items := items }) :
    exec c s = .next (s.replied b.kind tag res items) := by
  obtain ⟨_, hr, _⟩ := State.receptive_parts h
  rw [exec_taken hc h hh hl]
  simp only [ha, replyTo, hk]
  refine congrArg Host.Outcome.next (congrArg (State.sends · _) (State.withRx_self hr))

/-- A request that a check refuses changes nothing. -/
theorem answerBy_refused {s : State} {refusal : Option Result} {r : Result} (h : refusal = some r)
    (effect : State × Result) (items : State → List Item) :
    answerBy s refusal effect items = { state := s, result := r, items := items s } := by
  subst h; rfl

theorem answerBy_accepted {s : State} {refusal : Option Result} (h : refusal = none) (effect : State × Result)
    (items : State → List Item) :
    answerBy s refusal effect items = { state := effect.1, result := effect.2, items := items effect.1 } := by
  subst h; rfl

/-- No close in flight holds nothing. -/
theorem State.held_of_no_close {s : State} (h : s.hcu.close = none) (r : Request) : s.held r = false := by
  simp [State.held, h]

/-- A kind that no close holds. -/
theorem State.held_of_kind (s : State) {r : Request} (h : heldKinds.contains r.body.kind = false) :
    s.held r = false := by
  rw [State.held, h, Bool.and_false]

/-! ### STATION STATUS (01 R13) -/

/-- Settles O22: the reply is the items of R13 as they stand. -/
theorem stationStatusShowsTheState : Obligations.StationStatusShowsTheState := by
  intro tag s h
  refine exec_answered (b := .stationStatus) rfl h (s.held_of_kind rfl) (by decide) rfl ?_
  simp only [State.answer, State.stationStatus, Answer.mk.injEq, true_and]
  have hours : optionalNumber .u32 (if s.clk.valid then some s.currentHour else none) =
      [.u8 (markCode s.clk.valid), .u32 (if s.clk.valid then s.clk.gasDay * 24 + s.clk.second / 3600 else 0)] := by
    cases s.clk.valid <;> rfl
  have closed : optionalNumber .u32 s.hcu.lastClosed =
      [.u8 (markCode s.hcu.lastClosed.isSome), .u32 (s.hcu.lastClosed.getD 0)] := by
    cases s.hcu.lastClosed <;> rfl
  show s.statusItems = _
  rw [State.statusItems, hours, closed]
  rfl

/-! ### The refusals in BLANK (01 R5) -/

/-- A request whose first check is the one of R5 is refused WRONG_STATE in BLANK. -/
theorem firstFailure_blank {s : State} (h : s.sts.state = .blank) (cs : List (Bool × Result)) :
    firstFailure ((s.isBlank, .wrongState) :: cs) = some .wrongState := by
  simp [firstFailure, State.isBlank, h]

/-- In BLANK the eleven kinds are answered WRONG_STATE. -/
theorem State.answer_blank {s : State} (h : s.sts.state = .blank) {b : ReqBody}
    (hk : b.kind ∈ [0x02, 0x08, 0x09, 0x0A, 0x10, 0x18, 0x19, 0x1C, 0x1D, 0x20, 0x21])
    (hu : ∀ k, b ≠ .unknown k) (hm : ∀ k, b ≠ .malformed k) :
    ∃ items, s.answer b = { state := s, result := .wrongState, items := items } := by
  have refused {refusal effect items} (hr : refusal = some Result.wrongState) :
      ∃ i, answerBy s refusal effect items = { state := s, result := .wrongState, items := i } :=
    ⟨_, answerBy_refused hr _ _⟩
  have blank := fun cs => firstFailure_blank h cs
  cases b
  case stationCommand =>
    simp only [State.answer, State.stationCommand]
    exact refused (by exact blank _)
  case configureShipper =>
    simp only [State.answer, State.configureShipper]
    exact refused (by exact blank _)
  case loadBalance =>
    simp only [State.answer, State.loadBalance]
    exact refused (by exact blank _)
  case transfer a b x y =>
    simp only [State.answer, State.requestTransfer, State.transferRefusal, blank]
    exact ⟨_, rfl⟩
  case nominate n f sp d q =>
    simp only [State.answer, State.nominate, State.nominateRefusal, blank]
    exact ⟨_, rfl⟩
  case configureCavern =>
    simp only [State.answer, State.configureCavern]
    exact refused (by exact blank _)
  case cavernMode j a =>
    simp only [State.answer, State.cavernMode, State.cavernModeRefusal, blank]
    exact ⟨_, rfl⟩
  case configureUnit =>
    simp only [State.answer, State.configureUnit]
    exact refused (by exact blank _)
  case unitMode k a =>
    simp only [State.answer, State.unitMode, State.unitModeRefusal, blank]
    exact ⟨_, rfl⟩
  case configureTrain =>
    simp only [State.answer, State.configureTrain]
    exact refused (by exact blank _)
  case trainMode =>
    simp only [State.answer, State.trainMode]
    exact refused (by exact blank _)
  case unknown k => exact absurd rfl (hu k)
  case malformed k => exact absurd rfl (hm k)
  all_goals simp [ReqBody.kind] at hk

/-- No row sends a malformed request. -/
theorem requestOf_not_malformed {c : Instr} {r : Request} (h : requestOf c = some r) (k : Nat) :
    r.body ≠ .malformed k := by
  cases c <;> simp only [requestOf, Option.some.injEq, reduceCtorEq] at h <;> subst h <;> exact nofun

/-- Settles O21: the first check of the eleven kinds is the one of R5. -/
theorem blankRefusesPlantAndBooks : Obligations.BlankRefusesPlantAndBooks := by
  intro c r s hc h hb hcl hk hu
  obtain ⟨tag, b⟩ := r
  obtain ⟨items, ha⟩ := State.answer_blank (s := s.withRx [⟨tag, b⟩]) hb hk hu (requestOf_not_malformed hc)
  refine ⟨items, exec_answered hc h (State.held_of_no_close hcl _) ?_ ?_ ha⟩
  · rintro rfl
    simp [ReqBody.kind] at hk
  · cases b
    case unknown k => exact absurd rfl (hu k)
    all_goals rfl

/-! ### The trip pin (01 R9) -/

theorem State.noteDropped_withRx (s : State) (l : List Request) :
    (s.withRx l).noteDropped = s.noteDropped.withRx l := by
  have e := apply_ite (State.withRx · l) ((s.alert .reportsDropped).reports = true)
    ((s.recordAlert .reportsDropped 0).recordAlert .reportsDropped 0) (s.recordAlert .reportsDropped 0)
  exact e.symm

theorem State.offerReport_withRx (s : State) (l : List Request) (r : Record) :
    (s.withRx l).offerReport r = (s.offerReport r).withRx l := by
  have e := apply_ite (State.withRx · l) (s.occupancy < 28) (s.pushRecord r) s.noteDropped
  rw [← s.noteDropped_withRx l] at e
  exact e.symm

theorem State.raise_withRx (s : State) (l : List Request) (k : AlertKind) (o : Nat) :
    (s.withRx l).raise k o = (s.raise k o).withRx l := by
  have e := apply_ite (State.withRx · l) ((s.alert k).reports = true)
    ((s.recordAlert k o).offerReport ((s.recordAlert k o).alertReport k)) (s.recordAlert k o)
  rw [← State.offerReport_withRx] at e
  exact e.symm

theorem State.raise_rx (s : State) (k : AlertKind) (o : Nat) : (s.raise k o).slk.rx = s.slk.rx :=
  (s.raise_reported k o).plant.rx

/-- TRIP is taken in every state but BLANK. -/
theorem State.commandRefusal_trip {s : State} (h : s.sts.state ≠ .blank) : s.commandRefusal 2 = none := by
  rw [State.commandRefusal, firstFailure_eq_none]
  simp [State.isBlank, h]

/-- Settles O15: in BLANK and TRIPPED an assertion only raises STATION_TRIP. -/
theorem tripPinIsRecorded : Obligations.TripPinIsRecorded := by
  refine ⟨fun s h hp hs => ?_, fun s h hp => ?_, fun s h => ?_, fun tag s h hs => ?_⟩
  · refine congrArg Host.Outcome.next ((external_of_quiet h _).trans ?_)
    simp only [hp, Bool.false_eq_true, if_false]
    obtain hs | hs := hs <;> simp only [State.tripAsserted, hs]
  · refine congrArg Host.Outcome.next ((external_of_quiet h _).trans ?_)
    simp only [hp, if_true]
  · exact congrArg Host.Outcome.next (external_of_quiet h _)
  · obtain ⟨_, hr, _⟩ := State.receptive_parts h
    have ha : (s.withRx [⟨tag, .stationCommand 2⟩]).answer (.stationCommand 2) =
        { state := (s.raise .stationTrip 0).withRx [⟨tag, .stationCommand 2⟩], result := .ok, items := [] } := by
      simp only [State.answer, State.stationCommand]
      rw [answerBy_accepted (State.commandRefusal_trip ?_)]
      · rw [← State.raise_withRx]
        have : (s.withRx [⟨tag, .stationCommand 2⟩]).sts.state = .tripped := hs
        simp [State.command, State.tripAsserted, this]
      · show s.sts.state ≠ _
        simp [hs]
    rw [exec_taken (r := ⟨tag, .stationCommand 2⟩) rfl h (s.held_of_kind rfl) nofun, ha]
    have hx : (s.raise .stationTrip 0).slk.rx = [] := (s.raise_rx _ _).trans hr
    exact congrArg Host.Outcome.next (congrArg (State.pushRecord · _) (State.withRx_self hx))

/-! ### A snapshot write (01 R16) -/

/-- Settles O24: the begin and the two outcomes of a write, as the model's step and operand give them. -/
theorem snapshotWriteCopiesAtItsBegin : Obligations.SnapshotWriteCopiesAtItsBegin := by
  refine ⟨fun s hr hd hb hw hc hh hbd => ?_, fun s h => ?_, fun s h hw => ⟨?_, ?_⟩⟩
  · have hdue : s.snapshotDueNow = true := by
      simp [State.snapshotDueNow, State.isBlank, State.closeClear, *]
    refine congrArg Host.Outcome.next ((internal_of_released hr _).trans ?_)
    unfold stepSnapshotBegin
    rw [if_pos hdue]
    rfl
  · have hdue : s.snapshotDueNow = false := by
      obtain h | h | h | h := h
      · simp [State.snapshotDueNow, h]
      · simp [State.snapshotDueNow, State.isBlank, h]
      · simp [State.snapshotDueNow, h]
      · obtain ⟨f, hf⟩ := Option.isSome_iff_exists.mp h
        simp [State.snapshotDueNow, State.closeClear, hf]
    refine congrArg Host.Outcome.next ?_
    unfold internal
    rw [stepSnapshotBegin_of_not_due hdue, ite_self]
  · refine congrArg Host.Outcome.next ((external_of_quiet h _).trans ?_)
    simp [State.completeWrite, hw]
  · refine congrArg Host.Outcome.next ((external_of_quiet h _).trans ?_)
    simp [State.completeWrite, hw]

/-! ### The reset state (01 R18) -/

theorem nth_replicate_join {α : Type} (n m : Nat) : (nth (List.replicate n (none : Option α)) m).join = none := by
  cases m with
  | zero => rfl
  | succ m =>
    rw [nth_succ, List.getElem?_replicate]
    split <;> rfl

theorem point_reset (p : Nat) : State.reset.point p = Point.never := by
  simp only [State.point, State.reset, List.getD_eq_getElem?_getD, List.getElem?_replicate]
  split <;> rfl

theorem alert_reset (k : AlertKind) : State.reset.alert k = ⟨false, true, 0, 0, 0⟩ := by
  cases k <;> rfl

/-- Settles O3: the reset state is one concrete state, and each item and law is read off it. -/
theorem resetStateIsBlankStart : Obligations.ResetStateIsBlankStart := by
  refine ⟨rfl, rfl, rfl, rfl, by decide, rfl, rfl, rfl, fun j => nth_replicate_join 8 j, fun k => nth_replicate_join 6 k,
    fun t => nth_replicate_join 2 t, rfl, rfl, rfl, point_reset, rfl, rfl, rfl, rfl, rfl, rfl, rfl, rfl, rfl,
    alert_reset, rfl, rfl, by decide, by decide, by decide, rfl, rfl, ?_⟩
  exact ⟨by decide, State.reset_resting.law, by decide, by decide, by decide, by decide, by decide, by decide⟩

end Sys2Proof.Machine
end

section
/-! What the plant's operations leave of the due mark and of the alert set: PLU stays due once it is (06 R85), and each
block raises only alerts of its own kinds (11 R178). -/

open Sys2Proof Sys2Proof.Machine

namespace Sys2Proof.Machine

/-! ### Records read through the blocks that hold them -/

theorem State.cavern_congr {s t : State} (h : t.cvc = s.cvc) (j : Nat) : t.cavern j = s.cavern j := by
  unfold State.cavern; rw [h]

theorem State.unit_congr {s t : State} (h : t.cdu.units = s.cdu.units) (k : Nat) : t.unit k = s.unit k := by
  unfold State.unit; rw [h]

theorem State.train_congr {s t : State} (h : t.drc.trains = s.drc.trains) (n : Nat) : t.train n = s.train n := by
  unfold State.train; rw [h]

theorem State.order_congr {s t : State} (h : t.ori = s.ori) (i : Nat) : t.order i = s.order i := by
  unfold State.order; rw [h]

theorem State.point_congr {s t : State} (h : t.smt = s.smt) (p : Nat) : t.point p = s.point p := by
  unfold State.point; rw [h]

theorem State.partition_congr {s t : State} (h : t.nst = s.nst) (n : Nat) : t.partition n = s.partition n := by
  unfold State.partition; rw [h]

/-! ### Alert records (11 R178) -/

/-- The kinds in the order of their numbers. -/
def alertKinds : List AlertKind :=
  [.stationTrip, .storeFault, .unitLockout, .trainBreakthrough, .trainOffspec, .cavernFault, .meterStale, .cvStale,
   .unitTrip, .unitStartFailed, .cavernFull, .cavernEmpty, .cavernRamp, .reversalLimit, .curtailment, .trainDerated,
   .shipperOverrun, .shipperOverSpace, .imbalanceSaturated, .transferFailed, .nomStoreNearFull, .estimatedHour,
   .reportsDropped]

theorem nth_alertKinds (k : AlertKind) : nth alertKinds (alertNumber k) = some k := by cases k <;> rfl

theorem alertNumber_injective {a b : AlertKind} (h : alertNumber a = alertNumber b) : a = b := by
  have e := nth_alertKinds a
  rw [h, nth_alertKinds] at e
  exact (Option.some.inj e).symm

theorem State.alert_congr {s t : State} (h : t.als = s.als) (b : AlertKind) : t.alert b = s.alert b := by
  unfold State.alert; rw [h]

theorem State.alert_recordAlert_of_ne (s : State) {k b : AlertKind} (o : Nat) (h : b ≠ k) :
    (s.recordAlert k o).alert b = s.alert b := by
  have e := nth_setNth_of_ne s.als { s.alert k with pending := true, count := satAdd 255 (s.alert k).count 1
                                                    object := o, second := s.clk.stationSeconds }
    (fun hn => h (alertNumber_injective hn))
  exact congrArg (·.getD (AlertRecord.clear false)) e

/-- Every kind has its record. -/
theorem State.alert_mem {s : State} (h : s.als.length = 23) (k : AlertKind) :
    nth s.als (alertNumber k) = some (s.alert k) := by
  have hk : (nth s.als (alertNumber k)).isSome = true := by
    rw [nth_isSome, h]; cases k <;> decide
  obtain ⟨a, ha⟩ := Option.isSome_iff_exists.mp hk
  simp [State.alert, ha]

theorem State.alert_recordAlert {s : State} (h : s.als.length = 23) (k : AlertKind) (o : Nat) :
    (s.recordAlert k o).alert k = (s.alert k).raised o s.clk.stationSeconds := by
  unfold State.recordAlert State.alert
  simp only
  rw [nth_setNth_self _ (State.alert_mem h k)]
  rfl

theorem State.alert_noteDropped_of_ne (s : State) {b : AlertKind} (h : b ≠ .reportsDropped) :
    s.noteDropped.alert b = s.alert b := by
  unfold State.noteDropped
  dsimp only
  split
  · rw [State.alert_recordAlert_of_ne _ _ h, State.alert_recordAlert_of_ne _ _ h]
  · exact State.alert_recordAlert_of_ne _ _ h

theorem State.alert_offerReport_of_ne (s : State) (r : Record) {b : AlertKind} (h : b ≠ .reportsDropped) :
    (s.offerReport r).alert b = s.alert b := by
  unfold State.offerReport
  split
  · rfl
  · exact s.alert_noteDropped_of_ne h

/-- Raising an alert touches its record, and at most that of REPORTS_DROPPED besides. -/
theorem State.alert_raise_of_ne (s : State) {k b : AlertKind} (o : Nat) (h : b ≠ k) (hd : b ≠ .reportsDropped) :
    (s.raise k o).alert b = s.alert b := by
  unfold State.raise
  dsimp only
  split
  · rw [State.alert_offerReport_of_ne _ _ hd, State.alert_recordAlert_of_ne _ _ h]
  · exact State.alert_recordAlert_of_ne _ _ h

theorem State.alert_raise {s : State} (h : s.als.length = 23) {k : AlertKind} (hk : k ≠ .reportsDropped) (o : Nat) :
    (s.raise k o).alert k = (s.alert k).raised o s.clk.stationSeconds := by
  unfold State.raise
  dsimp only
  split
  · rw [State.alert_offerReport_of_ne _ _ hk, State.alert_recordAlert h]
  · exact State.alert_recordAlert h k o

/-! ### Operations that keep PLU due and raise few alerts -/

/-- `t` follows `s` with PLU due if it was, and with the alert records of every kind but those of `K` as they were. -/
structure Calm (K : List AlertKind) (s t : State) : Prop where
  due : s.plu.due = true → t.plu.due = true
  alerts : ∀ b, b ∉ K → t.alert b = s.alert b

/-- The alerts that CVC raises on its own. -/
def cavernAlerts : List AlertKind := [.reversalLimit, .reportsDropped]

/-- The alerts that CDU raises on its own. -/
def unitAlerts : List AlertKind := [.unitTrip, .unitStartFailed, .unitLockout, .reportsDropped]

/-- The alerts that the forming of a train raises. -/
def trainAlerts : List AlertKind := [.trainDerated, .trainBreakthrough, .reportsDropped]

theorem Calm.refl {K : List AlertKind} (s : State) : Calm K s s := ⟨id, fun _ _ => rfl⟩

theorem Calm.trans {K : List AlertKind} {s t u : State} (h1 : Calm K s t) (h2 : Calm K t u) : Calm K s u :=
  ⟨fun h => h2.due (h1.due h), fun b hb => (h2.alerts b hb).trans (h1.alerts b hb)⟩

theorem Calm.ite {K : List AlertKind} {s a b : State} {p : Prop} [Decidable p] (h1 : Calm K s a) (h2 : Calm K s b) :
    Calm K s (if p then a else b) := by split <;> assumption

theorem Calm.mono {K L : List AlertKind} {s t : State} (h : Calm K s t) (hKL : K ⊆ L) : Calm L s t :=
  ⟨h.due, fun b hb => h.alerts b (fun hk => hb (hKL hk))⟩

theorem Calm.of_eq {K : List AlertKind} {s t : State} (hp : t.plu = s.plu) (ha : t.als = s.als) : Calm K s t :=
  ⟨fun h => by rw [hp]; exact h, fun b _ => State.alert_congr ha b⟩

theorem Ordered.calm {K : List AlertKind} {s t : State} (h : Ordered s t) : Calm K s t :=
  .of_eq (congrArg (fun x => x.plu) h.rest) (congrArg (fun x => x.als) h.rest)

theorem State.raise_calm {K : List AlertKind} (s : State) {k : AlertKind} (o : Nat) (hk : k ∈ K)
    (hd : .reportsDropped ∈ K) : Calm K s (s.raise k o) := by
  refine ⟨fun h => ?_, fun b hb => s.alert_raise_of_ne o (fun e => hb (e ▸ hk)) (fun e => hb (e ▸ hd))⟩
  rwa [show (s.raise k o).plu = s.plu from congrArg (fun x => x.plu) (s.raise_reported k o).rest]

theorem State.makePlanDue_calm {K : List AlertKind} (s : State) : Calm K s s.makePlanDue :=
  ⟨fun _ => rfl, fun b _ => State.alert_congr (s.makePlanDue_als) b⟩

theorem State.setCavern_calm {K : List AlertKind} (s : State) (j : Nat) (c : Option Cavern) :
    Calm K s (s.setCavern j c) := .of_eq rfl rfl

theorem State.modCavern_calm {K : List AlertKind} (s : State) (j : Nat) (f : Cavern → Cavern) :
    Calm K s (s.modCavern j f) := by
  obtain ⟨c, _, e⟩ | ⟨_, e⟩ := s.modCavern_eq j f <;> rw [e]
  · exact s.setCavern_calm j _
  · exact .refl s

theorem State.setUnit_calm {K : List AlertKind} (s : State) (k : Nat) (u : Option Compressor) :
    Calm K s (s.setUnit k u) := .of_eq rfl rfl

theorem State.modUnit_calm {K : List AlertKind} (s : State) (k : Nat) (f : Compressor → Compressor) :
    Calm K s (s.modUnit k f) := by
  obtain ⟨c, _, e⟩ | ⟨_, e⟩ := s.modUnit_eq k f <;> rw [e]
  · exact s.setUnit_calm k _
  · exact .refl s

theorem State.setTrain_calm {K : List AlertKind} (s : State) (t : Nat) (r : Option Train) :
    Calm K s (s.setTrain t r) := .of_eq rfl rfl

theorem State.modTrain_calm {K : List AlertKind} (s : State) (t : Nat) (f : Train → Train) :
    Calm K s (s.modTrain t f) := by
  obtain ⟨c, _, e⟩ | ⟨_, e⟩ := s.modTrain_eq t f <;> rw [e]
  · exact s.setTrain_calm t _
  · exact .refl s

theorem Calm.of_drc {K : List AlertKind} (s : State) (d : Drying) : Calm K s { s with drc := d } := .of_eq rfl rfl

theorem Calm.forEach {K : List AlertKind} {f : State → Nat → State} (h : ∀ u n, Calm K u (f u n)) (ns : List Nat)
    (s : State) : Calm K s (s.forEach ns f) :=
  State.forEach_induct (P := Calm K s) (.refl s) (fun u n _ hu => hu.trans (h u n))

/-! ### CVC -/

theorem State.writeValve_calm {K : List AlertKind} (s : State) (j : Nat) (v : Valve) : Calm K s (s.writeValve j v) := by
  unfold State.writeValve
  exact .ite (.refl s) ((s.writeOrder_ordered _ _).calm.trans (State.modCavern_calm _ _ _))

theorem State.writeRate_calm {K : List AlertKind} (s : State) (j n : Nat) : Calm K s (s.writeRate j n) :=
  (s.writeRate_ordered j n).calm

theorem State.shutCavern_calm {K : List AlertKind} (s : State) (j : Nat) : Calm K s (s.shutCavern j) :=
  ((s.writeValve_calm j .shut).trans (State.writeRate_calm _ _ _)).trans (State.modCavern_calm _ _ _)

theorem State.enterSettling_calm {K : List AlertKind} (s : State) (j : Nat) : Calm K s (s.enterSettling j) :=
  ((s.shutCavern_calm j).trans (State.modCavern_calm _ _ _)).trans (State.makePlanDue_calm _)

theorem State.formCaps_calm {K : List AlertKind} (s : State) (j : Nat) : Calm K s (s.formCaps j).1 := by
  unfold State.formCaps
  cases s.cavern j with
  | none => exact .refl s
  | some c => exact .ite ((s.setCavern_calm j _).trans (State.makePlanDue_calm _)) (s.setCavern_calm j _)

theorem State.formAllCaps_calm {K : List AlertKind} (s : State) : Calm K s s.formAllCaps.1 :=
  State.formAllCaps_keeps (P := Calm K s) (fun u j _ h => h.trans (u.formCaps_calm j)) (.refl s)

theorem State.orderFlow_calm {K : List AlertKind} (s : State) (j : Nat) (d : Dir) (n : Nat) :
    Calm K s (s.orderFlow j d n) :=
  ((s.modCavern_calm j _).trans (State.writeValve_calm _ _ _)).trans (State.writeRate_calm _ _ _)

theorem State.enterFlow_calm (s : State) (j : Nat) (c : Cavern) (d : Dir) (n : Nat) :
    Calm cavernAlerts s (s.enterFlow j c d n) := by
  unfold State.enterFlow
  dsimp only
  refine Calm.trans ?_ (State.makePlanDue_calm _)
  refine Calm.trans ?_ (State.orderFlow_calm _ _ _ _)
  refine Calm.trans ?_ (State.modCavern_calm _ _ _)
  exact .ite ((s.modCavern_calm j _).trans (State.raise_calm _ _ (by decide) (by decide))) (s.modCavern_calm j _)

theorem State.reenterFlow_calm {K : List AlertKind} (s : State) (j : Nat) (d : Dir) (n : Nat) :
    Calm K s (s.reenterFlow j d n) :=
  ((s.modCavern_calm j _).trans (State.orderFlow_calm _ _ _ _)).trans (State.makePlanDue_calm _)

theorem State.adjustFlow_calm {K : List AlertKind} (s : State) (j : Nat) (c : Cavern) (d : Dir) (n : Nat) :
    Calm K s (s.adjustFlow j c d n) :=
  .ite ((s.modCavern_calm j _).trans (State.writeRate_calm _ _ _)) (s.modCavern_calm j _)

theorem State.applyShare_calm (s : State) (j n : Nat) : Calm cavernAlerts s (s.applyShare j n) := by
  unfold State.applyShare
  repeat' split
  · exact .refl s
  · exact s.enterSettling_calm j
  · exact s.adjustFlow_calm j _ _ _
  · exact .refl s
  · exact .refl s
  · exact .refl s
  · exact s.enterFlow_calm j _ _ _
  · exact s.reenterFlow_calm j _ _
  · exact .refl s
  · exact .refl s

theorem State.runSplit_calm (s : State) : Calm cavernAlerts s s.runSplit :=
  Calm.forEach (fun u j => u.applyShare_calm j _) _ s

theorem settleCaps_calm (n : Nat) (s : State) : Calm cavernAlerts s (settleCaps n s) := by
  induction n generalizing s with
  | zero => exact s.formAllCaps_calm
  | succ n ih =>
    unfold settleCaps
    dsimp only
    split
    · exact (s.formAllCaps_calm.trans (State.runSplit_calm _)).trans (ih _)
    · exact s.formAllCaps_calm

theorem State.cavernsChanged_calm (s : State) : Calm cavernAlerts s s.cavernsChanged := settleCaps_calm 8 s

theorem State.pressureQuality_calm (s : State) (j : Nat) (q : Quality) :
    Calm cavernAlerts s (s.pressureQuality j q) := by
  unfold State.pressureQuality
  split
  · exact .refl s
  · exact Calm.trans (.ite (s.enterSettling_calm j) (.refl s)) (State.cavernsChanged_calm _)

theorem State.cavernSecond_calm {K : List AlertKind} (s : State) (j : Nat) : Calm K s (s.cavernSecond j) := by
  unfold State.cavernSecond
  split
  · exact .refl s
  · exact s.setCavern_calm j _

/-! ### CDU -/

theorem State.writeOrderIfNew_calm {K : List AlertKind} (s : State) (i : Nat) (v : OrderValue) :
    Calm K s (s.writeOrderIfNew i v) := (s.writeOrderIfNew_ordered i v).calm

theorem State.writeUnitOrders_calm {K : List AlertKind} (s : State) : Calm K s s.writeUnitOrders := by
  refine Calm.trans (Calm.forEach (fun u k => ?_) _ s) (Calm.forEach (fun u k => ?_) _ _)
  · split
    · exact .ite (.refl u) (u.writeOrderIfNew_calm _ _)
    · exact .refl u
  · split
    · exact u.writeOrderIfNew_calm _ _
    · exact .refl u

theorem State.changeUnit_calm {K : List AlertKind} (s : State) (k : Nat) (u v : Compressor) :
    Calm K s (s.changeUnit k u v) := .ite ((s.setUnit_calm k _).trans (State.makePlanDue_calm _)) (s.setUnit_calm k _)

theorem State.readyTest_calm {K : List AlertKind} (s : State) (k : Nat) : Calm K s (s.readyTest k).1 := by
  unfold State.readyTest
  repeat' split
  · exact s.changeUnit_calm k _ _
  · exact .refl s
  · exact .refl s

theorem State.enterResting_calm {K : List AlertKind} (s : State) (k : Nat) (u : Compressor) :
    Calm K s (s.enterResting k u).1 := (s.changeUnit_calm k _ _).trans (State.readyTest_calm _ _)

theorem State.stoppedTest_calm {K : List AlertKind} (s : State) (k : Nat) : Calm K s (s.stoppedTest k).1 := by
  unfold State.stoppedTest
  repeat' split
  · exact s.enterResting_calm k _
  · exact .refl s
  · exact .refl s

theorem startUnits_calm {K : List AlertKind} (n need : Nat) (s : State) : Calm K s (startUnits n need s).1 := by
  induction n generalizing s with
  | zero => exact .refl s
  | succ n ih =>
    unfold startUnits
    repeat' split
    · exact (s.changeUnit_calm _ _ _).trans (ih _)
    · exact .refl s
    · exact .refl s

theorem State.stopUnit_calm {K : List AlertKind} (s : State) : Calm K s s.stopUnit := by
  unfold State.stopUnit
  split
  · exact (s.changeUnit_calm _ _ _).trans (State.stoppedTest_calm _ _)
  · exact .refl s

theorem State.evaluateDuty_calm {K : List AlertKind} (s : State) : Calm K s s.evaluateDuty := by
  have hl : ∀ u : State, Calm K u u.setLoads := fun u => Calm.forEach (fun v k => v.modUnit_calm k _) _ u
  unfold State.evaluateDuty
  split
  · have hs := startUnits_calm (K := K) 6 s.need s
    generalize startUnits 6 s.need s = r at hs ⊢
    refine Calm.trans ?_ (State.writeUnitOrders_calm _)
    exact Calm.trans (.ite hs (hs.trans r.1.stopUnit_calm)) (hl _)
  · exact .refl s

theorem repeatDuty_calm {K : List AlertKind} (n : Nat) (s : State) : Calm K s (repeatDuty n s) := by
  induction n generalizing s with
  | zero => exact .refl s
  | succ n ih => exact s.evaluateDuty_calm.trans (ih _)

theorem dutyAfter_calm {K : List AlertKind} (r : State × Nat) : Calm K r.1 (dutyAfter r) :=
  .ite (.refl _) (r.1.writeUnitOrders_calm.trans (repeatDuty_calm _ _))

theorem State.tripUnit_calm (s : State) (k : Nat) (u : Compressor) {a : AlertKind} (ha : a ∈ unitAlerts) :
    Calm unitAlerts s (s.tripUnit k u a) := by
  unfold State.tripUnit
  dsimp only
  refine Calm.trans ?_ (dutyAfter_calm _)
  refine Calm.trans ?_ (State.stoppedTest_calm _ _)
  have h := fun v => ((s.changeUnit_calm (K := unitAlerts) k u v).trans (State.writeUnitOrders_calm _)).trans
    (State.raise_calm _ k ha (by decide))
  exact .ite ((h _).trans (State.raise_calm _ k (by decide) (by decide))) (h _)

theorem State.feedbackQuality_calm (s : State) (k : Nat) (q : Quality) :
    Calm unitAlerts s (s.feedbackQuality k q) := by
  unfold State.feedbackQuality
  repeat' split
  · exact .refl s
  · exact s.tripUnit_calm k _ (by decide)
  · exact .refl s

theorem State.stopEngaged_calm {K : List AlertKind} (s : State) (k : Nat) : Calm K s (s.stopEngaged k) := by
  unfold State.stopEngaged
  repeat' split
  · exact (s.changeUnit_calm k _ _).trans (State.stoppedTest_calm _ _)
  · exact .refl s
  · exact .refl s

theorem State.unitsStop_calm {K : List AlertKind} (s : State) : Calm K s s.unitsStop :=
  (Calm.forEach (fun u k => u.stopEngaged_calm k) _ s).trans (State.writeUnitOrders_calm _)

/-! ### DRC -/

theorem State.formTrain_calm (s : State) (t : Nat) : Calm trainAlerts s (s.formTrain t) := by
  unfold State.formTrain
  cases s.train t with
  | none => exact .refl s
  | some r =>
    have h := s.setTrain_calm (K := trainAlerts) t
      (some { r with condition := r.formCondition
                     planCap := planningCapacity r.config r.state r.formCondition })
    have hr := fun {k} (hk : k ∈ trainAlerts) => h.trans (State.raise_calm _ t hk (by decide))
    have ha := Calm.ite (p := r.formCondition = .derated ∧ r.condition = .normal) (hr (k := .trainDerated) (by decide))
      (.ite (p := r.formCondition = .breakthrough ∧ r.condition ≠ .breakthrough)
        (hr (k := .trainBreakthrough) (by decide)) h)
    exact .ite ha (ha.trans (State.makePlanDue_calm _))

theorem State.changeTrain_calm (s : State) (t : Nat) (r : Train) (st : TrainState) :
    Calm trainAlerts s (s.changeTrain t r st) :=
  ((s.setTrain_calm t _).trans (State.formTrain_calm _ _)).trans (State.makePlanDue_calm _)

theorem State.standDown_calm (s : State) (t : Nat) : Calm trainAlerts s (s.standDown t) := by
  unfold State.standDown
  split
  · exact .ite (s.changeTrain_calm t _ _) (.refl s)
  · exact .refl s

theorem State.trainsStop_calm (s : State) : Calm trainAlerts s s.trainsStop := by
  rw [State.trainsStop_eq]
  exact Calm.forEach State.standDown_calm _ s

theorem State.serveHeater_calm (s : State) : Calm trainAlerts s s.serveHeater := by
  unfold State.serveHeater
  cases s.drc.queue with
  | nil => exact .refl s
  | cons x rest =>
    refine .ite ?_ (.refl s)
    cases s.train x.1 with
    | none => exact .refl s
    | some r =>
      refine Calm.trans ?_ (State.formTrain_calm _ _)
      refine Calm.trans ?_ (State.writeTrainStep_ordered _ _ _).calm
      exact (Calm.of_drc s _).trans (State.setTrain_calm _ _ _)

theorem State.abortHeating_calm (s : State) : Calm trainAlerts s s.abortHeating := by
  unfold State.abortHeating
  cases s.drc.heating with
  | none => exact .refl s
  | some x =>
    refine Calm.trans ?_ (State.formTrain_calm _ _)
    refine Calm.trans ?_ (State.writeTrainStep_ordered _ _ _).calm
    exact (Calm.of_drc s _).trans (State.modTrain_calm _ _ _)

theorem State.switchBeds_calm (s : State) (t : Nat) (r : Train) : Calm trainAlerts s (s.switchBeds t r) := by
  unfold State.switchBeds
  refine Calm.trans ?_ (State.serveHeater_calm _)
  refine Calm.trans ?_ (State.formTrain_calm _ _)
  refine Calm.trans ?_ (State.writeTrainBed_ordered _ _ _).calm
  exact (s.setTrain_calm t _).trans (Calm.of_drc _ _)

theorem State.switchTest_calm (s : State) (t : Nat) : Calm trainAlerts s (s.switchTest t) := by
  unfold State.switchTest
  split
  · exact .ite (s.switchBeds_calm t _) (.refl s)
  · exact .refl s

theorem State.switchTests_calm (s : State) : Calm trainAlerts s s.switchTests := by
  unfold State.switchTests
  split
  · exact .of_drc s _
  · exact (Calm.of_drc s _).trans (Calm.forEach State.switchTest_calm _ _)

theorem State.dryerSecond_calm (s : State) : Calm trainAlerts s s.dryerSecond := by
  have h : Calm trainAlerts s (s.forEach trainNumbers State.trainSecond) := by
    refine Calm.forEach (fun u t => ?_) _ s
    unfold State.trainSecond
    split
    · exact .refl u
    · exact (u.setTrain_calm t _).trans (State.formTrain_calm _ _)
  unfold State.dryerSecond
  exact (h.trans (Calm.of_drc _ _)).trans (State.switchTests_calm _)

theorem State.plantSecond_calm (s : State) : Calm trainAlerts s s.plantSecond :=
  ((Calm.forEach State.cavernSecond_calm _ s).trans (Calm.forEach (fun u k => u.modUnit_calm k _) _ _)).trans
    (State.dryerSecond_calm _)

end Sys2Proof.Machine
end

section
/-! The caps formed again (07 R117, R118), cavern by cavern; and with them the statements on SET CLOCK (01 R3, R4), START
(R7) and a release without a snapshot (R14, R18). -/

open Sys2Proof Sys2Proof.Machine

namespace Sys2Proof.Machine

/-! ### The caps of every cavern -/

/-- `t` differs from `s` at most in CVC and the plan-due mark. -/
structure CapsMoved (s t : State) : Prop where
  rest : { t with cvc := s.cvc, plu := { t.plu with due := s.plu.due } } = s

theorem CapsMoved.refl (s : State) : CapsMoved s s := ⟨rfl⟩

theorem CapsMoved.trans {s t u : State} (h1 : CapsMoved s t) (h2 : CapsMoved t u) : CapsMoved s u :=
  ⟨(congrArg (fun x : State => { x with cvc := s.cvc, plu := { x.plu with due := s.plu.due } }) h2.rest).trans h1.rest⟩

theorem CapsMoved.ite {s a b : State} {p : Prop} [Decidable p] (h1 : CapsMoved s a) (h2 : CapsMoved s b) :
    CapsMoved s (if p then a else b) := by split <;> assumption

section
variable {s t : State} (h : CapsMoved s t)
include h
theorem CapsMoved.clk : t.clk = s.clk := congrArg (fun x => x.clk) h.rest
theorem CapsMoved.sts : t.sts = s.sts := congrArg (fun x => x.sts) h.rest
theorem CapsMoved.smt : t.smt = s.smt := congrArg (fun x => x.smt) h.rest
theorem CapsMoved.nst : t.nst = s.nst := congrArg (fun x => x.nst) h.rest
theorem CapsMoved.cdu : t.cdu = s.cdu := congrArg (fun x => x.cdu) h.rest
theorem CapsMoved.drc : t.drc = s.drc := congrArg (fun x => x.drc) h.rest
theorem CapsMoved.slk : t.slk = s.slk := congrArg (fun x => x.slk) h.rest
theorem CapsMoved.ori : t.ori = s.ori := congrArg (fun x => x.ori) h.rest
theorem CapsMoved.als : t.als = s.als := congrArg (fun x => x.als) h.rest
theorem CapsMoved.order (i : Nat) : t.order i = s.order i := State.order_congr h.ori i
theorem CapsMoved.unit (k : Nat) : t.unit k = s.unit k := State.unit_congr (by rw [h.cdu]) k
end

theorem State.setCavern_caps (s : State) (j : Nat) (c : Option Cavern) : CapsMoved s (s.setCavern j c) := ⟨rfl⟩

theorem State.modCavern_caps (s : State) (j : Nat) (f : Cavern → Cavern) : CapsMoved s (s.modCavern j f) := by
  obtain ⟨c, _, e⟩ | ⟨_, e⟩ := s.modCavern_eq j f <;> rw [e]
  · exact s.setCavern_caps j _
  · exact .refl s

theorem State.makePlanDue_caps (s : State) : CapsMoved s s.makePlanDue := ⟨rfl⟩

/-- A cavern's record with its caps and references formed again. -/
def State.capsFormed (s : State) (j : Nat) (c : Cavern) : Cavern :=
  let ci := s.formCap j c .inject
  let cw := s.formCap j c .withdraw
  { c with capInject := ci, capWithdraw := cw
           refInject := if announced ci c.refInject c.config.injectionLimit then ci else c.refInject
           refWithdraw := if announced cw c.refWithdraw c.config.withdrawalLimit then cw else c.refWithdraw }

/-- The caps depend on the station state and the points alone. -/
theorem State.capsFormed_congr {s t : State} (hs : t.sts = s.sts) (hp : t.smt = s.smt) (j : Nat) (c : Cavern) :
    t.capsFormed j c = s.capsFormed j c := by
  have h : ∀ d, t.formCap j c d = s.formCap j c d := by
    intro d
    have hpt : t.point (pressurePoint j) = s.point (pressurePoint j) := by simp only [State.point, hp]
    have hb : t.capBlocked j c d = s.capBlocked j c d := by simp only [State.capBlocked, hpt, hs]
    simp only [State.formCap, hb, hpt]
  simp only [State.capsFormed, h]

/-- While the station is not RUNNING every cap is 0, and so is every reference. -/
theorem State.capsFormed_of_not_running {s : State} (h : s.sts.state ≠ .running) (j : Nat) (c : Cavern) :
    s.capsFormed j c = { c with capInject := 0, capWithdraw := 0, refInject := 0, refWithdraw := 0 } := by
  have hc : ∀ d, s.formCap j c d = 0 := by
    intro d
    simp [State.formCap, State.capBlocked, h]
  have hr : ∀ ref limit, (if announced 0 ref limit then 0 else ref) = 0 := by
    intro ref limit
    by_cases h0 : ref = 0 <;> simp [announced, h0]
  simp only [State.capsFormed, hc, hr]

theorem State.formCaps_eq {s : State} {j : Nat} {c : Cavern} (h : s.cavern j = some c) :
    (s.formCaps j).1 = s.setCavern j (some (s.capsFormed j c)) ∨
    (s.formCaps j).1 = (s.setCavern j (some (s.capsFormed j c))).makePlanDue := by
  simp only [State.formCaps, h]
  split
  · exact .inr rfl
  · exact .inl rfl

theorem State.formCaps_caps (s : State) (j : Nat) : CapsMoved s (s.formCaps j).1 := by
  cases h : s.cavern j with
  | none => simp only [State.formCaps, h]; exact .refl s
  | some c =>
    obtain e | e := State.formCaps_eq h <;> rw [e]
    · exact s.setCavern_caps j _
    · exact (s.setCavern_caps j _).trans (State.makePlanDue_caps _)

theorem State.cavern_formCaps (s : State) (j : Nat) :
    (s.formCaps j).1.cavern j = (s.cavern j).map (s.capsFormed j) := by
  cases h : s.cavern j with
  | none => simp only [State.formCaps, h, Option.map_none]
  | some c => obtain e | e := State.formCaps_eq h <;> rw [e] <;> exact State.cavern_setCavern _ h

theorem State.cavern_formCaps_of_ne (s : State) {i j : Nat} (hi : i ≠ j) :
    (s.formCaps j).1.cavern i = s.cavern i := by
  cases h : s.cavern j with
  | none => simp only [State.formCaps, h]
  | some c => obtain e | e := State.formCaps_eq h <;> rw [e] <;> exact s.cavern_setCavern_of_ne _ hi

theorem State.formAllCaps_eq (s : State) :
    s.formAllCaps.1 = s.forEach cavernNumbers (fun s j => (s.formCaps j).1) := by
  have key : ∀ (ns : List Nat) (acc : State × Bool),
      (ns.foldl (fun (acc : State × Bool) j =>
        let (s', ch) := acc.1.formCaps j
        (s', acc.2 || ch)) acc).1 = acc.1.forEach ns (fun s j => (s.formCaps j).1) := by
    intro ns
    induction ns with
    | nil => exact fun _ => rfl
    | cons n ns ih => exact fun acc => ih ((acc.1.formCaps n).1, acc.2 || (acc.1.formCaps n).2)
  exact key cavernNumbers (s, false)

theorem State.formAllCaps_caps (s : State) : CapsMoved s s.formAllCaps.1 :=
  State.formAllCaps_keeps (P := CapsMoved s) (fun u j _ h => h.trans (u.formCaps_caps j)) (.refl s)

/-- Forming all caps gives each cavern its caps, and changes nothing else of it. -/
theorem State.cavern_formAllCaps (s : State) {j : Nat} (hj : j ∈ cavernNumbers) :
    s.formAllCaps.1.cavern j = (s.cavern j).map (s.capsFormed j) := by
  rw [State.formAllCaps_eq]
  obtain ⟨u, hu, hc, e⟩ := State.forEach_view (f := fun s j => (State.formCaps s j).1) (I := CapsMoved s)
    (fun u => u.cavern j) hj (by decide) (fun u i _ h => h.trans (u.formCaps_caps i))
    (fun u i _ hi _ => u.cavern_formCaps_of_ne (Ne.symm hi)) (.refl s)
  refine e.trans ((u.cavern_formCaps j).trans ?_)
  rw [hc, funext (State.capsFormed_congr hu.sts hu.smt j)]

/-! ### Records changed number by number -/

theorem State.cavern_modCavern_map (s : State) (j : Nat) (f : Cavern → Cavern) :
    (s.modCavern j f).cavern j = (s.cavern j).map f := by
  cases h : s.cavern j with
  | none => simp only [State.modCavern, h]; rfl
  | some c => exact State.cavern_modCavern f h

theorem State.cavern_modCavern_of_ne (s : State) {i j : Nat} (f : Cavern → Cavern) (h : i ≠ j) :
    (s.modCavern j f).cavern i = s.cavern i := by
  obtain ⟨c, _, e⟩ | ⟨_, e⟩ := s.modCavern_eq j f <;> rw [e]
  exact s.cavern_setCavern_of_ne _ h

theorem State.unit_modUnit (s : State) (k : Nat) (f : Compressor → Compressor) :
    (s.modUnit k f).unit k = (s.unit k).map f := by
  unfold State.modUnit
  cases h : s.unit k with
  | none => exact h
  | some c => exact State.unit_setUnit _ h

theorem State.unit_modUnit_of_ne (s : State) {i k : Nat} (f : Compressor → Compressor) (h : i ≠ k) :
    (s.modUnit k f).unit i = s.unit i := by
  obtain ⟨c, _, e⟩ | ⟨_, e⟩ := s.modUnit_eq k f <;> rw [e]
  exact s.unit_setUnit_of_ne _ h

/-- A change of every cavern, as one of them is read back. -/
theorem State.cavern_forEach_modCavern (s : State) (f : Cavern → Cavern) {j : Nat} (hj : j ∈ cavernNumbers) :
    (s.forEach cavernNumbers (fun s j => s.modCavern j f)).cavern j = (s.cavern j).map f := by
  obtain ⟨u, _, hc, e⟩ := State.forEach_view (f := fun s j => State.modCavern s j f) (I := fun _ => True) (s := s)
    (fun u => u.cavern j) hj (by decide) (fun _ _ _ _ => trivial)
    (fun u i _ hi _ => u.cavern_modCavern_of_ne f (Ne.symm hi)) trivial
  exact e.trans ((u.cavern_modCavern_map j f).trans (congrArg (·.map f) hc))

/-- A change of every unit, as one of them is read back. -/
theorem State.unit_forEach_modUnit (s : State) (f : Compressor → Compressor) {k : Nat} (hk : k ∈ unitNumbers) :
    (s.forEach unitNumbers (fun s k => s.modUnit k f)).unit k = (s.unit k).map f := by
  obtain ⟨u, _, hc, e⟩ := State.forEach_view (f := fun s k => State.modUnit s k f) (I := fun _ => True) (s := s)
    (fun u => u.unit k) hk (by decide) (fun _ _ _ _ => trivial)
    (fun u i _ hi _ => u.unit_modUnit_of_ne f (Ne.symm hi)) trivial
  exact e.trans ((u.unit_modUnit k f).trans (congrArg (·.map f) hc))

/-! ### The gas-day rollover outside RUNNING (07 R123, 08 R142) -/

theorem State.cavernRollover_caps {s : State} (h : s.sts.state ≠ .running) : CapsMoved s s.cavernRollover := by
  have h1 : CapsMoved s (s.forEach cavernNumbers (fun s j => s.modCavern j (fun c => { c with reversals := 0 }))) :=
    State.forEach_induct (P := CapsMoved s) (.refl s) (fun u j _ hu => hu.trans (u.modCavern_caps j _))
  unfold State.cavernRollover
  rw [State.cavernsChanged_of_not_running (by rwa [h1.sts])]
  exact h1.trans (State.formAllCaps_caps _)

theorem State.cavern_cavernRollover {s : State} (h : s.sts.state ≠ .running) {j : Nat} (hj : j ∈ cavernNumbers) :
    s.cavernRollover.cavern j = (s.cavern j).map (fun c =>
      { c with reversals := 0, capInject := 0, capWithdraw := 0, refInject := 0, refWithdraw := 0 }) := by
  have h1 : CapsMoved s (s.forEach cavernNumbers (fun s j => s.modCavern j (fun c => { c with reversals := 0 }))) :=
    State.forEach_induct (P := CapsMoved s) (.refl s) (fun u j _ hu => hu.trans (u.modCavern_caps j _))
  have h2 : (s.forEach cavernNumbers (fun s j => s.modCavern j (fun c => { c with reversals := 0 }))).sts.state ≠
      .running := by rwa [h1.sts]
  unfold State.cavernRollover
  rw [State.cavernsChanged_of_not_running h2, State.cavern_formAllCaps _ hj, State.cavern_forEach_modCavern _ _ hj,
    funext (State.capsFormed_of_not_running h2 j), Option.map_map]
  rfl

theorem State.unitRollover_rest (s : State) :
    { s.unitRollover with cdu := { s.unitRollover.cdu with units := s.cdu.units } } = s := by
  refine State.forEach_induct (P := fun u : State => { u with cdu := { u.cdu with units := s.cdu.units } } = s) rfl
    (fun u k _ hu => ?_)
  obtain ⟨c, _, e⟩ | ⟨_, e⟩ := u.modUnit_eq k (fun u => { u with trips := 0 }) <;> rw [e] <;> exact hu

/-! ### The retirement of hours (05 R78) -/

theorem NomEntry.retire_length (e : NomEntry) (h : Nat) : (e.retire h).length ≤ 1 := by
  unfold NomEntry.retire
  repeat' split
  all_goals simp

theorem retire_length_le (es : List NomEntry) (h : Nat) :
    (es.flatMap (fun e => e.retire h)).length ≤ es.length := by
  induction es with
  | nil => exact Nat.le_refl 0
  | cons e es ih =>
    have := e.retire_length h
    simp only [List.flatMap_cons, List.length_append, List.length_cons]
    omega

theorem setNth_setNth {α : Type} (l : List α) (n : Nat) (x y : α) : setNth (setNth l n x) n y = setNth l n y := by
  cases n <;> simp

theorem State.setPartition_setPartition (s : State) (n : Nat) (p q : Partition) :
    (s.setPartition n p).setPartition n q = s.setPartition n q :=
  congrArg (fun l => { s with nst := l }) (setNth_setNth s.nst n p q)

/-- The entries read from a partition are those written, where the number names one; where it names none there are
none. -/
theorem State.partition_setPartition (s : State) (n : Nat) (p : Partition)
    (h : nth s.nst n = none → p.entries = []) : ((s.setPartition n p).partition n).entries = p.entries := by
  unfold State.partition
  cases hn : nth s.nst n with
  | some q => rw [State.setPartition_nst, nth_setNth_self _ hn]; rfl
  | none =>
    have : nth (setNth s.nst n p) n = none := by
      rw [← Option.not_isSome_iff_eq_none, nth_isSome] at hn ⊢
      rwa [setNth_length]
    rw [State.setPartition_nst, this, h hn]
    rfl

/-- Retirement writes the entries left, and raises nothing. -/
theorem State.retirePartition_eq (s : State) (h n : Nat) :
    ∃ b, s.retirePartition h n = s.setPartition n
      { entries := (s.partition n).entries.flatMap (fun e => e.retire h), disarmed := b } := by
  have hp := s.partition_setPartition n { s.partition n with
      entries := (s.partition n).entries.flatMap (fun e => e.retire h) } (fun hn => by
    simp [State.partition, hn])
  have hle := retire_length_le (s.partition n).entries h
  unfold State.retirePartition State.checkWarning
  dsimp only
  rw [hp]
  rw [if_neg (by simp only [Bool.and_eq_true, decide_eq_true_eq]; omega)]
  split
  · exact ⟨false, by rw [State.setPartition_setPartition]⟩
  · exact ⟨_, rfl⟩

theorem State.retireHours_rest (s : State) (h : Nat) : { s.retireHours h with nst := s.nst } = s := by
  refine State.forEach_induct (P := fun u : State => { u with nst := s.nst } = s) rfl (fun u n _ hu => ?_)
  obtain ⟨b, e⟩ := u.retirePartition_eq h n
  rw [e]
  exact hu

theorem State.partition_setPartition_of_ne (s : State) {m n : Nat} (p : Partition) (h : m ≠ n) :
    (s.setPartition n p).partition m = s.partition m := by
  unfold State.partition
  rw [State.setPartition_nst, nth_setNth_of_ne _ _ h]

theorem State.partition_retireHours (s : State) (h : Nat) {n : Nat} (hn : n ∈ shipperNumbers) :
    ((s.retireHours h).partition n).entries = (s.partition n).entries.flatMap (fun e => e.retire h) := by
  obtain ⟨u, _, hu, e⟩ := State.forEach_view (f := State.retirePartition h) (I := fun _ => True) (s := s)
    (fun u => (u.partition n).entries) hn (by decide) (fun _ _ _ _ => trivial)
    (fun u m _ hm _ => by
      obtain ⟨b, e⟩ := u.retirePartition_eq h m
      rw [e, State.partition_setPartition_of_ne _ _ (Ne.symm hm)]) trivial
  refine e.trans ?_
  obtain ⟨b, e'⟩ := u.retirePartition_eq h n
  rw [e', State.partition_setPartition _ _ _ (fun hn => by simp [State.partition, hn]), hu]

end Sys2Proof.Machine
end

section
/-! A release without a snapshot (01 R14, R18), SET CLOCK (R3, R4) and START (R7). -/

open Sys2Proof Sys2Proof.Machine

namespace Sys2Proof.Machine

/-! ### Reset without a snapshot (01 R14, R18) -/

/-- What is read of a store that brings no snapshot. -/
theorem Store.read_of_no_content {x : Store} {crc : Bool} (h : x.state = .valid → crc = false) :
    x.read crc = ⟨if x.state ≠ .empty then .invalid else .empty, false, none, none⟩ := by
  unfold Store.read
  cases hs : x.state with
  | valid => simp [h hs]
  | empty => simp
  | writing => simp
  | invalid => simp

/-- Settles O13: what is read of the store decides the alerts of the blank start. -/
theorem resetWithoutSnapshotStartsBlank : Obligations.ResetWithoutSnapshotStartsBlank := by
  refine ⟨fun crc trip b1 b0 s hr hv => ?_, fun s h => ?_, fun crc trip b1 b0 s h => ?_⟩
  · refine congrArg Host.Outcome.next ?_
    simp only [hr, if_true]
    unfold State.release
    rw [Store.read_of_no_content hv]
    by_cases hf : s.sns.state = .empty <;> cases trip <;> simp only [hf, ne_eq, not_true, not_false_eq_true,
      if_true, if_false] <;> rfl
  · refine congrArg Host.Outcome.next ((external_of_quiet h _).trans ?_)
    have hread : s.sns.read true = ⟨if s.sns.state = .writing then .invalid else s.sns.state, false,
        if s.sns.state = .valid then s.sns.content else none, none⟩ := by
      unfold Store.read
      cases s.sns.state <;> simp
    unfold State.assertReset
    rw [hread]
    rfl
  · have hr := (State.quiet_parts h).1
    refine ⟨s.assertReset, congrArg Host.Outcome.next (external_of_quiet h _), ?_⟩
    refine congrArg Host.Outcome.next ?_
    rw [settle_of_quiet h]
    simp only [hr, Bool.false_eq_true, if_false]
    rfl

/-! ### SET CLOCK (01 R3, R4) -/

theorem State.setRefusal_of {s : State} {day sec : Nat} :
    (s.setRefusal day sec = some .badRange ∧
      (sec > 86399 ∨ ∃ h, s.hcu.lastClosed = some h ∧ hourAtOrBefore (hourOf day sec) h = true)) ∨
    (s.setRefusal day sec = none ∧
      ¬ (sec > 86399 ∨ ∃ h, s.hcu.lastClosed = some h ∧ hourAtOrBefore (hourOf day sec) h = true)) := by
  unfold State.setRefusal firstFailure
  by_cases h1 : 86399 < sec
  · exact .inl ⟨by simp [h1], .inl h1⟩
  · cases hl : s.hcu.lastClosed with
    | none => exact .inr ⟨by simp [h1], by simp [h1]⟩
    | some h =>
      by_cases h2 : hourAtOrBefore (hourOf day sec) h = true
      · exact .inl ⟨by simp [h1, h2], .inr ⟨h, rfl, h2⟩⟩
      · exact .inr ⟨by simp [h1, h2], by simp [h1, h2]⟩

/-- What an accepted SET CLOCK of an invalid clock leaves, outside RUNNING (01 R3). -/
structure ClockAccepted (s t : State) (day sec : Nat) : Prop where
  clk : t.clk = { s.clk with valid := true, gasDay := day, second := sec, trimSum := 0 }
  entries : ∀ n ∈ shipperNumbers, (t.partition n).entries =
    (s.partition n).entries.flatMap (fun e => e.retire (hourPred (hourOf day sec)))
  plu : t.plu = { s.plu with due := true }
  sns : t.sns = { s.sns with due := true }
  sameDay : day = s.clk.gasDay → t.cvc = s.cvc ∧ t.cdu = s.cdu
  caverns : day ≠ s.clk.gasDay → ∀ j ∈ cavernNumbers, t.cavern j = (s.cavern j).map (fun c =>
    { c with reversals := 0, capInject := 0, capWithdraw := 0, refInject := 0, refWithdraw := 0 })
  units : day ≠ s.clk.gasDay → ∀ k ∈ unitNumbers, t.unit k = (s.unit k).map (fun u => { u with trips := 0 })
  rest : { t with clk := s.clk, nst := s.nst, plu := s.plu, sns := s.sns, cvc := s.cvc, cdu := s.cdu } = s

/-- A planner made due differs in its mark alone. -/
theorem Planner.eq_of_due {p q : Planner} (h : { p with due := q.due } = q) (hd : p.due = true) :
    p = { q with due := true } := by
  rw [← h, ← hd]

/-- `t` follows `s` by a gas-day rollover outside RUNNING: reversal and trip counts 0, and every cap 0. -/
structure Rolled (s t : State) : Prop where
  rest : { t with cvc := s.cvc, cdu := s.cdu, plu := { t.plu with due := s.plu.due } } = s
  due : s.plu.due = true → t.plu.due = true
  caverns : ∀ j ∈ cavernNumbers, t.cavern j = (s.cavern j).map (fun c =>
    { c with reversals := 0, capInject := 0, capWithdraw := 0, refInject := 0, refWithdraw := 0 })
  units : ∀ k ∈ unitNumbers, t.unit k = (s.unit k).map (fun u => { u with trips := 0 })

theorem Rolled.of_parts {s c t : State} (hc : CapsMoved s c)
    (ht : { t with cdu := { t.cdu with units := c.cdu.units } } = c) (hdc : s.plu.due = true → c.plu.due = true)
    (hcav : ∀ j ∈ cavernNumbers, c.cavern j = (s.cavern j).map (fun c =>
      { c with reversals := 0, capInject := 0, capWithdraw := 0, refInject := 0, refWithdraw := 0 }))
    (hu : ∀ k ∈ unitNumbers, t.unit k = (c.unit k).map (fun u => { u with trips := 0 })) : Rolled s t := by
  refine ⟨?_, fun h => ?_, fun j hj => ?_, fun k hk => ?_⟩
  · exact Eq.trans (congrArg (fun x : State =>
      { x with cvc := s.cvc, cdu := s.cdu, plu := { x.plu with due := s.plu.due } }) ht)
      (congrArg (fun x : State => { x with cdu := s.cdu }) hc.rest)
  · rw [show t.plu = c.plu from congrArg (fun x => x.plu) ht]
    exact hdc h
  · rw [← hcav j hj]
    exact State.cavern_congr (congrArg (fun x => x.cvc) ht) j
  · rw [hu k hk, hc.unit]

theorem State.gasDayRollover_rolled {s : State} (h : s.sts.state ≠ .running) : Rolled s s.gasDayRollover := by
  have hd : s.plu.due = true → s.cavernRollover.plu.due = true := by
    have hm := Calm.forEach (K := cavernAlerts)
      (fun u j => State.modCavern_calm u j (fun c => { c with reversals := 0 })) cavernNumbers s
    unfold State.cavernRollover
    exact fun h => (State.cavernsChanged_calm _).due (hm.due h)
  unfold State.gasDayRollover
  refine .of_parts (State.cavernRollover_caps h) (State.unitRollover_rest _) hd
    (fun j hj => State.cavern_cavernRollover h hj) (fun k hk => ?_)
  unfold State.unitRollover
  exact State.unit_forEach_modUnit _ _ hk

/-- With the hours retired, the clock is accepted on the same gas day; on another, once the rollover is taken. -/
theorem ClockAccepted.of_retired {s u : State} {day sec : Nat}
    (hr : { u with nst := s.nst } =
      { s with clk := { s.clk with valid := true, gasDay := day, second := sec, trimSum := 0 } })
    (hp : ∀ n ∈ shipperNumbers, (u.partition n).entries =
      (s.partition n).entries.flatMap (fun e => e.retire (hourPred (hourOf day sec)))) :
    (day = s.clk.gasDay → ClockAccepted s u.makePlanDue.makeSnapshotDue day sec) ∧
    (∀ v t, day ≠ s.clk.gasDay → v = u.makePlanDue.makeSnapshotDue → Rolled v t → ClockAccepted s t day sec) := by
  have hclk : u.clk = _ := congrArg (fun x => x.clk) hr
  have hplu : u.plu = s.plu := congrArg (fun x => x.plu) hr
  have hsns : u.sns = s.sns := congrArg (fun x => x.sns) hr
  have hcvc : u.cvc = s.cvc := congrArg (fun x => x.cvc) hr
  have hcdu : u.cdu = s.cdu := congrArg (fun x => x.cdu) hr
  have hrest := congrArg (fun x : State => { x with clk := s.clk, plu := s.plu, sns := s.sns, cvc := s.cvc
                                                    cdu := s.cdu }) hr
  have hplu' : u.makePlanDue.plu = { s.plu with due := true } := by rw [← hplu]; rfl
  have hsns' : u.makeSnapshotDue.sns = { s.sns with due := true } := by rw [← hsns]; rfl
  refine ⟨fun hd => ?_, fun v t hd hv ht => ?_⟩
  · exact ⟨hclk, hp, hplu', hsns', fun _ => ⟨hcvc, hcdu⟩, fun h => absurd hd h, fun h => absurd hd h, hrest⟩
  · have tclk : t.clk = v.clk := congrArg (fun x => x.clk) ht.rest
    have tnst : t.nst = v.nst := congrArg (fun x => x.nst) ht.rest
    have tplu : { t.plu with due := v.plu.due } = v.plu := congrArg (fun x => x.plu) ht.rest
    have tsns : t.sns = v.sns := congrArg (fun x => x.sns) ht.rest
    have tdue := ht.due (by rw [hv]; rfl)
    have trest := congrArg (fun x : State => { x with clk := s.clk, nst := s.nst, plu := s.plu, sns := s.sns
                                                      cvc := s.cvc, cdu := s.cdu }) ht.rest
    refine ⟨by rw [tclk, hv]; exact hclk, fun n hn => ?_, ?_, by rw [tsns, hv]; exact hsns', fun h => absurd h hd,
      fun _ j hj => ?_, fun _ k hk => ?_, ?_⟩
    · rw [State.partition_congr tnst n, ← hp n hn, hv]
      rfl
    · rw [Planner.eq_of_due tplu tdue, hv, State.makeSnapshotDue_plu, hplu']
    · rw [ht.caverns j hj, State.cavern_congr (s := s) (by rw [hv]; exact hcvc) j]
    · rw [ht.units k hk, State.unit_congr (s := s) (by rw [hv]; exact congrArg Duty.units hcdu) k]
    · rw [hv] at trest
      exact trest.trans hrest

/-- An accepted SET CLOCK of an invalid clock, outside RUNNING. -/
theorem State.acceptClock_spec {s : State} (hs : s.sts.state ≠ .running) (day sec : Nat) :
    ClockAccepted s (s.acceptClock day sec) day sec := by
  unfold State.acceptClock
  dsimp only
  have hr := State.retireHours_rest { s with clk := { s.clk with valid := true, gasDay := day, second := sec
                                                                 trimSum := 0 } } (hourPred (hourOf day sec))
  have hp := fun n hn => State.partition_retireHours
    { s with clk := { s.clk with valid := true, gasDay := day, second := sec, trimSum := 0 } }
    (hourPred (hourOf day sec)) (n := n) hn
  generalize State.retireHours { s with clk := { s.clk with valid := true, gasDay := day, second := sec
                                                            trimSum := 0 } } (hourPred (hourOf day sec)) = u at hr hp ⊢
  obtain ⟨h1, h2⟩ := ClockAccepted.of_retired (s := s) hr hp
  have hsts : u.sts = s.sts := congrArg (fun x => x.sts) hr
  split
  · next hd => exact h1 hd
  · next hd =>
    refine h2 _ _ hd rfl (State.gasDayRollover_rolled ?_)
    rwa [State.makeSnapshotDue_sts, State.makePlanDue_sts, hsts]

end Sys2Proof.Machine
end

section
/-! SET CLOCK settled whole (01 R3, R4), and START (R7). -/

open Sys2Proof Sys2Proof.Machine

namespace Sys2Proof.Machine

/-- A request taken at once leaves the state its block answers, and its reply last. -/
theorem exec_answered_to {c : Instr} {tag : Nat} {b : ReqBody} {s v : State} {res : Result} {items : List Item}
    (hc : requestOf c = some ⟨tag, b⟩) (h : s.receptive = true) (hh : s.held ⟨tag, b⟩ = false) (hl : b ≠ .linkReset)
    (hk : ReqBody.replyKind b = b.kind + 0x40)
    (ha : (s.withRx [⟨tag, b⟩]).answer b = { state := v, result := res, items := items })
    (hv : v.slk.rx = [⟨tag, b⟩]) :
    exec c s = .next ((v.withRx []).replied b.kind tag res items) := by
  rw [exec_taken hc h hh hl]
  simp only [ha, replyTo, hk, hv]
  rfl

/-! ### SET CLOCK (01 R3, R4) -/

/-- A trim is refused in four cases, each BAD_RANGE. -/
theorem State.trimRefusal_cases (s : State) (day sec : Nat) :
    let change : Int := ((day * 86400 + sec : Nat) : Int) - ((s.clk.gasDay * 86400 + s.clk.second : Nat) : Int)
    s.trimRefusal day sec = if sec > 86399 ∨ change > 120 ∨ change < -120 ∨
        day * 24 + sec / 3600 ≠ s.clk.gasDay * 24 + s.clk.second / 3600 ∨
        s.clk.trimSum + change > 120 ∨ s.clk.trimSum + change < -120 then some .badRange else none := by
  intro change
  have hc : s.trimChange day sec = change := rfl
  unfold State.trimRefusal firstFailure
  simp only [hc, hourOf, State.currentHour]
  by_cases h1 : 86399 < sec
  · rw [if_pos (.inl h1)]; simp [h1]
  by_cases h2 : 120 < change.natAbs
  · rw [if_pos (by omega)]; simp [h1, h2]
  by_cases h3 : day * 24 + sec / 3600 = s.clk.gasDay * 24 + s.clk.second / 3600
  · by_cases h4 : 120 < (s.clk.trimSum + change).natAbs
    · rw [if_pos (by omega)]; simp [h1, h2, h3, h4]
    · rw [if_neg (by omega)]; simp [h1, h2, h3, h4]
  · rw [if_pos (by omega)]; simp [h1, h2, h3]

/-- An hour boundary sets the trim sum to 0 (01 R4). -/
theorem stepBoundary_trimSum {s : State} (h : s.clk.boundaryDue = true) : (stepBoundary s).clk.trimSum = 0 := by
  have hh : ∀ u : State, u.handHour.clk = u.clk := by
    intro u
    unfold State.handHour
    split
    · rfl
    · rw [(State.zeroVolumes_moved _).plant.clk]
  unfold stepBoundary
  rw [if_pos h]
  dsimp only
  split
  · rw [(State.gasDayRollover_plant _).clk, hh]
  · rw [hh]

/-- Settles O17: the checks of R3 and R4 as they stand, and what the acceptance leaves (`State.acceptClock_spec`). -/
theorem setClockSetsOrTrims : Obligations.SetClockSetsOrTrims := by
  refine ⟨fun tag day sec s h hv hs => ?_, fun tag day sec s h hv => ?_, fun s t hr hd ht => ?_⟩
  · dsimp only
    have hkind : s.held ⟨tag, .setClock day sec⟩ = false := s.held_of_kind rfl
    have hans : (s.withRx [⟨tag, .setClock day sec⟩]).answer (.setClock day sec) =
        answerBy (s.withRx [⟨tag, .setClock day sec⟩]) ((s.withRx [⟨tag, .setClock day sec⟩]).setRefusal day sec)
          ((s.withRx [⟨tag, .setClock day sec⟩]).acceptClock day sec, .ok) (fun _ => []) :=
      if_neg (by simpa [State.withRx] using hv)
    obtain ⟨hr, hb⟩ | ⟨hr, hb⟩ := State.setRefusal_of (s := s.withRx [⟨tag, .setClock day sec⟩]) (day := day) (sec := sec)
    · have hb' : sec > 86399 ∨ ∃ h, s.hcu.lastClosed = some h ∧ hourAtOrBefore (day * 24 + sec / 3600) h = true := hb
      rw [if_pos hb']
      exact exec_answered (b := .setClock day sec) rfl h hkind nofun rfl (hans.trans (answerBy_refused hr _ _))
    · have hb' : ¬ (sec > 86399 ∨ ∃ h, s.hcu.lastClosed = some h ∧
        hourAtOrBefore (day * 24 + sec / 3600) h = true) := hb
      rw [if_neg hb']
      have ha := State.acceptClock_spec (s := s.withRx [⟨tag, .setClock day sec⟩]) hs day sec
      have hx := hans.trans (answerBy_accepted hr _ _)
      dsimp only at hx
      generalize (s.withRx [⟨tag, .setClock day sec⟩]).acceptClock day sec = v at ha hx
      have hslk : v.slk = (s.withRx [⟨tag, .setClock day sec⟩]).slk := congrArg (fun x => x.slk) ha.rest
      refine ⟨_, exec_answered_to (b := .setClock day sec) rfl h hkind nofun rfl hx (by rw [hslk]; rfl), ha.clk, ha.entries,
        ha.plu, ha.sns, ha.sameDay, fun hd => ⟨fun j hj c hc => ?_, ha.units hd⟩, ?_⟩
      · obtain ⟨c', hc', rfl⟩ := Option.map_eq_some_iff.mp ((ha.caverns hd j hj).symm.trans hc)
        exact ⟨rfl, c', hc', rfl, rfl, rfl, rfl⟩
      · have e := congrArg (fun x : State => (x.withRx []).replied 0x01 tag .ok []) ha.rest
        refine Eq.trans e ?_
        simp only [State.withRx_withRx, State.withRx_self (State.receptive_parts h).2.1]
  · dsimp only
    have hkind : s.held ⟨tag, .setClock day sec⟩ = false := s.held_of_kind rfl
    have hans : (s.withRx [⟨tag, .setClock day sec⟩]).answer (.setClock day sec) =
        answerBy (s.withRx [⟨tag, .setClock day sec⟩]) ((s.withRx [⟨tag, .setClock day sec⟩]).trimRefusal day sec)
          ((s.withRx [⟨tag, .setClock day sec⟩]).trimClock day sec, .ok) (fun _ => []) := if_pos hv
    have hr : (s.withRx [⟨tag, .setClock day sec⟩]).trimRefusal day sec = _ := s.trimRefusal_cases day sec
    split
    · next hb =>
      rw [if_pos hb] at hr
      exact exec_answered (b := .setClock day sec) rfl h hkind nofun rfl (hans.trans (answerBy_refused hr _ _))
    · next hb =>
      rw [if_neg hb] at hr
      refine (exec_answered_to (b := .setClock day sec) rfl h hkind nofun rfl (hans.trans (answerBy_accepted hr _ _)) rfl).trans ?_
      have hrx := State.withRx_self (State.receptive_parts h).2.1
      exact congrArg (fun x : State => Host.Outcome.next
        (({ x with clk := { s.clk with second := sec, trimSum := s.clk.trimSum + s.trimChange day sec } } : State).replied
          0x01 tag .ok [])) hrx
  · have e : (.next (internal s stepBoundary) : Step) = .next t := ht
    rw [internal_of_released hr] at e
    cases e
    exact stepBoundary_trimSum hd

/-! ### START (01 R7, 07 R116) -/

/-- START is accepted in PARKED with a valid clock and a configured cavern, and else refused WRONG_STATE. -/
theorem State.commandRefusal_start (s : State) : s.commandRefusal 0 =
    if s.sts.state = .parked ∧ s.clk.valid = true ∧ s.cvc.any Option.isSome = true then none else some .wrongState := by
  unfold State.commandRefusal firstFailure
  by_cases h1 : s.sts.state = .parked
  · by_cases h2 : s.clk.valid = true ∧ s.cvc.any Option.isSome = true
    · rw [if_pos ⟨h1, h2⟩]; simp [State.isBlank, h1, h2.1, h2.2]
    · rw [if_neg (fun h => h2 h.2)]
      have : (s.clk.valid && s.cvc.any Option.isSome) = false := by
        rw [← Bool.not_eq_true, Bool.and_eq_true]; exact h2
      simp [State.isBlank, h1, this]
  · rw [if_neg (fun h => h1 h.1)]
    by_cases hb : s.sts.state = .blank <;> simp [State.isBlank, h1, hb]

/-- An offer that finds room below 38 queues its report. -/
theorem State.tx_offerOrder {s : State} {i : Nat} {e : OrderEntry} (h : s.order i = some e) :
    (s.offerOrder i).slk.tx = s.slk.tx ++ (if s.occupancy < 38 then [orderReport i e] else []) := by
  unfold State.offerOrder
  rw [h]
  dsimp only
  split
  · rfl
  · simp

theorem State.tx_writeOrder {s : State} {i : Nat} {e : OrderEntry} (v : OrderValue) (h : s.order i = some e) :
    (s.writeOrder i v).slk.tx = s.slk.tx ++
      (if s.occupancy < 38 then [⟨kindOrder, 0, [.u8 i, .u32 (orderWord v), .u32 s.clk.stationSeconds]⟩] else []) := by
  unfold State.writeOrder
  rw [h]
  exact State.tx_offerOrder (e := { e with value := v, second := s.clk.stationSeconds }) (nth_setNth_self _ h)

theorem State.writeOrderIfNew_same {s : State} {i : Nat} {e : OrderEntry} (h : s.order i = some e) :
    s.writeOrderIfNew i e.value = s := by simp [State.writeOrderIfNew, h]

theorem State.writeOrderIfNew_new {s : State} {i : Nat} {e : OrderEntry} {v : OrderValue} (h : s.order i = some e)
    (hv : e.value ≠ v) : s.writeOrderIfNew i v = s.writeOrder i v := by simp [State.writeOrderIfNew, h, hv]

/-- STATION COMMAND is answered by its checks (01 R7). -/
theorem State.answer_command {s : State} {action : Nat} (h : s.commandRefusal action = none) :
    s.answer (.stationCommand action) = { state := s.command action, result := .ok, items := [] } :=
  answerBy_accepted (s := s) h (s.command action, .ok) (fun _ => [])

theorem State.answer_command_refused {s : State} {action : Nat} {r : Result} (h : s.commandRefusal action = some r) :
    s.answer (.stationCommand action) = { state := s, result := r, items := [] } :=
  answerBy_refused (s := s) h (s.command action, .ok) (fun _ => [])

/-- OPEN is ordered where the entry holds another value. -/
theorem State.start_eq (s : State) : s.start =
    (((s.setStation .running).makePlanDue).writeOrderIfNew isolationActuator (.isolation .open)).formAllCaps.1 := rfl

/-- What an accepted START leaves, apart from the isolation order. -/
theorem State.start_spec (s : State) :
    s.start.sts = { s.sts with state := .running } ∧ s.start.plu = { s.plu with due := true } ∧
    (∀ j ∈ cavernNumbers, ∀ c, s.start.cavern j = some c → ∃ c', s.cavern j = some c' ∧ c = s.start.capsFormed j c') ∧
    { s.start with sts := s.sts, plu := s.plu, cvc := s.cvc, ori := s.ori
                   slk := { s.start.slk with tx := s.slk.tx } } = s := by
  rw [State.start_eq]
  have ho := State.writeOrderIfNew_ordered ((s.setStation .running).makePlanDue) isolationActuator (.isolation .open)
  generalize State.writeOrderIfNew _ _ _ = w at ho
  have hc := w.formAllCaps_caps
  have hd : w.plu.due = true → w.formAllCaps.1.plu.due = true := (w.formAllCaps_calm (K := [])).due
  have hcav := fun j hj => w.cavern_formAllCaps (j := j) hj
  generalize w.formAllCaps.1 = v at hc hd hcav
  have hplu : w.plu = { s.plu with due := true } := congrArg (fun x => x.plu) ho.rest
  have hvplu : { v.plu with due := w.plu.due } = w.plu := congrArg (fun x => x.plu) hc.rest
  refine ⟨hc.sts.trans (congrArg (fun x => x.sts) ho.rest), ?_, fun j hj c hcj => ?_, ?_⟩
  · rw [Planner.eq_of_due hvplu (hd (by rw [hplu])), hplu]
  · obtain ⟨c', hc', rfl⟩ := Option.map_eq_some_iff.mp ((hcav j hj).symm.trans hcj)
    refine ⟨c', ?_, (State.capsFormed_congr hc.sts hc.smt j c').symm⟩
    rw [← hc']
    exact (State.cavern_congr (congrArg (fun x => x.cvc) ho.rest) j).symm
  · have e1 := congrArg (fun x : State => { x with sts := s.sts, plu := s.plu, cvc := s.cvc, ori := s.ori
                                                   slk := { x.slk with tx := s.slk.tx } }) hc.rest
    have e2 := congrArg (fun x : State => { x with sts := s.sts, plu := s.plu, cvc := s.cvc }) ho.rest
    exact e1.trans e2

/-- START orders OPEN at the present second, with its report where it finds room. -/
theorem State.start_orders {s : State} {e : OrderEntry} (h : s.order isolationActuator = some e)
    (hv : e.value ≠ .isolation .open) :
    s.start.order isolationActuator = some ⟨.isolation .open, s.clk.stationSeconds, decide (38 ≤ s.occupancy)⟩ ∧
    s.start.slk.tx = s.slk.tx ++
      (if s.occupancy < 38 then [⟨0x80, 0, [.u8 31, .u32 0, .u32 s.clk.stationSeconds]⟩] else []) := by
  rw [State.start_eq, State.writeOrderIfNew_new (s := (s.setStation .running).makePlanDue) h hv]
  have hc := (((s.setStation .running).makePlanDue).writeOrder isolationActuator (.isolation .open)).formAllCaps_caps
  rw [hc.order, hc.slk]
  exact ⟨State.order_writeOrder (s := (s.setStation .running).makePlanDue) _ h,
    State.tx_writeOrder (s := (s.setStation .running).makePlanDue) _ h⟩

/-- START writes nothing where the entry holds OPEN. -/
theorem State.start_keeps {s : State} {e : OrderEntry} (h : s.order isolationActuator = some e)
    (hv : e.value = .isolation .open) : s.start.ori = s.ori ∧ s.start.slk.tx = s.slk.tx := by
  have e' := State.writeOrderIfNew_same (s := (s.setStation .running).makePlanDue) h
  rw [hv] at e'
  rw [State.start_eq, e', (State.formAllCaps_caps _).ori, (State.formAllCaps_caps _).slk]
  exact ⟨rfl, rfl⟩

theorem State.order_start_of_ne (s : State) {i : Nat} (h : i ≠ isolationActuator) : s.start.order i = s.order i := by
  rw [State.start_eq, (State.formAllCaps_caps _).order, State.order_writeOrderIfNew_of_ne _ _ h]
  rfl

/-- Settles O18: the entry orders OPEN once and forms the caps. -/
theorem startOpensTheStation : Obligations.StartOpensTheStation := by
  intro tag s h hshape
  dsimp only
  have hkind : s.held ⟨tag, .stationCommand 0⟩ = false := s.held_of_kind rfl
  have hr : (s.withRx [⟨tag, .stationCommand 0⟩]).commandRefusal 0 = _ := s.commandRefusal_start
  split
  · next hb =>
    rw [if_pos hb] at hr
    have ha := State.answer_command hr
    obtain ⟨hsts, hplu, hcav, hrest⟩ := (s.withRx [⟨tag, .stationCommand 0⟩]).start_spec
    have hopen := @State.start_orders (s.withRx [⟨tag, .stationCommand 0⟩])
    have hkeep := @State.start_keeps (s.withRx [⟨tag, .stationCommand 0⟩])
    have hne := @State.order_start_of_ne (s.withRx [⟨tag, .stationCommand 0⟩])
    change _ = Answer.mk (s.withRx [⟨tag, .stationCommand 0⟩]).start .ok [] at ha
    generalize (s.withRx [⟨tag, .stationCommand 0⟩]).start = v at *
    have hrx : v.slk.rx = [⟨tag, .stationCommand 0⟩] := congrArg (fun x => x.slk.rx) hrest
    refine ⟨_, exec_answered_to (b := .stationCommand 0) rfl h hkind nofun rfl ha hrx, hsts, hplu,
      fun sec u hi => ?_, fun sec u hi => ?_, fun i hi => hne hi, fun j hj c hc => ?_, ?_⟩
    · obtain ⟨ho, ht⟩ := hopen hi nofun
      have hocc : State.occupancy (s.withRx [⟨tag, .stationCommand 0⟩]) = s.occupancy := rfl
      rw [hocc] at ho ht
      split
      · next hlt =>
        rw [decide_eq_false (by omega)] at ho
        rw [if_pos hlt] at ht
        exact ⟨ho, (congrArg (· ++ [_]) ht).trans (List.append_assoc _ _ _)⟩
      · next hlt =>
        rw [decide_eq_true (by omega)] at ho
        rw [if_neg hlt, List.append_nil] at ht
        exact ⟨ho, congrArg (· ++ [_]) ht⟩
    · obtain ⟨ho, ht⟩ := hkeep hi rfl
      exact ⟨ho, congrArg (· ++ [_]) ht⟩
    · obtain ⟨c', hc', rfl⟩ := hcav j hj c hc
      exact ⟨c', hc', rfl, rfl, rfl⟩
    · have e := congrArg (fun x : State => x.withRx []) hrest
      exact e.trans (State.withRx_self (State.receptive_parts h).2.1)
  · next hb =>
    rw [if_neg hb] at hr
    exact exec_answered (b := .stationCommand 0) rfl h hkind nofun rfl (State.answer_command_refused hr)

end Sys2Proof.Machine
end

section
/-! What an entry to PARKED or TRIPPED leaves of each order entry, cavern, unit and train (01 R8, R10; 07 R110, R116; 08
R139, R140; 09 R147). -/

open Sys2Proof Sys2Proof.Machine

namespace Sys2Proof.Machine

/-! ### Entries of the order image -/

theorem State.valveOrder_congr {s t : State} {j : Nat} (h : t.order j = s.order j) :
    t.valveOrder j = s.valveOrder j := by unfold State.valveOrder valveActuator; rw [h]

theorem State.rateOrder_congr {s t : State} {j : Nat} (h : t.order (8 + j) = s.order (8 + j)) :
    t.rateOrder j = s.rateOrder j := by unfold State.rateOrder rateActuator; rw [h]

theorem State.loadOrder_congr {s t : State} {k : Nat} (h : t.order (22 + k) = s.order (22 + k)) :
    t.loadOrder k = s.loadOrder k := by unfold State.loadOrder loadActuator; rw [h]

theorem State.trainOrder_congr {s t : State} {n : Nat} (h : t.order (28 + n) = s.order (28 + n)) :
    t.trainOrder n = s.trainOrder n := by unfold State.trainOrder trainActuator; rw [h]

/-- Steps that leave an entry, together leave it. -/
theorem State.order_forEach {f : State → Nat → State} {ns : List Nat} {i : Nat}
    (h : ∀ u n, n ∈ ns → (f u n).order i = u.order i) (s : State) : (s.forEach ns f).order i = s.order i :=
  State.forEach_induct (P := fun u => u.order i = s.order i) rfl (fun u n hn hu => (h u n hn).trans hu)

/-- Each of the 31 numbers names an entry. -/
theorem State.order_mem {s : State} (h : s.ori.length = 31) {i : Nat} (h1 : 1 ≤ i) (h31 : i ≤ 31) :
    ∃ e, s.order i = some e :=
  Option.isSome_iff_exists.mp (nth_isSome.mpr ⟨h1, by omega⟩)

theorem State.shaped_parts {s : State} (h : s.shaped = true) :
    s.smt.length = 41 ∧ s.als.length = 23 ∧ s.ori.map (fun e => e.value.shape) = orderShapes := by
  simp only [State.shaped, Bool.and_eq_true, beq_iff_eq] at h
  obtain ⟨⟨⟨⟨⟨⟨⟨⟨⟨⟨hp, _⟩, _⟩, _⟩, _⟩, _⟩, ha⟩, ho⟩, _⟩, _⟩, _⟩ := h
  exact ⟨hp, ha, ho⟩

theorem State.shaped_orders {s : State} (h : s.shaped = true) : s.ori.length = 31 := by
  have := congrArg List.length (State.shaped_parts h).2.2
  rwa [List.length_map] at this

theorem mem_cavernNumbers {j : Nat} (h : j ∈ cavernNumbers) : 1 ≤ j ∧ j ≤ 8 := by
  simp only [cavernNumbers, List.mem_cons, List.not_mem_nil, or_false] at h; omega

theorem mem_unitNumbers {k : Nat} (h : k ∈ unitNumbers) : 1 ≤ k ∧ k ≤ 6 := by
  simp only [unitNumbers, List.mem_cons, List.not_mem_nil, or_false] at h; omega

theorem mem_trainNumbers {n : Nat} (h : n ∈ trainNumbers) : 1 ≤ n ∧ n ≤ 2 := by
  simp only [trainNumbers, List.mem_cons, List.not_mem_nil, or_false] at h; omega

/-! ### The safe orders (01 R8, R10) -/

theorem State.order_shutValve_of_ne (s : State) {j i : Nat} (h : i ≠ j) : (s.shutValve j).order i = s.order i := by
  rw [State.order_shutValve]; exact s.order_writeOrder_of_ne _ h

theorem State.order_stopRun_of_ne (s : State) {k i : Nat} (h : i ≠ 16 + k) : (s.stopRun k).order i = s.order i :=
  s.order_writeOrder_of_ne _ h

theorem State.order_offlineTrain_of_ne (s : State) {n i : Nat} (h : i ≠ 28 + n) :
    (s.offlineTrain n).order i = s.order i := s.order_writeOrder_of_ne _ h

/-- The safe orders leave what is no valve, no run and no train entry. -/
theorem State.order_safeOrders_of_ne (s : State) {i : Nat} (hv : i ∉ cavernNumbers)
    (hr : ∀ k ∈ unitNumbers, i ≠ 16 + k) (ht : ∀ n ∈ trainNumbers, i ≠ 28 + n) :
    s.safeOrders.order i = s.order i := by
  rw [State.safeOrders_eq, State.order_forEach (fun u n hn => u.order_offlineTrain_of_ne (ht n hn)),
    State.order_forEach (fun u k hk => u.order_stopRun_of_ne (hr k hk)),
    State.order_forEach (fun u j hj => u.order_shutValve_of_ne (by rintro rfl; exact hv hj))]

/-- What keeps the clock and the number of entries; orders are written under it. -/
def State.sameClock (s t : State) : Prop := t.clk = s.clk ∧ t.ori.length = s.ori.length

theorem State.sameClock_shutValve {s u : State} (h : s.sameClock u) (j : Nat) : s.sameClock (u.shutValve j) :=
  ⟨((u.shutValve_moved j).plant.clk).trans h.1, ((u.shutValve_moved j).orders).trans h.2⟩

theorem State.sameClock_stopRun {s u : State} (h : s.sameClock u) (k : Nat) : s.sameClock (u.stopRun k) :=
  ⟨((u.writeOrder_ordered _ _).plant.clk).trans h.1, ((u.writeOrder_ordered _ _).orders).trans h.2⟩

theorem State.sameClock_offlineTrain {s u : State} (h : s.sameClock u) (n : Nat) : s.sameClock (u.offlineTrain n) :=
  ⟨((u.writeOrder_ordered _ _).plant.clk).trans h.1, ((u.writeOrder_ordered _ _).orders).trans h.2⟩

theorem State.order_safeOrders_valve {s : State} (h : s.ori.length = 31) {j : Nat} (hj : j ∈ cavernNumbers) :
    ∃ u, s.safeOrders.order j = some ⟨.valve .shut, s.clk.stationSeconds, u⟩ := by
  obtain ⟨h1, h8⟩ := mem_cavernNumbers hj
  obtain ⟨u, ⟨hclk, hlen⟩, _, e⟩ := State.forEach_view (f := State.shutValve) (I := s.sameClock) (s := s)
    (fun u => u.order j) hj (by decide) (fun u m _ hu => State.sameClock_shutValve hu m)
    (fun u m _ hm _ => u.order_shutValve_of_ne (Ne.symm hm)) ⟨rfl, rfl⟩
  obtain ⟨x, hx⟩ := State.order_mem (hlen.trans h) h1 (by omega)
  refine ⟨decide (38 ≤ u.occupancy), ?_⟩
  rw [State.safeOrders_eq, State.order_forEach (fun u n hn => u.order_offlineTrain_of_ne (by omega)),
    State.order_forEach (fun u k hk => u.order_stopRun_of_ne (by have := mem_unitNumbers hk; omega))]
  refine e.trans ?_
  rw [State.order_shutValve, ← hclk]
  exact State.order_writeOrder _ hx

theorem State.order_safeOrders_run {s : State} (h : s.ori.length = 31) {k : Nat} (hk : k ∈ unitNumbers) :
    ∃ u, s.safeOrders.order (16 + k) = some ⟨.run .stop, s.clk.stationSeconds, u⟩ := by
  obtain ⟨h1, h6⟩ := mem_unitNumbers hk
  have h0 : s.sameClock (s.forEach cavernNumbers State.shutValve) :=
    State.forEach_induct (P := s.sameClock) ⟨rfl, rfl⟩ (fun u j _ hu => State.sameClock_shutValve hu j)
  obtain ⟨u, ⟨hclk, hlen⟩, _, e⟩ := State.forEach_view (f := State.stopRun) (I := s.sameClock)
    (s := s.forEach cavernNumbers State.shutValve)
    (fun u => u.order (16 + k)) hk (by decide) (fun u m _ hu => State.sameClock_stopRun hu m)
    (fun u m _ hm _ => u.order_stopRun_of_ne (by omega)) h0
  obtain ⟨x, hx⟩ := State.order_mem (hlen.trans h) (i := 16 + k) (by omega) (by omega)
  refine ⟨decide (38 ≤ u.occupancy), ?_⟩
  rw [State.safeOrders_eq, State.order_forEach (fun u n hn => u.order_offlineTrain_of_ne
    (by have := mem_trainNumbers hn; omega))]
  refine e.trans ?_
  rw [← hclk]
  exact State.order_writeOrder _ hx

theorem State.order_safeOrders_train {s : State} (h : s.ori.length = 31) {n : Nat} (hn : n ∈ trainNumbers) :
    ∃ u, s.safeOrders.order (28 + n) =
      some ⟨.train .offline (s.trainOrder n).2.1 (s.trainOrder n).2.2, s.clk.stationSeconds, u⟩ := by
  obtain ⟨h1, h2⟩ := mem_trainNumbers hn
  have h0 : s.sameClock ((s.forEach cavernNumbers State.shutValve).forEach unitNumbers State.stopRun) :=
    State.forEach_induct (P := s.sameClock) (State.forEach_induct (P := s.sameClock) ⟨rfl, rfl⟩
      (fun u j _ hu => State.sameClock_shutValve hu j)) (fun u j _ hu => State.sameClock_stopRun hu j)
  obtain ⟨u, ⟨hclk, hlen⟩, hu, e⟩ := State.forEach_view (f := State.offlineTrain) (I := s.sameClock)
    (s := (s.forEach cavernNumbers State.shutValve).forEach unitNumbers State.stopRun)
    (fun u => u.order (28 + n)) hn (by decide) (fun u m _ hu => State.sameClock_offlineTrain hu m)
    (fun u m _ hm _ => u.order_offlineTrain_of_ne (by omega)) h0
  obtain ⟨x, hx⟩ := State.order_mem (hlen.trans h) (i := 28 + n) (by omega) (by omega)
  rw [State.order_forEach (fun u k hk => u.order_stopRun_of_ne (by have := mem_unitNumbers hk; omega)),
    State.order_forEach (fun u j hj => u.order_shutValve_of_ne (by have := mem_cavernNumbers hj; omega))] at hu
  refine ⟨decide (38 ≤ u.occupancy), ?_⟩
  rw [State.safeOrders_eq]
  refine e.trans ?_
  rw [← hclk, ← State.trainOrder_congr hu]
  exact State.order_writeOrder _ hx

/-- The safe orders restart the watch of a valve entry that changes, and touch nothing else of the caverns. -/
theorem State.cavern_safeOrders (s : State) {j : Nat} (hj : j ∈ cavernNumbers) :
    s.safeOrders.cavern j = (s.cavern j).map (fun c =>
      { c with disagreement := if s.valveOrder j = .shut then c.disagreement else 0 }) := by
  have hw : ∀ (u : State) i v, (u.writeOrder i v).cavern j = u.cavern j := fun u i v =>
    (u.writeOrder_ordered i v).cavern j
  obtain ⟨u, _, hu, e⟩ := State.forEach_view (f := State.shutValve) (I := fun _ => True) (s := s)
    (fun u => (u.cavern j, u.order j)) hj (by decide) (fun _ _ _ _ => trivial)
    (fun u m _ hm _ => Prod.ext (by
        unfold State.shutValve
        dsimp only
        split
        · rw [State.cavern_modCavern_of_ne _ _ (Ne.symm hm), hw]
        · exact hw _ _ _)
      (u.order_shutValve_of_ne (Ne.symm hm))) trivial
  obtain ⟨hc, ho⟩ := Prod.ext_iff.mp hu
  have ht : ∀ v : State, ((v.forEach unitNumbers State.stopRun).forEach trainNumbers State.offlineTrain).cavern j =
      v.cavern j := fun v =>
    State.forEach_induct (P := fun w => w.cavern j = v.cavern j)
      (State.forEach_induct (P := fun w => w.cavern j = v.cavern j) rfl (fun w _ _ h => (hw w _ _).trans h))
      (fun w _ _ h => (hw w _ _).trans h)
  rw [State.safeOrders_eq, ht]
  refine (Prod.ext_iff.mp e).1.trans ?_
  have hv : u.valveOrder j = s.valveOrder j := State.valveOrder_congr ho
  dsimp only at hc ⊢
  unfold State.shutValve
  dsimp only
  rw [← hc, ← hv]
  by_cases hs : u.valveOrder j = .shut
  · rw [if_neg (by simp [hs]), hw]
    simp only [hs, if_true]
    cases u.cavern j <;> rfl
  · rw [if_pos (by simp [hs]), State.cavern_modCavern_map, hw]
    simp only [hs, if_false]

theorem State.safeOrders_rest (s : State) :
    { s.safeOrders with cvc := s.cvc, ori := s.ori, slk := { s.safeOrders.slk with tx := s.slk.tx } } = s := by
  have hw : ∀ (u : State) i v, { u with cvc := s.cvc, ori := s.ori, slk := { u.slk with tx := s.slk.tx } } = s →
      { u.writeOrder i v with cvc := s.cvc, ori := s.ori, slk := { (u.writeOrder i v).slk with tx := s.slk.tx } } = s :=
    fun u i v hu => (congrArg (fun x : State => { x with cvc := s.cvc, ori := s.ori
                                                         slk := { x.slk with tx := s.slk.tx } })
      (u.writeOrder_ordered i v).rest).trans hu
  have hm : ∀ (u : State) j f, { u with cvc := s.cvc, ori := s.ori, slk := { u.slk with tx := s.slk.tx } } = s →
      { u.modCavern j f with cvc := s.cvc, ori := s.ori, slk := { (u.modCavern j f).slk with tx := s.slk.tx } } = s := by
    intro u j f hu
    obtain ⟨c, _, e⟩ | ⟨_, e⟩ := u.modCavern_eq j f <;> rw [e] <;> exact hu
  rw [State.safeOrders_eq]
  refine State.forEach_induct (P := fun u : State =>
    { u with cvc := s.cvc, ori := s.ori, slk := { u.slk with tx := s.slk.tx } } = s) ?_ (fun u _ _ hu => hw u _ _ hu)
  refine State.forEach_induct (P := fun u : State =>
    { u with cvc := s.cvc, ori := s.ori, slk := { u.slk with tx := s.slk.tx } } = s) ?_ (fun u _ _ hu => hw u _ _ hu)
  refine State.forEach_induct (P := fun u : State =>
    { u with cvc := s.cvc, ori := s.ori, slk := { u.slk with tx := s.slk.tx } } = s) rfl (fun u j _ hu => ?_)
  unfold State.shutValve
  dsimp only
  split
  · exact hm _ _ _ (hw _ _ _ hu)
  · exact hw _ _ _ hu

/-! ### Caverns that leave their flow, their valve entry at SHUT (07 R110, R116) -/

/-- The record of a cavern once the station stops: a flowing one is SETTLING, or IDLE where its settle time is 0. -/
def Cavern.stopped (c : Cavern) : Cavern :=
  if c.state.flowing = true then
    if c.config.settleTime = 0 then { c with setPoint := 0, state := .idle, settle := none }
    else { c with setPoint := 0, state := .settling, settle := some (c.config.settleTime * 60) }
  else c

/-- An entry to SETTLING under a valve entry at SHUT writes the rate alone. -/
theorem State.enterSettling_of_shut {s : State} {j : Nat} (h : s.valveOrder j = .shut) :
    s.enterSettling j = (((s.writeRate j 0).modCavern j (fun c => { c with setPoint := 0 })).modCavern j (fun c =>
      if c.config.settleTime = 0 then { c with state := .idle, settle := none }
      else { c with state := .settling, settle := some (c.config.settleTime * 60) })).makePlanDue := by
  unfold State.enterSettling State.shutCavern State.writeValve
  rw [if_pos h]

theorem State.order_enterSettling_of_ne {s : State} {j i : Nat} (h : s.valveOrder j = .shut) (hi : i ≠ 8 + j) :
    (s.enterSettling j).order i = s.order i := by
  rw [State.enterSettling_of_shut h]
  refine (State.order_modCavern _ _ _ _).trans ((State.order_modCavern _ _ _ _).trans ?_)
  exact s.order_writeOrderIfNew_of_ne _ hi

theorem State.order_stopFlow_of_ne {s : State} {j i : Nat} (h : s.valveOrder j = .shut) (hi : i ≠ 8 + j) :
    (s.stopFlow j).order i = s.order i := by
  unfold State.stopFlow
  repeat' split
  · exact State.order_enterSettling_of_ne h hi
  · rfl
  · rfl

theorem State.cavern_stopFlow {s : State} {j : Nat} (h : s.valveOrder j = .shut) :
    (s.stopFlow j).cavern j = (s.cavern j).map Cavern.stopped := by
  unfold State.stopFlow
  cases hc : s.cavern j with
  | none => simp [hc]
  | some c =>
    dsimp only
    by_cases hf : c.state.flowing = true
    · rw [if_pos hf, State.enterSettling_of_shut h]
      have hw : (s.writeRate j 0).cavern j = some c := ((s.writeRate_ordered j 0).cavern j).trans hc
      refine (State.cavern_modCavern _ (State.cavern_modCavern _ hw)).trans ?_
      rw [Option.map_some, Cavern.stopped, if_pos hf]
    · rw [if_neg hf, hc, Option.map_some, Cavern.stopped, if_neg hf]

theorem State.cavern_stopFlow_of_ne {s : State} {i j : Nat} (h : s.valveOrder j = .shut) (hi : i ≠ j) :
    (s.stopFlow j).cavern i = s.cavern i := by
  unfold State.stopFlow
  repeat' split
  · rw [State.enterSettling_of_shut h]
    refine (State.cavern_modCavern_of_ne _ _ hi).trans ((State.cavern_modCavern_of_ne _ _ hi).trans ?_)
    exact (s.writeRate_ordered j 0).cavern i
  · rfl
  · rfl

/-- The rate entry of a cavern that flowed is 0; that of any other stands. -/
theorem State.rate_stopFlow {s : State} {j : Nat} (h : s.valveOrder j = .shut) :
    (s.flows j → (s.stopFlow j).rateOrder j = 0) ∧ (¬ s.flows j → (s.stopFlow j).order (8 + j) = s.order (8 + j)) := by
  unfold State.stopFlow State.flows
  cases hc : s.cavern j with
  | none => exact ⟨nofun, fun _ => rfl⟩
  | some c =>
    dsimp only
    refine ⟨fun ⟨x, hx, hf⟩ => ?_, fun hn => ?_⟩
    · cases hx
      rw [if_pos hf, State.enterSettling_of_shut h]
      refine (State.rateOrder_modCavern _ _ _ _).trans ((State.rateOrder_modCavern _ _ _ _).trans ?_)
      exact s.rateOrder_writeRate_zero j
    · rw [if_neg (fun hf => hn ⟨c, rfl, hf⟩)]

/-- Every valve entry is at SHUT, and the station is not RUNNING. -/
def State.shutDown (s : State) : Prop := s.sts.state ≠ .running ∧ ∀ j ∈ cavernNumbers, s.valveOrder j = .shut

theorem State.shutDown.stopFlow {s : State} (h : s.shutDown) {j : Nat} (hj : j ∈ cavernNumbers) :
    (s.stopFlow j).shutDown := by
  refine ⟨(s.stopFlow_safe j).not_running h.1, fun i hi => ?_⟩
  rw [State.valveOrder_congr (State.order_stopFlow_of_ne (h.2 j hj) ?_)]
  · exact h.2 i hi
  · have := mem_cavernNumbers hi
    have := mem_cavernNumbers hj
    omega

theorem State.cavernsStop_parts {s : State} (h : s.shutDown) :
    (s.forEach cavernNumbers State.stopFlow).shutDown ∧
    CapsMoved (s.forEach cavernNumbers State.stopFlow) s.cavernsStop ∧
    s.cavernsStop = (s.forEach cavernNumbers State.stopFlow).formAllCaps.1 := by
  have h1 : (s.forEach cavernNumbers State.stopFlow).shutDown :=
    State.forEach_induct h (fun u j hj hu => hu.stopFlow hj)
  have e : s.cavernsStop = (s.forEach cavernNumbers State.stopFlow).formAllCaps.1 := by
    rw [State.cavernsStop_eq, State.cavernsChanged_of_not_running h1.1]
  exact ⟨h1, by rw [e]; exact State.formAllCaps_caps _, e⟩

/-- The record of a cavern once the station has entered PARKED or TRIPPED. -/
theorem State.cavern_cavernsStop {s : State} (h : s.shutDown) {j : Nat} (hj : j ∈ cavernNumbers) :
    s.cavernsStop.cavern j = (s.cavern j).map (fun c =>
      { c.stopped with capInject := 0, capWithdraw := 0, refInject := 0, refWithdraw := 0 }) := by
  obtain ⟨h1, _, e⟩ := State.cavernsStop_parts h
  obtain ⟨u, hu, hc, e'⟩ := State.forEach_view (f := State.stopFlow) (I := State.shutDown) (s := s)
    (fun u => u.cavern j) hj (by decide) (fun u m hm hu => hu.stopFlow hm)
    (fun u m hm hne hu => State.cavern_stopFlow_of_ne (hu.2 m hm) (Ne.symm hne)) h
  have e'' : (s.forEach cavernNumbers State.stopFlow).cavern j = (s.cavern j).map Cavern.stopped :=
    e'.trans ((State.cavern_stopFlow (hu.2 j hj)).trans (congrArg (·.map Cavern.stopped) hc))
  rw [e, State.cavern_formAllCaps _ hj, funext (State.capsFormed_of_not_running h1.1 j), e'', Option.map_map]
  rfl

theorem State.order_cavernsStop {s : State} (h : s.shutDown) {i : Nat} (hi : i ≤ 8 ∨ 16 < i) :
    s.cavernsStop.order i = s.order i := by
  obtain ⟨_, hc, _⟩ := State.cavernsStop_parts h
  rw [hc.order]
  have : (s.forEach cavernNumbers State.stopFlow).shutDown ∧
      (s.forEach cavernNumbers State.stopFlow).order i = s.order i :=
    State.forEach_induct (P := fun u => u.shutDown ∧ u.order i = s.order i) ⟨h, rfl⟩ (fun u j hj hu =>
      ⟨hu.1.stopFlow hj, (State.order_stopFlow_of_ne (hu.1.2 j hj) (by have := mem_cavernNumbers hj; omega)).trans hu.2⟩)
  exact this.2

/-- The rate entries: 0 for a cavern that flowed, and as it was for any other. -/
theorem State.rate_cavernsStop {s : State} (h : s.shutDown) {j : Nat} (hj : j ∈ cavernNumbers) :
    (s.flows j → s.cavernsStop.rateOrder j = 0) ∧
    (¬ s.flows j → s.cavernsStop.order (8 + j) = s.order (8 + j)) := by
  obtain ⟨_, hc, _⟩ := State.cavernsStop_parts h
  obtain ⟨u, hu, hv, e⟩ := State.forEach_view (f := State.stopFlow) (I := State.shutDown) (s := s)
    (fun u => (u.cavern j, u.order (8 + j))) hj (by decide) (fun u m hm hu => hu.stopFlow hm)
    (fun u m hm hne hu => Prod.ext (State.cavern_stopFlow_of_ne (hu.2 m hm) (Ne.symm hne))
      (State.order_stopFlow_of_ne (hu.2 m hm) (by omega))) h
  obtain ⟨hcav, hord⟩ := Prod.ext_iff.mp hv
  obtain ⟨_, hord'⟩ := Prod.ext_iff.mp e
  have hflows : u.flows j ↔ s.flows j := by unfold State.flows; rw [show u.cavern j = s.cavern j from hcav]
  obtain ⟨hf, hn⟩ := State.rate_stopFlow (hu.2 j hj)
  refine ⟨fun hs => ?_, fun hs => ?_⟩
  · rw [← hf (hflows.mpr hs), State.rateOrder_congr (hc.order _)]
    exact State.rateOrder_congr hord'
  · rw [hc.order]
    exact hord'.trans ((hn (fun hu => hs (hflows.mp hu))).trans hord)

end Sys2Proof.Machine
end

section
/-! What an entry to PARKED or TRIPPED leaves of units and trains (08 R139, R140; 09 R147), and what the heater does (09
R150, R152). -/

open Sys2Proof Sys2Proof.Machine

namespace Sys2Proof.Machine

/-! ### Units that stop, their run entry at STOP -/

/-- `t` differs from `s` at most in the units and the plan-due mark. -/
structure UnitsOnly (s t : State) : Prop where
  rest : { t with cdu := { t.cdu with units := s.cdu.units }, plu := { t.plu with due := s.plu.due } } = s

theorem UnitsOnly.refl (s : State) : UnitsOnly s s := ⟨rfl⟩

theorem UnitsOnly.trans {s t u : State} (h1 : UnitsOnly s t) (h2 : UnitsOnly t u) : UnitsOnly s u :=
  ⟨(congrArg (fun x : State => { x with cdu := { x.cdu with units := s.cdu.units }
                                        plu := { x.plu with due := s.plu.due } }) h2.rest).trans h1.rest⟩

theorem UnitsOnly.smt {s t : State} (h : UnitsOnly s t) : t.smt = s.smt := congrArg (fun x => x.smt) h.rest
theorem UnitsOnly.ori {s t : State} (h : UnitsOnly s t) : t.ori = s.ori := congrArg (fun x => x.ori) h.rest
theorem UnitsOnly.sts {s t : State} (h : UnitsOnly s t) : t.sts = s.sts := congrArg (fun x => x.sts) h.rest

theorem State.changeUnit_only (s : State) (k : Nat) (u v : Compressor) : UnitsOnly s (s.changeUnit k u v) := by
  unfold State.changeUnit
  dsimp only
  split <;> exact ⟨rfl⟩

theorem State.readyTest_only (s : State) (k : Nat) : UnitsOnly s (s.readyTest k).1 := by
  unfold State.readyTest
  repeat' split
  · exact s.changeUnit_only k _ _
  · exact .refl s
  · exact .refl s

theorem State.enterResting_only (s : State) (k : Nat) (u : Compressor) : UnitsOnly s (s.enterResting k u).1 :=
  (s.changeUnit_only k _ _).trans (State.readyTest_only _ _)

theorem State.stoppedTest_only (s : State) (k : Nat) : UnitsOnly s (s.stoppedTest k).1 := by
  unfold State.stoppedTest
  repeat' split
  · exact s.enterResting_only k _
  · exact .refl s
  · exact .refl s

theorem State.stopEngaged_only (s : State) (k : Nat) : UnitsOnly s (s.stopEngaged k) := by
  unfold State.stopEngaged
  repeat' split
  · exact (s.changeUnit_only k _ _).trans (State.stoppedTest_only _ _)
  · exact .refl s
  · exact .refl s

theorem State.unit_changeUnit_of_ne (s : State) {i k : Nat} (u v : Compressor) (h : i ≠ k) :
    (s.changeUnit k u v).unit i = s.unit i := by
  unfold State.changeUnit
  dsimp only
  split <;> exact s.unit_setUnit_of_ne _ h

theorem State.unit_readyTest_of_ne (s : State) {i k : Nat} (h : i ≠ k) : (s.readyTest k).1.unit i = s.unit i := by
  unfold State.readyTest
  repeat' split
  · exact s.unit_changeUnit_of_ne _ _ h
  · rfl
  · rfl

theorem State.unit_enterResting_of_ne (s : State) {i k : Nat} (u : Compressor) (h : i ≠ k) :
    (s.enterResting k u).1.unit i = s.unit i :=
  (State.unit_readyTest_of_ne _ h).trans (s.unit_changeUnit_of_ne _ _ h)

theorem State.unit_stoppedTest_of_ne (s : State) {i k : Nat} (h : i ≠ k) : (s.stoppedTest k).1.unit i = s.unit i := by
  unfold State.stoppedTest
  repeat' split
  · exact s.unit_enterResting_of_ne _ h
  · rfl
  · rfl

theorem State.unit_stopEngaged_of_ne (s : State) {i k : Nat} (h : i ≠ k) : (s.stopEngaged k).unit i = s.unit i := by
  unfold State.stopEngaged
  repeat' split
  · exact (State.unit_stoppedTest_of_ne _ h).trans (s.unit_changeUnit_of_ne _ _ h)
  · rfl
  · rfl

theorem State.unit_readyTest {s : State} {k : Nat} {u : Compressor} (h : s.unit k = some u) :
    (s.readyTest k).1.unit k = some (if u.state = .resting ∧ u.minStop = none ∧
      u.startList.length < u.config.startsPerHour then { u with state := .ready } else u) := by
  unfold State.readyTest
  rw [h]
  dsimp only
  split
  · exact State.unit_changeUnit h _ _
  · exact h

/-- The record of a unit that enters RESTING, and READY at once where nothing keeps it (08 R139, R135). -/
def Compressor.rested (u : Compressor) : Compressor :=
  { u with timeout := none, minStop := countdown u.config.minStop
           state := if u.config.minStop = 0 ∧ u.startList.length < u.config.startsPerHour then .ready else .resting }

theorem State.unit_enterResting {s : State} {k : Nat} {x : Compressor} (h : s.unit k = some x) (u : Compressor) :
    (s.enterResting k u).1.unit k = some u.rested := by
  refine (State.unit_readyTest (State.unit_changeUnit h u _)).trans (congrArg some ?_)
  unfold Compressor.rested countdown
  dsimp only
  by_cases h0 : u.config.minStop = 0
  · by_cases hl : u.startList.length < u.config.startsPerHour <;> simp [h0, hl]
  · simp [h0]

/-- The record of a unit once the station has entered PARKED or TRIPPED (08 R139, R140). -/
def State.stoppedRecord (s : State) (k : Nat) (u : Compressor) : Compressor :=
  if u.state.engaged = true then
    if s.showsStopped k = false then
      { u with load := 0, minRun := none, state := .stopping, timeout := countdown u.config.startTimeout }
    else Compressor.rested { u with load := 0, minRun := none }
  else u

theorem State.showsStopped_congr {s t : State} (h : t.smt = s.smt) (k : Nat) : t.showsStopped k = s.showsStopped k := by
  unfold State.showsStopped; rw [State.point_congr h]

theorem State.stoppedRecord_congr {s t : State} (h : t.smt = s.smt) (k : Nat) :
    t.stoppedRecord k = s.stoppedRecord k := by
  funext u
  unfold State.stoppedRecord
  rw [State.showsStopped_congr h]

theorem State.unit_stopEngaged (s : State) (k : Nat) :
    (s.stopEngaged k).unit k = (s.unit k).map (s.stoppedRecord k) := by
  unfold State.stopEngaged
  cases h : s.unit k with
  | none => simp [h]
  | some u =>
    rw [Option.map_some, State.stoppedRecord]
    dsimp only
    by_cases he : u.state.engaged = true
    · rw [if_pos he, if_pos he]
      have hv := fun v => State.unit_changeUnit h u v
      have hs := fun v => State.showsStopped_congr (s.changeUnit_only k u v).smt k
      unfold State.stoppedTest
      rw [hv]
      dsimp only
      rw [hs]
      by_cases hst : s.showsStopped k = true
      · rw [if_pos ⟨.inl rfl, hst⟩, if_neg (by simp [hst])]
        exact State.unit_enterResting (hv _) _
      · rw [if_neg (fun hc => hst hc.2), if_pos (by simpa using hst)]
        exact hv _
    · rw [if_neg he, if_neg he]
      exact h

/-- The run entry of unit `k` follows its state (08 R128). -/
def State.writeRun (s : State) (k : Nat) : State :=
  match s.unit k with
  | some u =>
    if u.state.engaged && s.sts.state != .running then s
    else s.writeOrderIfNew (runActuator k) (.run u.state.runOrder)
  | none => s

/-- The load entry of unit `k` follows its load (08 R128). -/
def State.writeLoad (s : State) (k : Nat) : State :=
  match s.unit k with
  | some u => s.writeOrderIfNew (loadActuator k) (.load u.load)
  | none => s

theorem State.writeUnitOrders_eq (s : State) :
    s.writeUnitOrders = (s.forEach unitNumbers State.writeRun).forEach unitNumbers State.writeLoad := rfl

/-- The run entry of unit `k` holds STOP. -/
def State.holdsStop (s : State) (k : Nat) : Prop := ∃ e, s.order (16 + k) = some e ∧ e.value = .run .stop

/-- Outside RUNNING an entry at STOP stays as it is. -/
theorem State.writeRun_of_stop {s : State} (hs : s.sts.state ≠ .running) {k : Nat} (h : s.holdsStop k) :
    s.writeRun k = s := by
  obtain ⟨e, he, hv⟩ := h
  unfold State.writeRun
  cases s.unit k with
  | none => rfl
  | some u =>
    dsimp only
    cases hu : u.state.engaged with
    | true => rw [if_pos (by simp [hs])]
    | false =>
      rw [if_neg (by simp), UnitState.runOrder, hu]
      have := State.writeOrderIfNew_same (i := runActuator k) he
      rwa [hv] at this

theorem State.writeLoad_ordered (s : State) (k : Nat) : Ordered s (s.writeLoad k) := by
  unfold State.writeLoad
  split
  · exact s.writeOrderIfNew_ordered _ _
  · exact .refl s

theorem Ordered.unit {s t : State} (h : Ordered s t) (k : Nat) : t.unit k = s.unit k :=
  State.unit_congr (congrArg (fun x => x.cdu.units) h.rest) k

theorem Ordered.sts {s t : State} (h : Ordered s t) : t.sts = s.sts := congrArg (fun x => x.sts) h.rest

theorem Ordered.train {s t : State} (h : Ordered s t) (n : Nat) : t.train n = s.train n :=
  State.train_congr (congrArg (fun x => x.drc.trains) h.rest) n

theorem State.order_writeLoad_of_ne (s : State) {k i : Nat} (h : i ≠ 22 + k) : (s.writeLoad k).order i = s.order i := by
  unfold State.writeLoad
  split
  · exact s.order_writeOrderIfNew_of_ne _ h
  · rfl

/-- Writing an entry that exists makes it hold the value. -/
theorem State.value_writeOrderIfNew {s : State} {i : Nat} {e : OrderEntry} (h : s.order i = some e) (v : OrderValue) :
    ∃ x, (s.writeOrderIfNew i v).order i = some x ∧ x.value = v := by
  by_cases hv : e.value = v
  · subst hv
    rw [State.writeOrderIfNew_same h]
    exact ⟨e, h, rfl⟩
  · rw [State.writeOrderIfNew_new h hv]
    exact ⟨_, State.order_writeOrder v h, rfl⟩

/-- The load entry of a unit holds its load; where there is no unit, or the entry holds the load, it stands. -/
theorem State.load_writeLoad {s : State} {k : Nat} {e : OrderEntry} (h : s.order (22 + k) = some e) :
    (∀ u, s.unit k = some u → (s.writeLoad k).loadOrder k = u.load) ∧
    ((∀ u, s.unit k = some u → e.value = .load u.load) → (s.writeLoad k).order (22 + k) = s.order (22 + k)) := by
  unfold State.writeLoad
  cases s.unit k with
  | none => exact ⟨nofun, fun _ => rfl⟩
  | some u =>
    refine ⟨fun v hv => ?_, fun hu => ?_⟩
    · cases hv
      obtain ⟨⟨x, sec, b⟩, hx, rfl⟩ := State.value_writeOrderIfNew (i := loadActuator k) h (.load u.load)
      dsimp only
      unfold State.loadOrder
      rw [hx]
    · have := State.writeOrderIfNew_same (i := loadActuator k) h
      rw [hu u rfl] at this
      exact congrArg (fun x : State => x.order (22 + k)) this

/-- Every run entry holds STOP, and the station is not RUNNING. -/
def State.runsDown (s : State) : Prop := s.sts.state ≠ .running ∧ ∀ k ∈ unitNumbers, s.holdsStop k

theorem State.writeRuns_of_stop {s : State} (h : s.runsDown) : s.forEach unitNumbers State.writeRun = s :=
  State.forEach_induct (P := fun u => u = s) rfl (fun u k hk hu => by
    rw [hu]; exact State.writeRun_of_stop h.1 (h.2 k hk))

theorem State.unit_writeUnitOrders (s : State) (k : Nat) : s.writeUnitOrders.unit k = s.unit k := by
  have hw : ∀ (u : State) i v, (u.writeOrderIfNew i v).unit k = u.unit k :=
    fun u i v => (u.writeOrderIfNew_ordered i v).unit k
  rw [State.writeUnitOrders_eq]
  refine State.forEach_induct (P := fun u => u.unit k = s.unit k) ?_
    (fun u i _ hu => ((u.writeLoad_ordered i).unit k).trans hu)
  refine State.forEach_induct (P := fun u => u.unit k = s.unit k) rfl (fun u i _ hu => ?_)
  unfold State.writeRun
  repeat' split
  · exact hu
  · exact (hw _ _ _).trans hu
  · exact hu

theorem State.order_writeUnitOrders {s : State} (h : s.runsDown) {i : Nat} (hi : i ≤ 22 ∨ 28 < i) :
    s.writeUnitOrders.order i = s.order i := by
  rw [State.writeUnitOrders_eq, State.writeRuns_of_stop h]
  exact State.order_forEach (fun u k hk => u.order_writeLoad_of_ne (by have := mem_unitNumbers hk; omega)) s

theorem State.load_writeUnitOrders {s : State} (h : s.runsDown) {k : Nat} (hk : k ∈ unitNumbers) {e : OrderEntry}
    (he : s.order (22 + k) = some e) :
    (∀ u, s.unit k = some u → s.writeUnitOrders.loadOrder k = u.load) ∧
    ((∀ u, s.unit k = some u → e.value = .load u.load) → s.writeUnitOrders.order (22 + k) = s.order (22 + k)) := by
  obtain ⟨u, _, hu, e'⟩ := State.forEach_view (f := State.writeLoad) (I := fun _ => True) (s := s)
    (fun u => (u.unit k, u.order (22 + k))) hk (by decide) (fun _ _ _ _ => trivial)
    (fun u m _ hm _ => Prod.ext ((u.writeLoad_ordered m).unit k) (u.order_writeLoad_of_ne (by omega))) trivial
  obtain ⟨hunit, hord⟩ := Prod.ext_iff.mp hu
  have hfin : (s.forEach unitNumbers State.writeLoad).order (22 + k) = (u.writeLoad k).order (22 + k) :=
    (Prod.ext_iff.mp e').2
  dsimp only at hunit hord
  obtain ⟨h1, h2⟩ := State.load_writeLoad (hord.trans he)
  rw [State.writeUnitOrders_eq, State.writeRuns_of_stop h]
  refine ⟨fun x hx => ?_, fun hx => ?_⟩
  · rw [← h1 x (hunit.trans hx)]
    exact State.loadOrder_congr hfin
  · rw [hfin, h2 (fun x h => hx x (hunit.symm.trans h)), hord]

theorem State.stopAll_parts (s : State) : UnitsOnly s (s.forEach unitNumbers State.stopEngaged) ∧
    ∀ k ∈ unitNumbers, (s.forEach unitNumbers State.stopEngaged).unit k = (s.unit k).map (s.stoppedRecord k) := by
  refine ⟨State.forEach_induct (P := UnitsOnly s) (.refl s) (fun u k _ h => h.trans (u.stopEngaged_only k)),
    fun k hk => ?_⟩
  obtain ⟨u, hI, hu, e⟩ := State.forEach_view (f := State.stopEngaged) (I := UnitsOnly s) (s := s)
    (fun u => u.unit k) hk (by decide) (fun u m _ h => h.trans (u.stopEngaged_only m))
    (fun u m _ hm _ => u.unit_stopEngaged_of_ne (Ne.symm hm)) (.refl s)
  refine e.trans ((u.unit_stopEngaged k).trans ?_)
  rw [hu, State.stoppedRecord_congr hI.smt]

/-- The units once the station has entered PARKED or TRIPPED. -/
theorem State.unit_unitsStop (s : State) {k : Nat} (hk : k ∈ unitNumbers) :
    s.unitsStop.unit k = (s.unit k).map (s.stoppedRecord k) := by
  unfold State.unitsStop
  rw [State.unit_writeUnitOrders, s.stopAll_parts.2 k hk]

theorem State.runsDown.stopAll {s : State} (h : s.runsDown) : (s.forEach unitNumbers State.stopEngaged).runsDown := by
  obtain ⟨ho, _⟩ := s.stopAll_parts
  refine ⟨by rw [ho.sts]; exact h.1, fun k hk => ?_⟩
  obtain ⟨e, he, hv⟩ := h.2 k hk
  exact ⟨e, (State.order_congr ho.ori _).trans he, hv⟩

theorem State.order_unitsStop {s : State} (h : s.runsDown) {i : Nat} (hi : i ≤ 22 ∨ 28 < i) :
    s.unitsStop.order i = s.order i := by
  unfold State.unitsStop
  rw [State.order_writeUnitOrders h.stopAll hi, State.order_congr s.stopAll_parts.1.ori]

theorem State.load_unitsStop {s : State} (h : s.runsDown) {k : Nat} (hk : k ∈ unitNumbers) {e : OrderEntry}
    (he : s.order (22 + k) = some e) :
    (∀ u, s.unit k = some u → s.unitsStop.loadOrder k = (s.stoppedRecord k u).load) ∧
    ((∀ u, s.unit k = some u → e.value = .load (s.stoppedRecord k u).load) →
      s.unitsStop.order (22 + k) = s.order (22 + k)) := by
  obtain ⟨ho, hu⟩ := s.stopAll_parts
  have he' := (State.order_congr ho.ori (22 + k)).trans he
  obtain ⟨h1, h2⟩ := State.load_writeUnitOrders h.stopAll hk he'
  unfold State.unitsStop
  refine ⟨fun u hu' => h1 _ ((hu k hk).trans (by rw [hu']; rfl)), fun hv => ?_⟩
  rw [h2 (fun x hx => ?_), he', he]
  obtain ⟨u, hu', rfl⟩ := Option.map_eq_some_iff.mp ((hu k hk).symm.trans hx)
  exact hv u hu'

/-! ### Trains -/

/-- `t` differs from `s` at most in the train records, the plan-due mark, the alert set and records offered. -/
structure TrainsOnly (s t : State) : Prop where
  rest : { t with drc := { t.drc with trains := s.drc.trains }, als := s.als, plu := { t.plu with due := s.plu.due }
                  slk := { t.slk with tx := s.slk.tx } } = s

theorem TrainsOnly.refl (s : State) : TrainsOnly s s := ⟨rfl⟩

theorem TrainsOnly.trans {s t u : State} (h1 : TrainsOnly s t) (h2 : TrainsOnly t u) : TrainsOnly s u :=
  ⟨(congrArg (fun x : State => { x with drc := { x.drc with trains := s.drc.trains }, als := s.als
                                        plu := { x.plu with due := s.plu.due }
                                        slk := { x.slk with tx := s.slk.tx } }) h2.rest).trans h1.rest⟩

theorem TrainsOnly.ite {s a b : State} {p : Prop} [Decidable p] (h1 : TrainsOnly s a) (h2 : TrainsOnly s b) :
    TrainsOnly s (if p then a else b) := by split <;> assumption

theorem TrainsOnly.ori {s t : State} (h : TrainsOnly s t) : t.ori = s.ori := congrArg (fun x => x.ori) h.rest

/-- The heater and its queue. -/
theorem TrainsOnly.drc {s t : State} (h : TrainsOnly s t) : t.drc = { s.drc with trains := t.drc.trains } := by
  have e : { t.drc with trains := s.drc.trains } = s.drc := congrArg (fun x => x.drc) h.rest
  rw [← e]

theorem Reported.trainsOnly {s t : State} (h : Reported s t) : TrainsOnly s t :=
  ⟨(congrArg (fun x : State => { x with drc := { x.drc with trains := s.drc.trains }
                                        plu := { x.plu with due := s.plu.due } }) h.rest).trans rfl⟩

theorem State.setTrain_only (s : State) (n : Nat) (r : Option Train) : TrainsOnly s (s.setTrain n r) := ⟨rfl⟩

theorem State.makePlanDue_trainsOnly (s : State) : TrainsOnly s s.makePlanDue := ⟨rfl⟩

theorem State.formTrain_only (s : State) (n : Nat) : TrainsOnly s (s.formTrain n) := by
  unfold State.formTrain
  cases s.train n with
  | none => exact .refl s
  | some r =>
    have h := s.setTrain_only n (some { r with
      condition := r.formCondition, planCap := planningCapacity r.config r.state r.formCondition })
    have hr := fun k => h.trans (State.raise_reported _ k n).trainsOnly
    have ha := TrainsOnly.ite (p := r.formCondition = .derated ∧ r.condition = .normal) (hr .trainDerated)
      (.ite (p := r.formCondition = .breakthrough ∧ r.condition ≠ .breakthrough) (hr .trainBreakthrough) h)
    exact .ite ha (ha.trans (State.makePlanDue_trainsOnly _))

theorem State.trains_formTrain {s : State} {n : Nat} {r : Train} (h : s.train n = some r) :
    (s.formTrain n).drc = (s.setTrain n (some r.formed)).drc := congrArg (fun x => x.drc) (s.formTrain_eq n r h)

theorem State.train_formTrain {s : State} {n : Nat} {r : Train} (h : s.train n = some r) :
    (s.formTrain n).train n = some r.formed := by
  rw [State.train_congr (s := s.setTrain n (some r.formed)) (by rw [State.trains_formTrain h])]
  exact State.train_setTrain _ h

theorem State.train_formTrain_of_ne (s : State) {m n : Nat} (h : m ≠ n) : (s.formTrain n).train m = s.train m := by
  cases hr : s.train n with
  | none =>
    unfold State.formTrain
    simp only [hr]
  | some r =>
    rw [State.train_congr (s := s.setTrain n (some r.formed)) (by rw [State.trains_formTrain hr])]
    exact s.train_setTrain_of_ne _ h

theorem State.standby_drc (s : State) (n : Nat) (r : Train) :
    (s.changeTrain n r .standby).drc =
      ((s.setTrain n (some { r with state := .standby, aboveSpec := 0, inSpec := 0 })).formTrain n).drc := by
  unfold State.changeTrain
  rfl

theorem State.changeTrain_only (s : State) (n : Nat) (r : Train) (st : TrainState) :
    TrainsOnly s (s.changeTrain n r st) :=
  ((s.setTrain_only n _).trans (State.formTrain_only _ _)).trans (State.makePlanDue_trainsOnly _)

theorem State.standDown_only (s : State) (n : Nat) : TrainsOnly s (s.standDown n) := by
  unfold State.standDown
  split
  · exact .ite (s.changeTrain_only n _ _) (.refl s)
  · exact .refl s

theorem State.trainsStop_only (s : State) : TrainsOnly s s.trainsStop := by
  rw [State.trainsStop_eq]
  exact State.forEach_induct (P := TrainsOnly s) (.refl s) (fun u n _ h => h.trans (u.standDown_only n))

theorem State.train_standDown (s : State) (n : Nat) : (s.standDown n).train n = (s.train n).map Train.parked := by
  unfold State.standDown
  cases h : s.train n with
  | none => simp [h]
  | some r =>
    rw [Option.map_some, Train.parked]
    dsimp only
    by_cases ho : r.state = .online
    · rw [if_pos ho, if_pos ho]
      refine (State.train_congr (congrArg (fun x => x.trains) (s.standby_drc n r)) n).trans ?_
      rw [State.train_formTrain (State.train_setTrain _ h)]
    · rw [if_neg ho, if_neg ho]
      exact h

theorem State.train_standDown_of_ne (s : State) {m n : Nat} (h : m ≠ n) : (s.standDown n).train m = s.train m := by
  unfold State.standDown
  split
  case h_2 => rfl
  case h_1 r _ =>
    split
    case isFalse => rfl
    refine (State.train_congr (congrArg (fun x => x.trains) (s.standby_drc n r)) m).trans ?_
    rw [State.train_formTrain_of_ne _ h, State.train_setTrain_of_ne _ _ h]

/-- The trains once the station has entered PARKED or TRIPPED. -/
theorem State.train_trainsStop (s : State) {n : Nat} (hn : n ∈ trainNumbers) :
    s.trainsStop.train n = (s.train n).map Train.parked := by
  obtain ⟨u, _, hu, e⟩ := State.forEach_view (f := State.standDown) (I := fun _ => True) (s := s)
    (fun u => u.train n) hn (by decide) (fun _ _ _ _ => trivial)
    (fun u m _ hm _ => u.train_standDown_of_ne (Ne.symm hm)) trivial
  rw [State.trainsStop_eq]
  exact e.trans ((u.train_standDown n).trans (congrArg (·.map Train.parked) hu))

end Sys2Proof.Machine
end

section
/-! The entry to PARKED or TRIPPED, put together from its blocks: PARK (01 R8). -/

open Sys2Proof Sys2Proof.Machine

namespace Sys2Proof.Machine

/-- The record of a cavern once the station stands: as its stop leaves it, every cap and reference at 0. -/
def Cavern.halted (c : Cavern) : Cavern :=
  { c.stopped with capInject := 0, capWithdraw := 0, refInject := 0, refWithdraw := 0 }

/-- What CVC, CDU and DRC leave when the station enters PARKED or TRIPPED with every valve entry at SHUT and every run
entry at STOP already. -/
structure Halted (s t : State) : Prop where
  plant : PlantMoved s t
  due : s.plu.due = true → t.plu.due = true
  alerts : ∀ b ∉ trainAlerts, t.alert b = s.alert b
  drc : t.drc = { s.drc with trains := t.drc.trains }
  cavern : ∀ j ∈ cavernNumbers, t.cavern j = (s.cavern j).map Cavern.halted
  unit : ∀ k ∈ unitNumbers, t.unit k = (s.unit k).map (s.stoppedRecord k)
  train : ∀ n ∈ trainNumbers, t.train n = (s.train n).map Train.parked
  order : ∀ i, i ≤ 8 ∨ (16 < i ∧ i ≤ 22) ∨ 28 < i → t.order i = s.order i
  rate : ∀ j ∈ cavernNumbers,
    (s.flows j → t.rateOrder j = 0) ∧ (¬ s.flows j → t.order (8 + j) = s.order (8 + j))
  load : ∀ k ∈ unitNumbers, ∀ e, s.order (22 + k) = some e →
    (∀ u, s.unit k = some u → t.loadOrder k = (s.stoppedRecord k u).load) ∧
    ((∀ u, s.unit k = some u → e.value = .load (s.stoppedRecord k u).load) → t.order (22 + k) = s.order (22 + k))

theorem State.cavernsStop_calm {K : List AlertKind} {s : State} (h : s.shutDown) : Calm K s s.cavernsStop := by
  obtain ⟨_, _, e⟩ := State.cavernsStop_parts h
  rw [e]
  exact (Calm.forEach (fun u j => by
    unfold State.stopFlow
    repeat' split
    · exact u.enterSettling_calm j
    · exact .refl u
    · exact .refl u) _ s).trans (State.formAllCaps_calm _)

theorem State.valveOrder_of_order {s : State} {j sec : Nat} {v : Valve} {u : Bool}
    (h : s.order j = some ⟨.valve v, sec, u⟩) : s.valveOrder j = v := by
  unfold State.valveOrder valveActuator
  rw [h]

theorem State.runsDown.of_order {s t : State} (h : s.runsDown) (hs : t.sts.state ≠ .running)
    (ho : ∀ k ∈ unitNumbers, t.order (16 + k) = s.order (16 + k)) : t.runsDown := by
  refine ⟨hs, fun k hk => ?_⟩
  obtain ⟨e, he, hv⟩ := h.2 k hk
  exact ⟨e, (ho k hk).trans he, hv⟩

/-- What the caverns' part of the entry leaves of units, trains and points. -/
theorem CavernsMoved.drc {s t : State} (h : CavernsMoved s t) : t.drc = s.drc := congrArg (fun x => x.drc) h.rest
theorem CavernsMoved.cdu {s t : State} (h : CavernsMoved s t) : t.cdu = s.cdu := congrArg (fun x => x.cdu) h.rest
theorem CavernsMoved.smt {s t : State} (h : CavernsMoved s t) : t.smt = s.smt := congrArg (fun x => x.smt) h.rest
theorem CavernsMoved.sts {s t : State} (h : CavernsMoved s t) : t.sts = s.sts := congrArg (fun x => x.sts) h.rest
theorem UnitsMoved.drc {s t : State} (h : UnitsMoved s t) : t.drc = s.drc := congrArg (fun x => x.drc) h.rest
theorem UnitsMoved.cvc {s t : State} (h : UnitsMoved s t) : t.cvc = s.cvc := congrArg (fun x => x.cvc) h.rest
theorem TrainsMoved.cvc {s t : State} (h : TrainsMoved s t) : t.cvc = s.cvc := congrArg (fun x => x.cvc) h.rest
theorem TrainsMoved.cdu {s t : State} (h : TrainsMoved s t) : t.cdu = s.cdu := congrArg (fun x => x.cdu) h.rest

theorem State.blocksStop_halted {s : State} (hs : s.shutDown) (hr : s.runsDown) :
    Halted s s.cavernsStop.unitsStop.trainsStop := by
  have hr1 : s.cavernsStop.runsDown := hr.of_order (by rw [s.cavernsStop_moved.sts]; exact hr.1)
    (fun k hk => State.order_cavernsStop hs (by have := mem_unitNumbers hk; omega))
  have hcalm := ((State.cavernsStop_calm (K := trainAlerts) hs).trans (State.unitsStop_calm _)).trans
    (State.trainsStop_calm _)
  have hplant := s.blocksStop_plant
  have hcm := s.cavernsStop_moved
  have hcav := fun j hj => State.cavern_cavernsStop (j := j) hs hj
  have hco := fun i hi => State.order_cavernsStop (i := i) hs hi
  have hcr := fun j hj => State.rate_cavernsStop (j := j) hs hj
  generalize s.cavernsStop = v at *
  have hum := v.unitsStop_moved
  have hunit := fun k hk => v.unit_unitsStop (k := k) hk
  have huo := fun i hi => State.order_unitsStop (i := i) hr1 hi
  have hul := fun k hk e he => State.load_unitsStop (k := k) (e := e) hr1 hk he
  generalize v.unitsStop = w at *
  have htm := w.trainsStop_moved
  have hto := w.trainsStop_only
  have htrain := fun n hn => w.train_trainsStop (n := n) hn
  generalize w.trainsStop = t at *
  have hrec : v.stoppedRecord = s.stoppedRecord := funext (State.stoppedRecord_congr hcm.smt)
  have hvu : ∀ k, v.unit k = s.unit k := State.unit_congr (by rw [hcm.cdu])
  have hwt : w.drc = s.drc := hum.drc.trans hcm.drc
  have hord : ∀ i, t.order i = w.order i := State.order_congr hto.ori
  refine ⟨hplant, hcalm.due, hcalm.alerts, by rw [hto.drc, hwt], fun j hj => ?_, fun k hk => ?_, fun n hn => ?_,
    fun i hi => ?_, fun j hj => ?_, fun k hk e he => ?_⟩
  · rw [State.cavern_congr (htm.cvc.trans hum.cvc)]
    exact hcav j hj
  · rw [State.unit_congr (s := w) (by rw [htm.cdu]), hunit k hk, hvu, hrec]
  · rw [htrain n hn, State.train_congr (s := s) (by rw [hwt])]
  · rw [hord, huo i (by omega), hco i (by omega)]
  · obtain ⟨h1, h8⟩ := mem_cavernNumbers hj
    have e := (hord (8 + j)).trans (huo (8 + j) (by omega))
    refine ⟨fun hf => ?_, fun hf => ?_⟩
    · rw [State.rateOrder_congr e, (hcr j hj).1 hf]
    · rw [e, (hcr j hj).2 hf]
  · obtain ⟨h1, h6⟩ := mem_unitNumbers hk
    have e' := hco (22 + k) (by omega)
    obtain ⟨hl, hn⟩ := hul k hk e (e'.trans he)
    rw [hvu, hrec] at hl hn
    refine ⟨fun u hu => ?_, fun hu => ?_⟩
    · rw [State.loadOrder_congr (hord _), hl u hu]
    · rw [hord, hn hu, e']

/-! ### The state that the safe orders leave -/

/-- The record of cavern `j` once its valve entry holds SHUT: the watch of an entry that changed restarts. -/
def State.watched (s : State) (j : Nat) (c : Cavern) : Cavern :=
  { c with disagreement := if s.valveOrder j = .shut then c.disagreement else 0 }

/-- `w` stands as the safe orders of `s` leave it: each valve entry SHUT and each run entry STOP at the present second,
the watch of a valve entry that changed restarted, and caverns, units, rates and loads otherwise as in `s`. -/
structure Poised (s w : State) : Prop where
  station : w.sts.state ≠ .running
  points : w.smt = s.smt
  cavern : ∀ j ∈ cavernNumbers, w.cavern j = (s.cavern j).map (s.watched j)
  unit : ∀ k, w.unit k = s.unit k
  valve : ∀ j ∈ cavernNumbers, ∃ u, w.order j = some ⟨.valve .shut, s.clk.stationSeconds, u⟩
  run : ∀ k ∈ unitNumbers, ∃ u, w.order (16 + k) = some ⟨.run .stop, s.clk.stationSeconds, u⟩
  others : ∀ i, (8 < i ∧ i ≤ 16) ∨ (22 < i ∧ i ≤ 28) → w.order i = s.order i

theorem Poised.shutDown {s w : State} (h : Poised s w) : w.shutDown := by
  refine ⟨h.station, fun j hj => ?_⟩
  obtain ⟨u, hu⟩ := h.valve j hj
  exact State.valveOrder_of_order hu

theorem Poised.runsDown {s w : State} (h : Poised s w) : w.runsDown := by
  refine ⟨h.station, fun k hk => ?_⟩
  obtain ⟨u, hu⟩ := h.run k hk
  exact ⟨_, hu, rfl⟩

theorem Poised.flows {s w : State} (h : Poised s w) {j : Nat} (hj : j ∈ cavernNumbers) : w.flows j ↔ s.flows j := by
  unfold State.flows
  rw [h.cavern j hj]
  cases s.cavern j <;> simp [State.watched]

theorem Poised.stoppedRecord {s w : State} (h : Poised s w) (k : Nat) : w.stoppedRecord k = s.stoppedRecord k :=
  State.stoppedRecord_congr h.points k

/-- Another step that touches neither valve, rate, run and load entries nor caverns, units and points. -/
theorem Poised.then {s w v : State} (h : Poised s w) (hs : v.sts = w.sts) (hp : v.smt = w.smt) (hc : v.cvc = w.cvc)
    (hu : v.cdu = w.cdu) (ho : ∀ i ≤ 28, v.order i = w.order i) : Poised s v where
  station := by rw [hs]; exact h.station
  points := hp.trans h.points
  cavern j hj := (State.cavern_congr hc j).trans (h.cavern j hj)
  unit k := (State.unit_congr (by rw [hu]) k).trans (h.unit k)
  valve j hj := by rw [ho j (by have := mem_cavernNumbers hj; omega)]; exact h.valve j hj
  run k hk := by rw [ho _ (by have := mem_unitNumbers hk; omega)]; exact h.run k hk
  others i hi := (ho i (by omega)).trans (h.others i hi)

theorem State.safeOrders_poised {s : State} (hs : s.sts.state ≠ .running) (ho : s.ori.length = 31) :
    Poised s s.safeOrders := by
  have hrest := s.safeOrders_rest
  have hcav := fun j hj => s.cavern_safeOrders (j := j) hj
  have hvalve := fun j hj => State.order_safeOrders_valve (j := j) ho hj
  have hrun := fun k hk => State.order_safeOrders_run (k := k) ho hk
  have hothers := fun i => s.order_safeOrders_of_ne (i := i)
  generalize s.safeOrders = w at *
  have hsts : w.sts = s.sts := congrArg (fun x => x.sts) hrest
  refine ⟨by rw [hsts]; exact hs, congrArg (fun x => x.smt) hrest, hcav,
    State.unit_congr (congrArg (fun x => x.cdu.units) hrest), hvalve, hrun, fun i hi => hothers i ?_ ?_ ?_⟩
  · exact fun hj => by have := mem_cavernNumbers hj; omega
  · exact fun k hk => by have := mem_unitNumbers hk; omega
  · exact fun n hn => by have := mem_trainNumbers hn; omega

/-! ### What the entry leaves of a cavern and of a unit -/

theorem Cavern.halted_of_flowing {c : Cavern} (h : c.state.flowing = true) : c.halted.setPoint = 0 ∧
    (if c.config.settleTime = 0 then c.halted.state = .idle ∧ c.halted.settle = none
     else c.halted.state = .settling ∧ c.halted.settle = some (c.config.settleTime * 60)) := by
  unfold Cavern.halted Cavern.stopped
  rw [if_pos h]
  split <;> simp_all

theorem Cavern.halted_parts (c : Cavern) : c.halted.config = c.config ∧ c.halted.lastDir = c.lastDir ∧
    c.halted.reversals = c.reversals ∧ c.halted.disagreement = c.disagreement := by
  unfold Cavern.halted Cavern.stopped
  repeat' split
  all_goals simp

theorem Cavern.halted_of_not_flowing {c : Cavern} (h : c.state.flowing = false) :
    c.halted = { c with capInject := 0, capWithdraw := 0, refInject := 0, refWithdraw := 0 } := by
  unfold Cavern.halted Cavern.stopped
  simp [h]

theorem stoppedCavern_of_halted {s w t : State} (hw : Poised s w) (ht : Halted w t) {j : Nat} (hj : j ∈ cavernNumbers)
    {c : Cavern} (hc : s.cavern j = some c) : stoppedCavern s t j c := by
  obtain ⟨h1, h8⟩ := mem_cavernNumbers hj
  have htc : t.cavern j = some (s.watched j c).halted := by rw [ht.cavern j hj, hw.cavern j hj, hc]; rfl
  obtain ⟨_, hv⟩ := hw.valve j hj
  have hord := (ht.order j (by omega)).trans hv
  have hfl : w.flows j ↔ c.state.flowing = true := by rw [hw.flows hj]; unfold State.flows; rw [hc]; simp
  obtain ⟨hr, hn⟩ := ht.rate j hj
  obtain ⟨hcfg, hdir, hrev, hdis⟩ := (s.watched j c).halted_parts
  refine ⟨fun hf => ?_, _, htc, rfl, rfl, rfl, rfl, hdis, fun hf => ⟨?_, ?_⟩⟩
  · obtain ⟨hset, hst⟩ := Cavern.halted_of_flowing (c := s.watched j c) hf
    exact ⟨_, htc, hcfg, hdir, hrev, hset, State.valveOrder_of_order hord, hr (hfl.mpr hf), hst⟩
  · rw [hdis, Cavern.halted_of_not_flowing (c := s.watched j c) hf]
    rfl
  · exact State.rateOrder_congr ((hn (by simp [hfl, hf])).trans (hw.others _ (by omega)))

theorem UnitState.engaged_iff (x : UnitState) : x.engaged = true ↔ x = .starting ∨ x = .running := by
  cases x <;> simp [UnitState.engaged]

/-- The record that the entry leaves of a unit, as the obligations write it. -/
theorem State.stoppedRecord_eq (s : State) (k : Nat) (u : Compressor) :
    s.stoppedRecord k u =
      if u.state ≠ .starting ∧ u.state ≠ .running then u
      else if s.showsStopped k = false then
        { u with load := 0, minRun := none, state := .stopping
                 timeout := if u.config.startTimeout = 0 then none else some u.config.startTimeout }
      else { u with load := 0, minRun := none, timeout := none
                    minStop := if u.config.minStop = 0 then none else some u.config.minStop
                    state := if u.config.minStop = 0 ∧ u.startList.length < u.config.startsPerHour then .ready
                             else .resting } := by
  unfold State.stoppedRecord
  by_cases he : u.state.engaged = true
  · have hn : ¬ (u.state ≠ .starting ∧ u.state ≠ .running) := by
      rintro ⟨h1, h2⟩
      exact (u.state.engaged_iff.mp he).elim h1 h2
    rw [if_pos he, if_neg hn]
    rfl
  · have hn : u.state ≠ .starting ∧ u.state ≠ .running :=
      not_or.mp (mt u.state.engaged_iff.mpr he)
    rw [if_neg he, if_pos hn]

theorem stoppedUnit_of_halted {s w t : State} (hw : Poised s w) (ht : Halted w t) (hlen : s.ori.length = 31) {k : Nat}
    (hk : k ∈ unitNumbers) {u : Compressor} (hu : s.unit k = some u) : stoppedUnit s t k u := by
  obtain ⟨h1, h6⟩ := mem_unitNumbers hk
  obtain ⟨e, he⟩ := State.order_mem hlen (i := 22 + k) (by omega) (by omega)
  obtain ⟨hl, _⟩ := ht.load k hk e ((hw.others _ (by omega)).trans he)
  have hwu := (hw.unit k).trans hu
  have hl' := hl u hwu
  have htu := ht.unit k hk
  rw [hwu, hw.stoppedRecord] at htu
  rw [hw.stoppedRecord] at hl'
  rw [Option.map_some, State.stoppedRecord_eq] at htu
  rw [State.stoppedRecord_eq] at hl'
  exact ⟨htu, hl'⟩

/-! ### PARK -/

/-- The stopped state `t` differs from `s` in the station's state and in what the blocks stop. -/
theorem PlantMoved.frame {s t : State} {st : Station} (h : PlantMoved { s with sts := st } t) :
    { t with sts := s.sts, plu := s.plu, cvc := s.cvc, cdu := s.cdu, drc := s.drc, ori := s.ori, als := s.als
             slk := { t.slk with tx := s.slk.tx } } = s :=
  congrArg (fun x : State => { x with sts := s.sts, plu := s.plu, cdu := s.cdu }) h.rest

theorem PlantMoved.planner {s t : State} (h : PlantMoved s t) (hd : t.plu.due = true) :
    t.plu = { s.plu with due := true } :=
  Planner.eq_of_due (congrArg (fun x => x.plu) h.rest) hd

/-- PARK in its parts: the safe orders, then the stop of each block. -/
theorem State.park_spec (s : State) (ho : s.ori.length = 31) : ∃ w, Poised s w ∧ Halted w s.park ∧ w.drc = s.drc ∧
    w.plu.due = true ∧ w.order 31 = s.order 31 ∧
    ∀ n ∈ trainNumbers, ∃ u, w.order (28 + n) =
      some ⟨.train .offline (s.trainOrder n).2.1 (s.trainOrder n).2.2, s.clk.stationSeconds, u⟩ := by
  have hp := State.safeOrders_poised (s := s.setStation .parked) nofun ho
  have hrest := (s.setStation .parked).safeOrders_rest
  have hiso := (s.setStation .parked).order_safeOrders_of_ne (i := 31) (by decide) (by decide) (by decide)
  have htr := fun n hn => State.order_safeOrders_train (s := s.setStation .parked) (n := n) ho hn
  have hpark : s.park = (s.setStation .parked).safeOrders.makePlanDue.cavernsStop.unitsStop.trainsStop := rfl
  rw [hpark]
  generalize (s.setStation .parked).safeOrders = v at *
  have hd : v.drc = s.drc := congrArg (fun x => x.drc) hrest
  have hw : Poised s v.makePlanDue := Poised.then ⟨hp.station, hp.points, hp.cavern, hp.unit, hp.valve, hp.run, hp.others⟩
    rfl rfl rfl rfl (fun _ _ => rfl)
  exact ⟨_, hw, State.blocksStop_halted hw.shutDown hw.runsDown, hd, rfl, hiso, htr⟩

theorem State.commandRefusal_park (s : State) :
    s.commandRefusal 1 = if s.sts.state = .running then none else some .wrongState := by
  unfold State.commandRefusal firstFailure
  cases h : s.sts.state <;> simp [State.isBlank, h]

/-- Settles O19: PARK is the safe orders and then the stop of each block. -/
theorem parkStopsTheStation : Obligations.ParkStopsTheStation := by
  intro tag s h hshape
  dsimp only
  have hkind : s.held ⟨tag, .stationCommand 1⟩ = false := s.held_of_kind rfl
  have hr : (s.withRx [⟨tag, .stationCommand 1⟩]).commandRefusal 1 = _ := s.commandRefusal_park
  have hlen := State.shaped_orders hshape
  split
  · next hb =>
    rw [if_pos hb] at hr
    have ha := State.answer_command hr
    obtain ⟨w, hw, ht, hdrc, hdue, hiso, htrain⟩ := (s.withRx [⟨tag, .stationCommand 1⟩]).park_spec hlen
    have hplant := (s.withRx [⟨tag, .stationCommand 1⟩]).park_plant
    have hrest := (s.withRx [⟨tag, .stationCommand 1⟩]).park_resting
    change _ = Answer.mk (s.withRx [⟨tag, .stationCommand 1⟩]).park .ok [] at ha
    generalize (s.withRx [⟨tag, .stationCommand 1⟩]).park = v at *
    have hrx : v.slk.rx = [⟨tag, .stationCommand 1⟩] := hplant.rx
    have hstops : ∀ j ∈ cavernNumbers, ∀ c, s.cavern j = some c → stoppedCavern s v j c :=
      fun j hj c hc => stoppedCavern_of_halted hw ht hj hc
    refine ⟨_, exec_answered_to (b := .stationCommand 1) rfl h hkind nofun rfl ha hrx, hplant.sts,
      hplant.planner (ht.due hdue), fun j hj => ?_, fun k hk => ?_, fun n hn => ?_, ?_, hrest.2.2, hstops,
      fun k hk u hu => stoppedUnit_of_halted hw ht hlen hk hu, hplant.required, fun n hn r hr => ?_, ?_, ?_⟩
    · obtain ⟨u, hu⟩ := hw.valve j hj
      exact ⟨u, (ht.order j (by have := mem_cavernNumbers hj; omega)).trans hu⟩
    · obtain ⟨u, hu⟩ := hw.run k hk
      exact ⟨u, (ht.order (16 + k) (by have := mem_unitNumbers hk; omega)).trans hu⟩
    · obtain ⟨u, hu⟩ := htrain n hn
      exact ⟨u, (ht.order (28 + n) (by have := mem_trainNumbers hn; omega)).trans hu⟩
    · exact (ht.order 31 (by omega)).trans hiso
    · refine (ht.train n hn).trans ?_
      rw [State.train_congr (s := s) (by rw [hdrc]; rfl), hr, Option.map_some]
    · obtain ⟨more, hm, _⟩ := hplant.sent
      exact ⟨more, congrArg (· ++ [_]) hm⟩
    · have hd : { v.drc with trains := s.drc.trains } = s.drc := by
        rw [ht.drc, hdrc]; rfl
      have e := congrArg (fun x : State => x.withRx []) hplant.frame
      refine Eq.trans ?_ (e.trans (State.withRx_self (State.receptive_parts h).2.1))
      exact congrArg (fun d => { (v.withRx []) with
        sts := s.sts, plu := s.plu, cvc := s.cvc, cdu := s.cdu, ori := s.ori, als := s.als, drc := d
        slk := { (v.withRx []).slk with tx := s.slk.tx } }) hd
  · next hb =>
    rw [if_neg hb] at hr
    exact exec_answered (b := .stationCommand 1) rfl h hkind nofun rfl (State.answer_command_refused hr)

end Sys2Proof.Machine
end

section
/-! What the heater does at an entry to TRIPPED and at its service (09 R150, R152), and the entry to TRIPPED put together
(01 R10). -/

open Sys2Proof Sys2Proof.Machine

namespace Sys2Proof.Machine

/-! ### A bed of a train begins or ends its regeneration -/

/-- The step of train `n` is written, and its condition and planning capacity are formed again. -/
def State.markStep (s : State) (n : Nat) (st : RegenStep) : State := (s.writeTrainStep n st).formTrain n

theorem State.markStep_drc (s : State) (n : Nat) (st : RegenStep) :
    (s.markStep n st).drc = { s.drc with trains := (s.markStep n st).drc.trains } := by
  have hw : (s.writeTrainStep n st).drc = s.drc := congrArg (fun x => x.drc) (s.writeTrainStep_ordered n st).rest
  have hf := (State.formTrain_only (s.writeTrainStep n st) n).drc
  rwa [hw] at hf

theorem State.train_markStep (s : State) (n : Nat) (st : RegenStep) :
    (s.markStep n st).train n = (s.train n).map Train.formed := by
  have hw := (s.writeTrainStep_ordered n st).train n
  unfold State.markStep
  cases h : s.train n with
  | none =>
    rw [h] at hw
    unfold State.formTrain
    simp only [hw, Option.map_none]
  | some r => exact State.train_formTrain (hw.trans h)

theorem State.train_markStep_of_ne (s : State) {m n : Nat} (st : RegenStep) (h : m ≠ n) :
    (s.markStep n st).train m = s.train m :=
  (State.train_formTrain_of_ne _ h).trans ((s.writeTrainStep_ordered n st).train m)

theorem State.order_markStep (s : State) (n : Nat) (st : RegenStep) (i : Nat) :
    (s.markStep n st).order i = (s.writeTrainStep n st).order i :=
  State.order_congr (State.formTrain_only _ n).ori i

theorem State.order_markStep_of_ne (s : State) {n i : Nat} (st : RegenStep) (h : i ≠ 28 + n) :
    (s.markStep n st).order i = s.order i :=
  (s.order_markStep n st i).trans (s.order_writeOrderIfNew_of_ne _ h)

theorem State.trainOrder_of_order {s : State} {n sec : Nat} {m : TrainMode} {line : Bed} {st : RegenStep} {u : Bool}
    (h : s.order (28 + n) = some ⟨.train m line st, sec, u⟩) : s.trainOrder n = (m, line, st) := by
  unfold State.trainOrder trainActuator
  rw [h]

/-- A step is written at the present second, or the entry holds it since. -/
theorem State.order_writeTrainStep {s : State} {n sec : Nat} {m : TrainMode} {line : Bed} {st : RegenStep} {u : Bool}
    (h : s.order (28 + n) = some ⟨.train m line st, sec, u⟩) (st' : RegenStep) :
    (s.writeTrainStep n st').order (28 + n) =
      if st = st' then some ⟨.train m line st, sec, u⟩
      else some ⟨.train m line st', s.clk.stationSeconds, decide (38 ≤ s.occupancy)⟩ := by
  unfold State.writeTrainStep
  rw [State.trainOrder_of_order h]
  dsimp only
  split
  · next e =>
    subst e
    rw [State.writeOrderIfNew_same (i := trainActuator n) h]
    exact h
  · next e =>
    rw [State.writeOrderIfNew_new (i := trainActuator n) h (by simpa using e)]
    exact State.order_writeOrder _ h

/-! ### An aborted heating (09 R152) -/

/-- The record of a train whose heating is aborted: the bed SPENT, the outcome kept. -/
def Train.aborted (r : Train) (bed : Bed) (volume : Nat) : Train :=
  { r.setBed bed { r.bed bed with state := .spent } with lastRegen := some ⟨bed, volume, .aborted⟩ }

theorem State.abortHeating_idle {s : State} (h : s.drc.heating = none) : s.abortHeating = s := by
  unfold State.abortHeating
  rw [h]

theorem State.abortHeating_eq {s : State} {n : Nat} {bed : Bed} (h : s.drc.heating = some (n, bed)) :
    s.abortHeating = (State.modTrain { s with drc := { s.drc with heating := none, heatingTimer := none, rate := 0
                                                                  queue := (n, bed) :: s.drc.queue } } n
      (fun r => r.aborted bed s.drc.volume)).markStep n .none := by
  unfold State.abortHeating
  rw [h]
  rfl

theorem State.train_modTrain (s : State) (n : Nat) (f : Train → Train) :
    (s.modTrain n f).train n = (s.train n).map f := by
  unfold State.modTrain
  cases h : s.train n with
  | none => simp [h]
  | some r => exact State.train_setTrain _ h

theorem State.train_modTrain_of_ne (s : State) {m n : Nat} (f : Train → Train) (h : m ≠ n) :
    (s.modTrain n f).train m = s.train m := by
  unfold State.modTrain
  split
  · exact s.train_setTrain_of_ne _ h
  · rfl

theorem State.modTrain_only (s : State) (n : Nat) (f : Train → Train) : TrainsOnly s (s.modTrain n f) := by
  unfold State.modTrain
  split
  · exact s.setTrain_only n _
  · exact .refl s

theorem State.modTrain_clk (s : State) (n : Nat) (f : Train → Train) : (s.modTrain n f).clk = s.clk :=
  congrArg (fun x => x.clk) (s.modTrain_only n f).rest

/-- An abort returns the bed to the head of the queue and frees the heater; the train's entry takes step NONE. -/
theorem State.abortHeating_spec {s : State} {n : Nat} {bed : Bed} (h : s.drc.heating = some (n, bed)) :
    s.abortHeating.drc = { s.drc with trains := s.abortHeating.drc.trains, heating := none, heatingTimer := none
                                      rate := 0, queue := (n, bed) :: s.drc.queue } ∧
    s.abortHeating.train n = (s.train n).map (fun r => (r.aborted bed s.drc.volume).formed) ∧
    (∀ m, m ≠ n → s.abortHeating.train m = s.train m) ∧
    (∀ i, i ≠ 28 + n → s.abortHeating.order i = s.order i) ∧
    (∀ m line st u, s.order (28 + n) = some ⟨.train m line st, s.clk.stationSeconds, u⟩ →
      ∃ u', s.abortHeating.order (28 + n) = some ⟨.train m line .none, s.clk.stationSeconds, u'⟩) := by
  rw [State.abortHeating_eq h]
  generalize hv : ({ s with drc := { s.drc with heating := none, heatingTimer := none, rate := 0
                                                queue := (n, bed) :: s.drc.queue } } : State) = v
  have hm := v.modTrain_only n (fun r => r.aborted bed s.drc.volume)
  have ht := v.train_modTrain n (fun r => r.aborted bed s.drc.volume)
  have htn := fun m => v.train_modTrain_of_ne (m := m) (n := n) (fun r => r.aborted bed s.drc.volume)
  have hclk := v.modTrain_clk n (fun r => r.aborted bed s.drc.volume)
  generalize v.modTrain n _ = w at *
  have hori : w.ori = s.ori := hm.ori.trans (by rw [← hv])
  have hvt : ∀ m, v.train m = s.train m := State.train_congr (by rw [← hv])
  refine ⟨?_, ?_, fun m hmn => ?_, fun i hi => ?_, fun m line st u hu => ?_⟩
  · rw [w.markStep_drc, hm.drc, ← hv]
  · rw [State.train_markStep, ht, hvt, Option.map_map]
    rfl
  · rw [State.train_markStep_of_ne _ _ hmn, htn m hmn, hvt]
  · rw [State.order_markStep_of_ne _ _ hi, State.order_congr hori]
  · have hwc : w.clk.stationSeconds = s.clk.stationSeconds := by rw [hclk, ← hv]
    rw [State.order_markStep, State.order_writeTrainStep ((State.order_congr hori _).trans hu), hwc]
    split
    · next e => subst e; exact ⟨_, rfl⟩
    · exact ⟨_, rfl⟩

/-! ### The entry to TRIPPED (01 R10) -/

/-- Train `n` has the bed that the heater heats. -/
def State.heats (s : State) (n : Nat) : Prop := s.drc.heating = some (n, .a) ∨ s.drc.heating = some (n, .b)

theorem State.heats_of_heating {s : State} {n : Nat} {bed : Bed} (h : s.drc.heating = some (n, bed)) : s.heats n := by
  cases bed
  · exact .inl h
  · exact .inr h

theorem State.heating_of_heats {s : State} {n : Nat} (h : s.heats n) : ∃ bed, s.drc.heating = some (n, bed) :=
  h.elim (fun h => ⟨_, h⟩) (fun h => ⟨_, h⟩)

/-- `w` stands as `s` does after the safe orders, ISOLATE, the abort of a heating and STATION_TRIP, before its blocks
stop. -/
structure Isolated (s w : State) : Prop where
  poised : Poised s w
  due : w.plu.due = true
  isolation : ∃ u, w.order 31 = some ⟨.isolation .isolate, s.clk.stationSeconds, u⟩
  trainOrders : ∀ n ∈ trainNumbers,
    (s.heats n → ∃ u, w.order (28 + n) =
      some ⟨.train .offline (s.trainOrder n).2.1 .none, s.clk.stationSeconds, u⟩) ∧
    (¬ s.heats n → ∃ u, w.order (28 + n) =
      some ⟨.train .offline (s.trainOrder n).2.1 (s.trainOrder n).2.2, s.clk.stationSeconds, u⟩)
  aborted : ∀ n bed, s.drc.heating = some (n, bed) →
    w.drc = { s.drc with trains := w.drc.trains, heating := none, heatingTimer := none, rate := 0
                         queue := (n, bed) :: s.drc.queue } ∧
    w.train n = (s.train n).map (fun r => (r.aborted bed s.drc.volume).formed)
  idle : s.drc.heating = none → w.drc = s.drc
  train : ∀ n, ¬ s.heats n → w.train n = s.train n
  alert : w.alert .stationTrip = (s.alert .stationTrip).raised 0 s.clk.stationSeconds
  alerts : ∀ b, b ≠ .stationTrip → b ∉ trainAlerts → w.alert b = s.alert b

/-- The orders, the abort and the alert of the entry, before its blocks stop. -/
def State.isolated (s : State) : State :=
  (((s.setStation .tripped).safeOrders.writeOrder isolationActuator (.isolation .isolate)).makePlanDue.abortHeating).raise
    .stationTrip 0

theorem State.tripEntry_eq (s : State) : s.tripEntry = s.isolated.cavernsStop.unitsStop.trainsStop := rfl

/-- The state of TRIPPED after its orders: the safe orders and ISOLATE, each at the present second. -/
structure TripOrdered (s w : State) : Prop where
  poised : Poised s w
  clk : w.clk = s.clk
  drc : w.drc = s.drc
  als : w.als = s.als
  due : w.plu.due = true
  isolation : ∃ u, w.order 31 = some ⟨.isolation .isolate, s.clk.stationSeconds, u⟩
  trains : ∀ n ∈ trainNumbers, ∃ u, w.order (28 + n) =
    some ⟨.train .offline (s.trainOrder n).2.1 (s.trainOrder n).2.2, s.clk.stationSeconds, u⟩

theorem State.tripOrders (s : State) (ho : s.ori.length = 31) : TripOrdered s
    ((s.setStation .tripped).safeOrders.writeOrder isolationActuator (.isolation .isolate)).makePlanDue := by
  have hp := State.safeOrders_poised (s := s.setStation .tripped) nofun ho
  have hrest := (s.setStation .tripped).safeOrders_rest
  have hlen : (s.setStation .tripped).safeOrders.ori.length = 31 :=
    (State.safeOrders_plant (s.setStation .tripped)).orders.trans ho
  have htr := fun n hn => State.order_safeOrders_train (s := s.setStation .tripped) (n := n) ho hn
  generalize (s.setStation .tripped).safeOrders = v at *
  have hclk : v.clk = s.clk := congrArg (fun x => x.clk) hrest
  have hdrc : v.drc = s.drc := congrArg (fun x => x.drc) hrest
  have hals : v.als = s.als := congrArg (fun x => x.als) hrest
  obtain ⟨e, he⟩ := State.order_mem hlen (i := isolationActuator) (by decide) (by decide)
  have hiso := State.order_writeOrder (.isolation .isolate) he
  have hne := fun i => v.order_writeOrder_of_ne (k := i) (i := isolationActuator) (.isolation .isolate)
  have hor := (v.writeOrder_ordered isolationActuator (.isolation .isolate)).rest
  generalize v.writeOrder isolationActuator (.isolation .isolate) = w at *
  have hwc : w.clk = v.clk := congrArg (fun x => x.clk) hor
  refine ⟨Poised.then (w := v) ⟨hp.station, hp.points, hp.cavern, hp.unit, hp.valve, hp.run, hp.others⟩
    (congrArg (fun x => x.sts) hor) (congrArg (fun x => x.smt) hor) (congrArg (fun x => x.cvc) hor)
    (congrArg (fun x => x.cdu) hor) (fun i hi => hne i (by rw [isolationActuator]; omega)),
    hwc.trans hclk, (congrArg (fun x => x.drc) hor).trans hdrc, (congrArg (fun x => x.als) hor).trans hals, rfl,
    ⟨_, hiso.trans (by rw [hclk])⟩, fun n hn => ?_⟩
  obtain ⟨u, hu⟩ := htr n hn
  exact ⟨u, (hne (28 + n) (by have := mem_trainNumbers hn; rw [isolationActuator]; omega)).trans hu⟩

/-- What is left of a heating, whether there was one or not. -/
theorem State.isolated_spec {s : State} (ho : s.ori.length = 31) (ha : s.als.length = 23)
    (hheat : ∀ n bed, s.drc.heating = some (n, bed) → n ∈ trainNumbers) : Isolated s s.isolated := by
  have hw := s.tripOrders ho
  unfold State.isolated
  generalize ((s.setStation .tripped).safeOrders.writeOrder isolationActuator (.isolation .isolate)).makePlanDue = w at *
  have hm := w.abortHeating_moved
  have hc := w.abortHeating_calm
  have hspec := fun n bed => State.abortHeating_spec (s := w) (n := n) (bed := bed)
  have hidle := State.abortHeating_idle (s := w)
  rw [hw.drc, hw.clk] at hspec
  rw [hw.drc] at hidle
  generalize w.abortHeating = v at *
  have hr := v.raise_reported .stationTrip 0
  have hrd : (v.raise .stationTrip 0).plu = v.plu := congrArg (fun x => x.plu) hr.rest
  have halert := fun b => v.alert_raise_of_ne (k := .stationTrip) (b := b) 0
  have hself := fun h => State.alert_raise (s := v) h (k := .stationTrip) (by decide) 0
  generalize v.raise .stationTrip 0 = t at *
  have hvt : ∀ n, t.train n = v.train n := State.train_congr (congrArg (fun x => x.drc.trains) hr.rest)
  have htd : t.drc = v.drc := congrArg (fun x => x.drc) hr.rest
  have hto : ∀ i, t.order i = v.order i := State.order_congr (congrArg (fun x => x.ori) hr.rest)
  have hwt : ∀ n, w.train n = s.train n := State.train_congr (by rw [hw.drc])
  have hclk : v.clk = s.clk := hm.plant.clk.trans hw.clk
  have hkeep : ∀ i, (∀ n bed, s.drc.heating = some (n, bed) → i ≠ 28 + n) → v.order i = w.order i := by
    intro i hi
    cases hh : s.drc.heating with
    | none => rw [hidle hh]
    | some x => exact (hspec x.1 x.2 hh).2.2.2.1 i (hi x.1 x.2 hh)
  have hnot : ∀ n, ¬ s.heats n → v.order (28 + n) = w.order (28 + n) ∧ v.train n = w.train n := by
    intro n hn
    cases hh : s.drc.heating with
    | none => rw [hidle hh]; exact ⟨rfl, rfl⟩
    | some x =>
      have hne : n ≠ x.1 := by rintro rfl; exact hn (State.heats_of_heating hh)
      obtain ⟨_, _, htr, hor, _⟩ := hspec x.1 x.2 hh
      exact ⟨hor _ (by omega), htr n hne⟩
  refine ⟨?_, ?_, ?_, fun n hn => ⟨fun hh => ?_, fun hh => ?_⟩, fun n bed hh => ⟨?_, ?_⟩, fun hh => ?_, fun n hh => ?_,
    ?_, fun b hb hb' => ?_⟩
  · refine hw.poised.then ((congrArg (fun x => x.sts) hr.rest).trans hm.plant.sts)
      ((congrArg (fun x => x.smt) hr.rest).trans hm.plant.smt) ((congrArg (fun x => x.cvc) hr.rest).trans hm.cvc)
      ((congrArg (fun x => x.cdu) hr.rest).trans hm.cdu) (fun i hi => (hto i).trans (hkeep i ?_))
    intro n bed hh
    have := mem_trainNumbers (hheat n bed hh)
    omega
  · rw [hrd]
    exact hc.due hw.due
  · rw [hto, hkeep 31 (fun n bed hh => by have := mem_trainNumbers (hheat n bed hh); omega)]
    exact hw.isolation
  · obtain ⟨bed, hb⟩ := State.heating_of_heats hh
    obtain ⟨u, hu⟩ := hw.trains n hn
    obtain ⟨_, _, _, _, hstep⟩ := hspec n bed hb
    rw [hto]
    exact hstep _ _ _ _ hu
  · obtain ⟨u, hu⟩ := hw.trains n hn
    exact ⟨u, (hto _).trans ((hnot n hh).1.trans hu)⟩
  · rw [htd]
    exact (hspec n bed hh).1
  · rw [hvt, (hspec n bed hh).2.1, hwt]
  · rw [htd, hidle hh, hw.drc]
  · rw [hvt, (hnot n hh).2, hwt]
  · rw [hself (hm.alerts.trans (by rw [hw.als]; exact ha)), hclk, hc.alerts .stationTrip (by decide),
      State.alert_congr hw.als]
  · rw [halert b hb (fun h => hb' (by rw [h]; decide)), hc.alerts b hb', State.alert_congr hw.als]

theorem Train.parked_not_online (r : Train) : r.parked.state ≠ .online := by
  unfold Train.parked
  split
  · rw [Train.formed_eq]
    nofun
  · assumption

/-- A cavern or a unit that is not configured keeps its entry. -/
theorem Halted.absent {s w t : State} (hw : Poised s w) (ht : Halted w t) (hlen : s.ori.length = 31) :
    (∀ j ∈ cavernNumbers, s.cavern j = none → t.cavern j = none ∧ t.order (8 + j) = s.order (8 + j)) ∧
    (∀ k ∈ unitNumbers, s.unit k = none → t.unit k = none ∧ t.order (22 + k) = s.order (22 + k)) := by
  refine ⟨fun j hj hc => ⟨?_, ?_⟩, fun k hk hu => ⟨?_, ?_⟩⟩
  · rw [ht.cavern j hj, hw.cavern j hj, hc]
    rfl
  · have hn : ¬ w.flows j := by
      rw [hw.flows hj]
      unfold State.flows
      simp [hc]
    exact ((ht.rate j hj).2 hn).trans (hw.others _ (by have := mem_cavernNumbers hj; omega))
  · rw [ht.unit k hk, hw.unit k, hu]
    rfl
  · obtain ⟨h1, h6⟩ := mem_unitNumbers hk
    have hoth := hw.others (22 + k) (by omega)
    obtain ⟨e, he⟩ := State.order_mem hlen (i := 22 + k) (by omega) (by omega)
    have hne := ((hw.unit k).trans hu)
    exact ((ht.load k hk e (hoth.trans he)).2 (fun u h => by rw [hne] at h; cases h)).trans hoth

/-- All that an entry to TRIPPED leaves, the transmit queue's length apart. -/
structure Tripped (s t : State) : Prop where
  plant : PlantMoved (s.setStation .tripped) t
  planner : t.plu = { s.plu with due := true }
  rest : t.resting
  isolated : ∃ w, Isolated s w ∧ Halted w t

theorem State.tripEntry_tripped {s : State} (ho : s.ori.length = 31) (ha : s.als.length = 23)
    (hheat : ∀ n bed, s.drc.heating = some (n, bed) → n ∈ trainNumbers) : Tripped s s.tripEntry := by
  have hw := State.isolated_spec ho ha hheat
  have hp := s.tripEntry_plant
  have hr := s.tripEntry_resting
  have ht : Halted s.isolated s.tripEntry := by
    rw [State.tripEntry_eq]
    exact State.blocksStop_halted hw.poised.shutDown hw.poised.runsDown
  generalize s.isolated = w at *
  generalize s.tripEntry = t at *
  exact ⟨hp, hp.planner (ht.due hw.due), hr, _, hw, ht⟩

theorem State.shaped_heating {s : State} (h : s.shaped = true) {n : Nat} {bed : Bed}
    (hh : s.drc.heating = some (n, bed)) : n ∈ trainNumbers := by
  simp only [State.shaped, Bool.and_eq_true] at h
  obtain ⟨⟨⟨_, hx⟩, _⟩, _⟩ := h
  rw [hh] at hx
  simpa using hx

/-- The middle of what the obligation says of the entry, for any state that agrees with the tripped one but for the
link. -/
structure TripFacts (s t : State) : Prop where
  pin : t.trippedPin = true
  valve : ∀ j ∈ cavernNumbers, ∃ u, t.order j = some ⟨.valve .shut, s.clk.stationSeconds, u⟩
  run : ∀ k ∈ unitNumbers, ∃ u, t.order (16 + k) = some ⟨.run .stop, s.clk.stationSeconds, u⟩
  trainOrders : ∀ n ∈ trainNumbers,
    (s.heats n → ∃ u, t.order (28 + n) =
      some ⟨.train .offline (s.trainOrder n).2.1 .none, s.clk.stationSeconds, u⟩) ∧
    (¬ s.heats n → ∃ u, t.order (28 + n) =
      some ⟨.train .offline (s.trainOrder n).2.1 (s.trainOrder n).2.2, s.clk.stationSeconds, u⟩)
  isolation : ∃ u, t.order 31 = some ⟨.isolation .isolate, s.clk.stationSeconds, u⟩
  aborted : ∀ n bed, s.drc.heating = some (n, bed) →
    t.drc = { s.drc with trains := t.drc.trains, heating := none, heatingTimer := none, rate := 0
                         queue := (n, bed) :: s.drc.queue } ∧
    ∀ r, s.train n = some r → t.train n = some (r.aborted bed s.drc.volume).formed.parked
  idle : s.drc.heating = none → t.drc = { s.drc with trains := t.drc.trains }
  train : ∀ n ∈ trainNumbers, ∀ r, s.train n = some r → ¬ s.heats n → t.train n = some r.parked
  alert : t.alert .stationTrip = (s.alert .stationTrip).raised 0 s.clk.stationSeconds
  alerts : ∀ b, b ∉ [AlertKind.stationTrip, .trainDerated, .trainBreakthrough, .reportsDropped] →
    t.alert b = s.alert b
  cavern : ∀ j ∈ cavernNumbers, ∀ x, s.cavern j = some x → stoppedCavern s t j x
  unit : ∀ k ∈ unitNumbers, ∀ u, s.unit k = some u → stoppedUnit s t k u
  noCavern : ∀ j ∈ cavernNumbers, s.cavern j = none → t.cavern j = none ∧ t.order (8 + j) = s.order (8 + j)
  noUnit : ∀ k ∈ unitNumbers, s.unit k = none → t.unit k = none ∧ t.order (22 + k) = s.order (22 + k)
  offline : ∀ n ∈ trainNumbers, ∀ r, t.train n = some r → r.state ≠ .online

theorem Tripped.facts {s t : State} (h : Tripped s t) (ho : s.ori.length = 31)
    (hheat : ∀ n bed, s.drc.heating = some (n, bed) → n ∈ trainNumbers) : TripFacts s t := by
  obtain ⟨hp, _, _, w, hw, ht⟩ := h
  have hto : ∀ i, i ≤ 8 ∨ (16 < i ∧ i ≤ 22) ∨ 28 < i → ∀ v, (∃ u, w.order i = some ⟨v, s.clk.stationSeconds, u⟩) →
      ∃ u, t.order i = some ⟨v, s.clk.stationSeconds, u⟩ :=
    fun i hi v ⟨u, hu⟩ => ⟨u, (ht.order i hi).trans hu⟩
  obtain ⟨hnc, hnu⟩ := Halted.absent hw.poised ht ho
  refine ⟨?_, fun j hj => ?_, fun k hk => ?_, fun n hn => ⟨fun hh => ?_, fun hh => ?_⟩, ?_, fun n bed hh => ⟨?_, fun r hr => ?_⟩,
    fun hh => ?_, fun n hn r hr hh => ?_, ?_, fun b hb => ?_, fun j hj x hx => ?_, fun k hk u hu => ?_, hnc, hnu,
    fun n hn r hr => ?_⟩
  · unfold State.trippedPin
    rw [hp.sts]
    rfl
  · exact hto j (by have := mem_cavernNumbers hj; omega) _ (hw.poised.valve j hj)
  · exact hto (16 + k) (by have := mem_unitNumbers hk; omega) _ (hw.poised.run k hk)
  · exact hto (28 + n) (by have := mem_trainNumbers hn; omega) _ ((hw.trainOrders n hn).1 hh)
  · exact hto (28 + n) (by have := mem_trainNumbers hn; omega) _ ((hw.trainOrders n hn).2 hh)
  · exact hto 31 (by omega) _ hw.isolation
  · rw [ht.drc, (hw.aborted n bed hh).1]
  · rw [ht.train n (hheat n bed hh), (hw.aborted n bed hh).2, hr]
    rfl
  · rw [ht.drc, hw.idle hh]
  · rw [ht.train n hn, hw.train n hh, hr, Option.map_some]
  · rw [ht.alerts _ (by decide), hw.alert]
  · simp only [List.mem_cons, List.not_mem_nil, or_false, not_or] at hb
    obtain ⟨h1, h2, h3, h4⟩ := hb
    have hb' : b ∉ trainAlerts := by simp [trainAlerts, h2, h3, h4]
    rw [ht.alerts b hb', hw.alerts b h1 hb']
  · exact stoppedCavern_of_halted hw.poised ht hj hx
  · exact stoppedUnit_of_halted hw.poised ht ho hk hu
  · rw [ht.train n hn] at hr
    obtain ⟨x, _, rfl⟩ := Option.map_eq_some_iff.mp hr
    exact x.parked_not_online

/-- Settles O16: the entry by the pin and by the command is `State.tripEntry`, whose parts `TripFacts` names. -/
theorem tripEntryMakesTheStationSafe : Obligations.TripEntryMakesTheStationSafe := by
  intro c s hshape _ hst hc
  dsimp only
  have hlen := State.shaped_orders hshape
  have hals := (State.shaped_parts hshape).2.1
  have hheat := fun n bed hh => State.shaped_heating (n := n) (bed := bed) hshape hh
  obtain ⟨rfl, hq, hpin⟩ | ⟨tag, rfl, hrec⟩ := hc
  · generalize hs : ({ s with sts := { s.sts with tripActive := true } } : State) = s'
    have hasserted : s'.tripAsserted = s'.tripEntry := by
      unfold State.tripAsserted
      rw [← hs]
      obtain h | h := hst <;> rw [h]
    have hexec : exec .tripNAssertion s = .next s'.tripEntry := by
      refine congrArg Host.Outcome.next ((external_of_quiet hq _).trans ?_)
      simp only [hpin, Bool.false_eq_true, if_false]
      rw [hs, hasserted]
    subst hs
    have ht := State.tripEntry_tripped (s := { s with sts := { s.sts with tripActive := true } }) hlen hals hheat
    generalize State.tripEntry _ = t at *
    have hf := ht.facts hlen hheat
    obtain ⟨more, hm, _⟩ := ht.plant.sent
    refine ⟨t, hexec, ht.plant.sts.trans (by simp), hf.pin, hf.valve, hf.run, hf.trainOrders, hf.isolation, ht.planner,
      hf.aborted, hf.idle, hf.train, hf.alert, hf.alerts, ht.rest.2.2, hf.cavern, hf.unit, hf.noCavern, hf.noUnit,
      ht.plant.required, hf.offline, ⟨more, hm⟩, nofun, ?_⟩
    exact congrArg (fun x : State => { x with sts := s.sts }) ht.plant.frame
  · have hkind : s.held ⟨tag, .stationCommand 2⟩ = false := s.held_of_kind rfl
    have hr : (s.withRx [⟨tag, .stationCommand 2⟩]).commandRefusal 2 = none :=
      State.commandRefusal_trip (s := s.withRx [⟨tag, .stationCommand 2⟩])
        (by obtain h | h := hst <;> (intro e; exact absurd (h.symm.trans e) nofun))
    have hasserted : (s.withRx [⟨tag, .stationCommand 2⟩]).tripAsserted =
        (s.withRx [⟨tag, .stationCommand 2⟩]).tripEntry := by
      unfold State.tripAsserted
      have e : (s.withRx [⟨tag, .stationCommand 2⟩]).sts = s.sts := rfl
      rw [e]
      obtain h | h := hst <;> rw [h]
    have ha := State.answer_command hr
    change _ = Answer.mk (s.withRx [⟨tag, .stationCommand 2⟩]).tripAsserted .ok [] at ha
    rw [hasserted] at ha
    have ht := State.tripEntry_tripped (s := s.withRx [⟨tag, .stationCommand 2⟩]) hlen hals hheat
    generalize State.tripEntry _ = t at *
    have hf := ht.facts hlen hheat
    have hrx : t.slk.rx = [⟨tag, .stationCommand 2⟩] := ht.plant.rx
    obtain ⟨more, hm, _⟩ := ht.plant.sent
    refine ⟨_, exec_answered_to (b := .stationCommand 2) rfl hrec hkind nofun rfl ha hrx,
      ht.plant.sts.trans (by simp [State.withRx]), hf.pin, hf.valve, hf.run, hf.trainOrders, hf.isolation, ht.planner,
      hf.aborted, hf.idle, hf.train, hf.alert, hf.alerts, ht.rest.2.2, hf.cavern, hf.unit, hf.noCavern, hf.noUnit,
      ht.plant.required, hf.offline, ⟨more ++ [⟨0x42, tag, [.u8 0]⟩], ?_⟩, fun tag' htag => ⟨more, ?_⟩, ?_⟩
    · exact (congrArg (· ++ [_]) hm).trans (List.append_assoc _ _ _)
    · cases htag
      exact congrArg (· ++ [_]) hm
    · have e := congrArg (fun x : State => x.withRx []) ht.plant.frame
      exact e.trans (State.withRx_self (State.receptive_parts hrec).2.1)

end Sys2Proof.Machine
end

section
/-! The entry to PARKED from TRIPPED: nothing is left to stop, and the heater serves its queue: RESUME (01 R11, R12; 09
R150). -/

open Sys2Proof Sys2Proof.Machine

namespace Sys2Proof.Machine

/-! ### The kinds of the order entries (11 R176) -/

theorem nth_map {α β : Type} (f : α → β) (l : List α) (n : Nat) : nth (l.map f) n = (nth l n).map f := by
  cases n <;> simp

theorem State.order_shape {s : State} (h : s.shaped = true) {i : Nat} {e : OrderEntry} (he : s.order i = some e) :
    nth orderShapes i = some e.value.shape := by
  rw [← (State.shaped_parts h).2.2, nth_map]
  exact congrArg (Option.map (fun e : OrderEntry => e.value.shape)) he

theorem State.run_of_shaped {s : State} (h : s.shaped = true) {k : Nat} (hk : k ∈ unitNumbers) :
    ∃ r sec u, s.order (16 + k) = some ⟨.run r, sec, u⟩ := by
  obtain ⟨h1, h6⟩ := mem_unitNumbers hk
  obtain ⟨⟨v, sec, u⟩, he⟩ := State.order_mem (State.shaped_orders h) (i := 16 + k) (by omega) (by omega)
  have hs : nth orderShapes (16 + k) = some 2 := (by decide : ∀ k ∈ unitNumbers, nth orderShapes (16 + k) = some 2) k hk
  have hv := (State.order_shape h he).symm.trans hs
  cases v with
  | run r => exact ⟨r, sec, u, he⟩
  | _ => simp [OrderValue.shape] at hv

theorem State.load_of_shaped {s : State} (h : s.shaped = true) {k : Nat} (hk : k ∈ unitNumbers) :
    ∃ n sec u, s.order (22 + k) = some ⟨.load n, sec, u⟩ := by
  obtain ⟨h1, h6⟩ := mem_unitNumbers hk
  obtain ⟨⟨v, sec, u⟩, he⟩ := State.order_mem (State.shaped_orders h) (i := 22 + k) (by omega) (by omega)
  have hs : nth orderShapes (22 + k) = some 3 := (by decide : ∀ k ∈ unitNumbers, nth orderShapes (22 + k) = some 3) k hk
  have hv := (State.order_shape h he).symm.trans hs
  cases v with
  | load n => exact ⟨n, sec, u, he⟩
  | _ => simp [OrderValue.shape] at hv

/-- Safe orders in an image of the right shape are STOP in every run entry. -/
theorem State.resting_runsDown {s : State} (h : s.shaped = true) (hr : s.resting) : s.runsDown := by
  obtain ⟨hs, ho, _⟩ := hr
  refine ⟨hs, fun k hk => ?_⟩
  obtain ⟨r, sec, u, he⟩ := State.run_of_shaped h hk
  have hk' := (s.ordersSafe_iff.mp ho).2 k hk
  unfold State.runOrder runActuator at hk'
  rw [he] at hk'
  exact ⟨_, he, congrArg OrderValue.run hk'⟩

theorem State.resting_shutDown {s : State} (hr : s.resting) : s.shutDown :=
  ⟨hr.1, (s.ordersSafe_iff.mp hr.2.1).1⟩

/-! ### A stop that finds nothing to stop -/

theorem State.stopEngaged_of_not_runs {s : State} {k : Nat} (h : ¬ s.runs k) : s.stopEngaged k = s := by
  unfold State.stopEngaged
  split
  · next u hu => rw [if_neg (fun he => h ⟨u, hu, he⟩)]
  · rfl

theorem State.unitsStop_cdu {s : State} (h : ∀ k ∈ unitNumbers, ¬ s.runs k) : s.unitsStop.cdu = s.cdu := by
  have e : s.forEach unitNumbers State.stopEngaged = s :=
    State.forEach_induct (P := fun u => u = s) rfl (fun u k hk hu => by
      rw [hu]; exact State.stopEngaged_of_not_runs (h k hk))
  unfold State.unitsStop
  rw [e]
  have hr := s.writeUnitOrders_ordered.rest
  generalize s.writeUnitOrders = v at *
  exact congrArg (fun x => x.cdu) hr

theorem State.runs_congr {s t : State} (h : t.cdu = s.cdu) (k : Nat) : t.runs k ↔ s.runs k := by
  unfold State.runs
  rw [State.unit_congr (s := s) (by rw [h])]

theorem State.blocksStop_cdu {s : State} (h : ∀ k ∈ unitNumbers, ¬ s.runs k) :
    s.cavernsStop.unitsStop.trainsStop.cdu = s.cdu := by
  have hc := s.cavernsStop_moved.cdu
  generalize s.cavernsStop = v at *
  have hu : v.unitsStop.cdu = v.cdu := State.unitsStop_cdu (fun k hk => mt (State.runs_congr hc k).mp (h k hk))
  generalize v.unitsStop = w at *
  exact w.trainsStop_moved.cdu.trans (hu.trans hc)

/-- A configured train is one of the two. -/
theorem State.train_number {s : State} (h : s.drc.trains.length = 2) {n : Nat} {r : Train} (hr : s.train n = some r) :
    n ∈ trainNumbers := by
  have := nth_isSome.mp (Option.isSome_of_eq_some (Option.join_eq_some_iff.mp hr))
  obtain rfl | rfl : n = 1 ∨ n = 2 := by omega
  · decide
  · decide

/-! ### The heater serves its queue (09 R150) -/

theorem Train.parked_config (r : Train) : r.parked.config = r.config := by
  unfold Train.parked
  split
  · rw [Train.formed_config]
  · rfl

theorem Train.parked_bed (r : Train) (bed : Bed) : r.parked.bed bed = r.bed bed := by
  unfold Train.parked
  split
  · rw [Train.formed_eq]
    cases bed <;> rfl
  · rfl

theorem State.trainOrder_writeTrainStep {s : State} {n : Nat} {e : OrderEntry} (h : s.order (28 + n) = some e)
    (st : RegenStep) : (s.writeTrainStep n st).trainOrder n = ((s.trainOrder n).1, (s.trainOrder n).2.1, st) := by
  obtain ⟨⟨v, sec, u⟩, hx, hv⟩ := State.value_writeOrderIfNew (i := trainActuator n) h
    (.train (s.trainOrder n).1 (s.trainOrder n).2.1 st)
  cases hv
  exact State.trainOrder_of_order (s := s.writeTrainStep n st) hx

/-- The record of a train whose bed begins HEATING. -/
def Train.heated (r : Train) (bed : Bed) : Train := r.setBed bed { r.bed bed with state := .heating }

/-- The heater's state once it heats `bed` of train `n`, whose record is `r`. -/
def Drying.heat (d : Drying) (n : Nat) (bed : Bed) (rest : List (Nat × Bed)) (r : Train) : Drying :=
  { d with queue := rest, heating := some (n, bed), heatingTimer := some (r.config.heatingTime * 60)
           rate := r.config.regenRate, volume := 0 }

/-- A free heater outside TRIPPED takes the head of its queue, a bed of a configured train. -/
structure State.Serves (s : State) (n : Nat) (bed : Bed) (rest : List (Nat × Bed)) (r : Train) : Prop where
  queue : s.drc.queue = (n, bed) :: rest
  free : s.drc.heating = none
  station : s.sts.state ≠ .tripped
  train : s.train n = some r

/-- The state in which the heater has taken the bed. -/
def State.heat (s : State) (n : Nat) (bed : Bed) (rest : List (Nat × Bed)) (r : Train) : State :=
  State.setTrain { s with drc := s.drc.heat n bed rest r } n (some (r.heated bed))

theorem State.Serves.eq {s : State} {n : Nat} {bed : Bed} {rest : List (Nat × Bed)} {r : Train}
    (h : s.Serves n bed rest r) : s.serveHeater = (s.heat n bed rest r).markStep n (.heat bed) := by
  unfold State.serveHeater
  rw [h.queue]
  dsimp only
  rw [if_pos ⟨by rw [h.free]; rfl, h.station⟩, h.train]
  rfl

theorem State.serveHeater_cases (s : State) :
    s.serveHeater = s ∨ ∃ n bed rest r, s.Serves n bed rest r := by
  unfold State.serveHeater
  split
  · exact .inl rfl
  · next n bed rest hq =>
    split
    · next hc =>
      cases hr : s.train n with
      | none => exact .inl rfl
      | some r => exact .inr ⟨n, bed, rest, r, hq, Option.isNone_iff_eq_none.mp hc.1, hc.2, hr⟩
    · exact .inl rfl

theorem State.serveHeater_of_idle {s : State} (h : s.drc.queue = [] ∨ s.drc.heating ≠ none) : s.serveHeater = s := by
  unfold State.serveHeater
  split
  · rfl
  · next hq =>
    obtain h | h := h
    · rw [h] at hq
      cases hq
    · rw [if_neg (fun hc => h (Option.isNone_iff_eq_none.mp hc.1))]

/-- What a service leaves of the heater, the trains and the orders. -/
theorem State.Serves.spec {s : State} {n : Nat} {bed : Bed} {rest : List (Nat × Bed)} {r : Train}
    (h : s.Serves n bed rest r) :
    s.serveHeater.drc = { s.drc.heat n bed rest r with trains := s.serveHeater.drc.trains } ∧
    s.serveHeater.train n = some (r.heated bed).formed ∧
    (∀ m, m ≠ n → s.serveHeater.train m = s.train m) ∧
    (∀ i, i ≠ 28 + n → s.serveHeater.order i = s.order i) ∧
    s.serveHeater.order (28 + n) = ((s.heat n bed rest r).writeTrainStep n (.heat bed)).order (28 + n) := by
  rw [h.eq]
  have hd : (s.heat n bed rest r).drc = { s.drc.heat n bed rest r with trains := (s.heat n bed rest r).drc.trains } := rfl
  have ht : (s.heat n bed rest r).train n = some (r.heated bed) :=
    State.train_setTrain (s := { s with drc := s.drc.heat n bed rest r }) _ h.train
  have hn : ∀ m, m ≠ n → (s.heat n bed rest r).train m = s.train m := fun m hm =>
    State.train_setTrain_of_ne { s with drc := s.drc.heat n bed rest r } _ hm
  have ho : ∀ i, (s.heat n bed rest r).order i = s.order i := fun i => rfl
  generalize s.heat n bed rest r = v at *
  refine ⟨?_, ?_, fun m hm => ?_, fun i hi => ?_, v.order_markStep n _ _⟩
  · rw [v.markStep_drc, hd]
  · rw [v.train_markStep, ht, Option.map_some]
  · rw [v.train_markStep_of_ne _ hm, hn m hm]
  · rw [v.order_markStep_of_ne _ hi, ho]

/-- A service touches the train at the head of the queue alone. -/
theorem State.serveHeater_of_head {s : State} {n : Nat} (h : ∀ bed, s.drc.queue.head? ≠ some (n, bed)) :
    s.serveHeater.train n = s.train n ∧ s.serveHeater.order (28 + n) = s.order (28 + n) := by
  obtain e | ⟨m, bed, rest, r, hs⟩ := s.serveHeater_cases
  · rw [e]
    exact ⟨rfl, rfl⟩
  · have hne : n ≠ m := by
      rintro rfl
      exact h bed (by rw [hs.queue]; rfl)
    obtain ⟨_, _, htr, hor, _⟩ := hs.spec
    exact ⟨htr n hne, hor _ (by omega)⟩

/-- A service touches entries of configured trains alone, and of these the step alone. -/
theorem State.order_serveHeater {s : State} (ho : s.ori.length = 31) (ht : s.drc.trains.length = 2) :
    (∀ i, i ≤ 28 ∨ i = 31 → s.serveHeater.order i = s.order i) ∧
    ∀ n ∈ trainNumbers, (s.serveHeater.trainOrder n).1 = (s.trainOrder n).1 := by
  obtain e | ⟨m, bed, rest, r, hs⟩ := s.serveHeater_cases
  · rw [e]
    exact ⟨fun _ _ => rfl, fun _ _ => rfl⟩
  · have hm : m ∈ trainNumbers := State.train_number ht hs.train
    have hb := mem_trainNumbers hm
    obtain ⟨_, _, _, hor, hst⟩ := hs.spec
    refine ⟨fun i hi => hor i (by omega), fun n hn => ?_⟩
    by_cases hne : n = m
    · subst hne
      obtain ⟨e, he⟩ := State.order_mem ho (i := 28 + n) (by omega) (by omega)
      rw [State.trainOrder_congr hst, State.trainOrder_writeTrainStep (s := s.heat n bed rest r) he]
      rfl
    · rw [State.trainOrder_congr (hor (28 + n) (by omega))]

/-! ### RESUME -/

theorem State.commandRefusal_resume_eq (s : State) : s.commandRefusal 3 =
    if s.sts.state = .tripped ∧ s.sts.tripActive = false then none else some .wrongState := by
  unfold State.commandRefusal firstFailure
  cases h : s.sts.state <;> cases s.sts.tripActive <;> simp [State.isBlank, h]

theorem State.command_three (s : State) : s.command 3 = s.resume := by
  unfold State.command
  rw [if_neg (by decide), if_neg (by decide), if_neg (by decide)]

/-- RESUME stops blocks that stand already, and then the heater serves its queue. -/
theorem State.resume_spec {s : State} (h : s.shaped = true) (hr : s.resting) :
    ∃ w, s.resume = w.serveHeater ∧ w.cdu = s.cdu ∧ Halted (s.setStation .parked).makePlanDue w := by
  have hx : (s.setStation .parked).makePlanDue.runsDown := ⟨nofun, (State.resting_runsDown h hr).2⟩
  have hx' : (s.setStation .parked).makePlanDue.shutDown := ⟨nofun, (State.resting_shutDown hr).2⟩
  have hn := (s.atRest_iff_not.mp hr.2.2).2
  exact ⟨_, rfl, State.blocksStop_cdu (s := (s.setStation .parked).makePlanDue) hn, State.blocksStop_halted hx' hx⟩

/-- The entries, the caverns and the units once the station has gone from TRIPPED to PARKED, before the heater serves. -/
structure Resumed (s w : State) : Prop where
  order : ∀ i, i ≤ 22 ∨ 28 < i → w.order i = s.order i
  load : ∀ k ∈ unitNumbers, ∀ u, s.unit k = some u → w.loadOrder k = u.load
  loadEntry : ∀ k ∈ unitNumbers, (∀ u, s.unit k = some u → u.load = s.loadOrder k) →
    w.order (22 + k) = s.order (22 + k)
  cavern : ∀ j ∈ cavernNumbers, w.cavern j = (s.cavern j).map (fun c =>
    { c with capInject := 0, capWithdraw := 0, refInject := 0, refWithdraw := 0 })
  train : ∀ n ∈ trainNumbers, w.train n = (s.train n).map Train.parked
  drc : w.drc = { s.drc with trains := w.drc.trains }

theorem Halted.resumed {s w : State} (h : s.shaped = true) (hr : s.resting)
    (hw : Halted (s.setStation .parked).makePlanDue w) : Resumed s w := by
  obtain ⟨hnf, hnr⟩ := s.atRest_iff_not.mp hr.2.2
  have hrec : ∀ k ∈ unitNumbers, ∀ u, s.unit k = some u →
      (s.setStation .parked).makePlanDue.stoppedRecord k u = u := by
    intro k hk u hu
    unfold State.stoppedRecord
    exact if_neg (fun he => hnr k hk ⟨u, hu, he⟩)
  refine ⟨fun i hi => ?_, fun k hk u hu => ?_, fun k hk hu => ?_, fun j hj => ?_, hw.train, hw.drc⟩
  · by_cases hrate : 8 < i ∧ i ≤ 16
    · obtain ⟨j, rfl⟩ : ∃ j, i = 8 + j := ⟨i - 8, by omega⟩
      have hj : j ∈ cavernNumbers := by
        simp only [cavernNumbers, List.mem_cons, List.not_mem_nil, or_false]
        omega
      exact (hw.rate j hj).2 (hnf j hj)
    · exact hw.order i (by omega)
  · obtain ⟨n, sec, b, he⟩ := State.load_of_shaped h hk
    rw [((hw.load k hk _ he).1 u hu), hrec k hk u hu]
  · obtain ⟨n, sec, b, he⟩ := State.load_of_shaped h hk
    refine (hw.load k hk _ he).2 (fun u hu' => ?_)
    have hl : s.loadOrder k = n := by
      unfold State.loadOrder loadActuator
      rw [he]
    rw [hrec k hk u hu', hu u hu', hl]
  · rw [hw.cavern j hj]
    have e : (s.setStation .parked).makePlanDue.cavern j = s.cavern j := rfl
    rw [e]
    cases hc : s.cavern j with
    | none => rfl
    | some c =>
      have hf : c.state.flowing = false := Bool.eq_false_iff.mpr (fun hf => hnf j hj ⟨c, hc, hf⟩)
      rw [Option.map_some, Option.map_some, Cavern.halted_of_not_flowing hf]

theorem State.shaped_trains {s : State} (h : s.shaped = true) : s.drc.trains.length = 2 := by
  simp only [State.shaped, Bool.and_eq_true, beq_iff_eq] at h
  obtain ⟨⟨⟨⟨⟨⟨_, ht⟩, _⟩, _⟩, _⟩, _⟩, _⟩ := h
  exact ht

/-- Settles O20: nothing is left to stop, and the heater takes the head of its queue. -/
theorem resumeParksATrippedStation : Obligations.ResumeParksATrippedStation := by
  intro tag s h hshape hlaw
  have hkind : s.held ⟨tag, .stationCommand 3⟩ = false := s.held_of_kind rfl
  have hr : (s.withRx [⟨tag, .stationCommand 3⟩]).commandRefusal 3 = _ := s.commandRefusal_resume_eq
  split
  · next hb =>
    dsimp only
    rw [if_pos hb] at hr
    have ha := State.answer_command hr
    have hrest : s.resting := State.resting_of_law hlaw (by rw [hb.1]; nofun)
    have hsh : (s.withRx [⟨tag, .stationCommand 3⟩]).shaped = true := hshape
    have hre : (s.withRx [⟨tag, .stationCommand 3⟩]).resting := hrest
    obtain ⟨w, e, hcdu, hw⟩ := State.resume_spec hsh hre
    have hres := Halted.resumed hsh hre hw
    have hplant := (s.withRx [⟨tag, .stationCommand 3⟩]).resume_plant
    rw [State.command_three] at ha
    have hmoved := w.serveHeater_moved
    have hdue := (w.serveHeater_calm).due (hw.due rfl)
    have hlen : w.ori.length = 31 := hw.plant.orders.trans (State.shaped_orders hshape)
    have htr : w.drc.trains.length = 2 := hw.plant.trains.trans (State.shaped_trains hshape)
    obtain ⟨hord, hmode⟩ := State.order_serveHeater hlen htr
    have hidle := State.serveHeater_of_idle (s := w)
    have hhead := fun n => State.serveHeater_of_head (s := w) (n := n)
    have hserve := fun n bed rest r => State.Serves.spec (s := w) (n := n) (bed := bed) (rest := rest) (r := r)
    have hwsts : w.sts.state = .parked := congrArg (fun x => x.state) hw.plant.sts
    rw [e] at ha hplant
    generalize w.serveHeater = v at *
    have hrx : v.slk.rx = [⟨tag, .stationCommand 3⟩] := hplant.rx
    have hq : w.drc.queue = s.drc.queue := by rw [hres.drc]; rfl
    have hhe : w.drc.heating = s.drc.heating := by rw [hres.drc]; rfl
    rw [hq, hhe] at hidle
    have hsame : ∀ n ∈ trainNumbers,
        (∀ bed, s.drc.queue.head? ≠ some (n, bed)) ∨ (s.drc.queue = [] ∨ s.drc.heating ≠ none) →
        v.train n = w.train n ∧ v.order (28 + n) = w.order (28 + n) := by
      intro n hn hcase
      obtain hh | hi := hcase
      · exact hhead n (by rw [hq]; exact hh)
      · rw [hidle hi]
        exact ⟨rfl, rfl⟩
    have hserves : ∀ n bed rest r, s.drc.queue = (n, bed) :: rest → s.drc.heating = none → s.train n = some r →
        n ∈ trainNumbers ∧ w.Serves n bed rest r.parked := by
      intro n bed rest r hqueue hfree hrn
      have hn := State.train_number (State.shaped_trains hshape) hrn
      refine ⟨hn, hq.trans hqueue, hhe.trans hfree, by rw [hwsts]; nofun, (hres.train n hn).trans ?_⟩
      exact congrArg (Option.map Train.parked) hrn
    refine ⟨_, exec_answered_to (b := .stationCommand 3) rfl h hkind nofun rfl ha hrx, hplant.sts, ?_,
      hplant.planner hdue, fun i hi => ?_, fun k hk u hu => ?_, fun k hk hu => ?_, fun j hj => ?_, ?_, fun n hn => ?_,
      fun n hn hcase => ⟨?_, ?_⟩, fun hi => ?_, fun n bed rest r hqueue hfree hrn => ⟨?_, ?_, ?_⟩, ?_, ?_⟩
    · unfold State.trippedPin
      exact congrArg (fun x : Station => x.state == .tripped) hplant.sts
    · exact (hord i (by omega)).trans (hres.order i (by omega))
    · exact (State.loadOrder_congr (hord (22 + k) (by have := mem_unitNumbers hk; omega))).trans (hres.load k hk u hu)
    · exact (hord (22 + k) (by have := mem_unitNumbers hk; omega)).trans (hres.loadEntry k hk hu)
    · exact (State.cavern_congr hmoved.cvc j).trans (hres.cavern j hj)
    · exact hmoved.cdu.trans hcdu
    · exact (hmode n hn).trans (by
        rw [State.trainOrder_congr (hres.order (28 + n) (by have := mem_trainNumbers hn; omega))]; rfl)
    · exact (hsame n hn hcase).2.trans (hres.order (28 + n) (by have := mem_trainNumbers hn; omega))
    · exact (hsame n hn hcase).1.trans (hres.train n hn)
    · rw [hidle hi]
      exact hres.drc
    · obtain ⟨_, hs⟩ := hserves n bed rest r hqueue hfree hrn
      obtain ⟨hd, _⟩ := hserve n bed rest r.parked hs
      refine hd.trans ?_
      rw [hres.drc, ← r.parked_config]
      rfl
    · obtain ⟨_, hs⟩ := hserves n bed rest r hqueue hfree hrn
      obtain ⟨_, ht, _⟩ := hserve n bed rest r.parked hs
      refine ht.trans ?_
      rw [Train.heated, Train.parked_bed]
    · obtain ⟨hn, hs⟩ := hserves n bed rest r hqueue hfree hrn
      obtain ⟨_, _, _, _, hst⟩ := hserve n bed rest r.parked hs
      have hb := mem_trainNumbers hn
      obtain ⟨x, hx⟩ := State.order_mem hlen (i := 28 + n) (by omega) (by omega)
      have hto : w.trainOrder n = s.trainOrder n := State.trainOrder_congr (hres.order (28 + n) (by omega))
      rw [← hto]
      exact (State.trainOrder_congr hst).trans
        (State.trainOrder_writeTrainStep (s := w.heat n bed rest r.parked) hx (.heat bed))
    · obtain ⟨more, hm, _⟩ := hplant.sent
      exact ⟨more, congrArg (· ++ [_]) hm⟩
    · have e := congrArg (fun x : State => x.withRx []) hplant.frame
      exact e.trans (State.withRx_self (State.receptive_parts h).2.1)
  · next hb =>
    rw [if_neg hb] at hr
    exact exec_answered (b := .stationCommand 3) rfl h hkind nofun rfl (State.answer_command_refused hr)

end Sys2Proof.Machine
end

section
/-! A flowing cavern whose wellhead pressure is not usable: it leaves its flow and does not come back while SMT delivers
the other changes of the event (07 R110, R113, R117 to R120). -/

open Sys2Proof Sys2Proof.Machine

namespace Sys2Proof.Machine

/-! ### What one cavern's flow depends on -/

/-- The fields of a cavern's record that its flow and its settling show. -/
structure FlowFields where
  config : CavernConfig
  state : CavernState
  lastDir : Option Dir
  reversals : Nat
  settle : Option Nat
  setPoint : Nat

def Cavern.flowFields (c : Cavern) : FlowFields :=
  ⟨c.config, c.state, c.lastDir, c.reversals, c.settle, c.setPoint⟩

/-- Cavern `j` keeps its flow fields and the values of its two entries, and PLU stays due. -/
structure Undisturbed (j : Nat) (s t : State) : Prop where
  cavern : (t.cavern j).map Cavern.flowFields = (s.cavern j).map Cavern.flowFields
  valve : t.valveOrder j = s.valveOrder j
  rate : t.rateOrder j = s.rateOrder j
  due : s.plu.due = true → t.plu.due = true

namespace Undisturbed

theorem refl (j : Nat) (s : State) : Undisturbed j s s := ⟨rfl, rfl, rfl, id⟩

theorem trans {j : Nat} {s t u : State} (h1 : Undisturbed j s t) (h2 : Undisturbed j t u) : Undisturbed j s u :=
  ⟨h2.cavern.trans h1.cavern, h2.valve.trans h1.valve, h2.rate.trans h1.rate, fun h => h2.due (h1.due h)⟩

theorem ite {j : Nat} {s a b : State} {p : Prop} [Decidable p] (h1 : Undisturbed j s a) (h2 : Undisturbed j s b) :
    Undisturbed j s (if p then a else b) := by split <;> assumption

theorem of_orders {j : Nat} {s t : State} (hc : t.cavern j = s.cavern j) (h1 : t.order j = s.order j)
    (h2 : t.order (8 + j) = s.order (8 + j)) (hd : s.plu.due = true → t.plu.due = true) : Undisturbed j s t :=
  ⟨by rw [hc], State.valveOrder_congr h1, State.rateOrder_congr h2, hd⟩

theorem of_reported {j : Nat} {s t : State} (h : Reported s t) : Undisturbed j s t := by
  have ho : t.ori = s.ori := congrArg (fun x => x.ori) h.rest
  have hp : t.plu = s.plu := congrArg (fun x => x.plu) h.rest
  exact of_orders (State.cavern_congr (congrArg (fun x => x.cvc) h.rest) j) (State.order_congr ho j)
    (State.order_congr ho _) (by rw [hp]; exact id)

theorem of_caps {j : Nat} {s t : State} (h : CapsMoved s t)
    (hc : (t.cavern j).map Cavern.flowFields = (s.cavern j).map Cavern.flowFields)
    (hd : s.plu.due = true → t.plu.due = true) : Undisturbed j s t :=
  ⟨hc, State.valveOrder_congr (h.order j), State.rateOrder_congr (h.order (8 + j)), hd⟩

theorem makePlanDue (j : Nat) (s : State) : Undisturbed j s s.makePlanDue := ⟨rfl, rfl, rfl, fun _ => rfl⟩

theorem modCavern {i j : Nat} (s : State) (f : Cavern → Cavern) (h : j ≠ i) : Undisturbed j s (s.modCavern i f) :=
  of_caps (s.modCavern_caps i f) (by rw [s.cavern_modCavern_of_ne f h]) (s.modCavern_calm (K := []) i f).due

theorem writeOrder {i j : Nat} (s : State) (v : OrderValue) (h1 : j ≠ i) (h2 : 8 + j ≠ i) :
    Undisturbed j s (s.writeOrder i v) := by
  have h := s.writeOrder_ordered i v
  exact of_orders (h.cavern j) (s.order_writeOrder_of_ne v h1) (s.order_writeOrder_of_ne v h2) (h.calm (K := [])).due

theorem writeOrderIfNew {i j : Nat} (s : State) (v : OrderValue) (h1 : j ≠ i) (h2 : 8 + j ≠ i) :
    Undisturbed j s (s.writeOrderIfNew i v) := by
  have h := s.writeOrderIfNew_ordered i v
  exact of_orders (h.cavern j) (s.order_writeOrderIfNew_of_ne v h1) (s.order_writeOrderIfNew_of_ne v h2)
    (h.calm (K := [])).due

section
variable {i j : Nat} (hi : i ∈ cavernNumbers) (hj : j ∈ cavernNumbers) (h : j ≠ i)
include hi hj h

theorem writeValve (s : State) (v : Valve) : Undisturbed j s (s.writeValve i v) := by
  have := mem_cavernNumbers hi
  have := mem_cavernNumbers hj
  unfold State.writeValve
  exact ite (refl j s) ((writeOrder s _ (by rw [valveActuator]; omega) (by rw [valveActuator]; omega)).trans
    (modCavern _ _ h))

theorem writeRate (s : State) (n : Nat) : Undisturbed j s (s.writeRate i n) := by
  have := mem_cavernNumbers hi
  have := mem_cavernNumbers hj
  exact writeOrderIfNew s _ (by rw [rateActuator]; omega) (by rw [rateActuator]; omega)

theorem enterSettling (s : State) : Undisturbed j s (s.enterSettling i) :=
  ((((writeValve hi hj h s _).trans (writeRate hi hj h _ _)).trans (modCavern _ _ h)).trans (modCavern _ _ h)).trans
    (makePlanDue j _)

theorem orderFlow (s : State) (d : Dir) (n : Nat) : Undisturbed j s (s.orderFlow i d n) :=
  ((modCavern s _ h).trans (writeValve hi hj h _ _)).trans (writeRate hi hj h _ _)

theorem enterFlow (s : State) (c : Cavern) (d : Dir) (n : Nat) : Undisturbed j s (s.enterFlow i c d n) := by
  have h1 := fun f => modCavern s f h
  unfold State.enterFlow
  dsimp only
  exact (((ite ((h1 _).trans (of_reported (State.raise_reported _ _ _))) (h1 _)).trans (modCavern _ _ h)).trans
    (orderFlow hi hj h _ _ _)).trans (makePlanDue j _)

theorem reenterFlow (s : State) (d : Dir) (n : Nat) : Undisturbed j s (s.reenterFlow i d n) :=
  ((modCavern s _ h).trans (orderFlow hi hj h _ _ _)).trans (makePlanDue j _)

theorem adjustFlow (s : State) (c : Cavern) (d : Dir) (n : Nat) : Undisturbed j s (s.adjustFlow i c d n) :=
  ite ((modCavern s _ h).trans (writeRate hi hj h _ _)) (modCavern s _ h)

theorem applyShare (s : State) (n : Nat) : Undisturbed j s (s.applyShare i n) := by
  unfold State.applyShare
  split
  · exact refl j s
  · split
    · split
      · exact enterSettling hi hj h s
      · split
        · exact ite (adjustFlow hi hj h s _ _ _) (refl j s)
        · exact refl j s
    · split
      · exact refl j s
      · split
        · exact ite (enterFlow hi hj h s _ _ _) (ite (reenterFlow hi hj h s _ _) (refl j s))
        · exact refl j s

end

theorem formAllCaps {j : Nat} (hj : j ∈ cavernNumbers) (s : State) : Undisturbed j s s.formAllCaps.1 :=
  of_caps s.formAllCaps_caps (by rw [s.cavern_formAllCaps hj, Option.map_map]; rfl) (s.formAllCaps_calm (K := [])).due

end Undisturbed

/-! ### A unit's change leaves the caverns and their entries (08 R128) -/

theorem UnitsOnly.ite {s a b : State} {p : Prop} [Decidable p] (h1 : UnitsOnly s a) (h2 : UnitsOnly s b) :
    UnitsOnly s (if p then a else b) := by split <;> assumption

theorem startUnits_only (n need : Nat) (s : State) : UnitsOnly s (startUnits n need s).1 := by
  induction n generalizing s with
  | zero => exact .refl s
  | succ n ih =>
    unfold startUnits
    repeat' split
    · exact (s.changeUnit_only _ _ _).trans (ih _)
    · exact .refl s
    · exact .refl s

theorem State.stopUnit_only (s : State) : UnitsOnly s s.stopUnit := by
  unfold State.stopUnit
  split
  · exact (s.changeUnit_only _ _ _).trans (State.stoppedTest_only _ _)
  · exact .refl s

theorem State.modUnit_only (s : State) (k : Nat) (f : Compressor → Compressor) : UnitsOnly s (s.modUnit k f) := by
  obtain ⟨u, _, e⟩ | ⟨_, e⟩ := s.modUnit_eq k f <;> rw [e]
  · exact ⟨rfl⟩
  · exact .refl s

theorem State.setLoads_only (s : State) : UnitsOnly s s.setLoads :=
  State.forEach_induct (P := UnitsOnly s) (.refl s) (fun u k _ h => h.trans (u.modUnit_only k _))

/-- `t` follows `s` in CDU: the caverns and the entries that are no run and no load entry stand. -/
structure DutyOnly (s t : State) : Prop where
  cvc : t.cvc = s.cvc
  order : ∀ i, i ≤ 16 ∨ 28 < i → t.order i = s.order i
  due : s.plu.due = true → t.plu.due = true

namespace DutyOnly

theorem refl (s : State) : DutyOnly s s := ⟨rfl, fun _ _ => rfl, id⟩

theorem trans {s t u : State} (h1 : DutyOnly s t) (h2 : DutyOnly t u) : DutyOnly s u :=
  ⟨h2.cvc.trans h1.cvc, fun i hi => (h2.order i hi).trans (h1.order i hi), fun h => h2.due (h1.due h)⟩

theorem ite {s a b : State} {p : Prop} [Decidable p] (h1 : DutyOnly s a) (h2 : DutyOnly s b) :
    DutyOnly s (if p then a else b) := by split <;> assumption

theorem of_units {s t : State} (h : UnitsOnly s t) (hd : s.plu.due = true → t.plu.due = true) : DutyOnly s t :=
  ⟨congrArg (fun x => x.cvc) h.rest, fun i _ => State.order_congr h.ori i, hd⟩

theorem of_reported {s t : State} (h : Reported s t) : DutyOnly s t := by
  have hp : t.plu = s.plu := congrArg (fun x => x.plu) h.rest
  exact ⟨congrArg (fun x => x.cvc) h.rest, fun i _ => State.order_congr (congrArg (fun x => x.ori) h.rest) i,
    by rw [hp]; exact id⟩

theorem writeOrderIfNew (s : State) {i : Nat} (v : OrderValue) (h : 16 < i ∧ i ≤ 28) :
    DutyOnly s (s.writeOrderIfNew i v) := by
  have ho := s.writeOrderIfNew_ordered i v
  exact ⟨congrArg (fun x => x.cvc) ho.rest, fun k hk => s.order_writeOrderIfNew_of_ne v (by omega),
    (ho.calm (K := [])).due⟩

theorem writeUnitOrders (s : State) : DutyOnly s s.writeUnitOrders := by
  rw [State.writeUnitOrders_eq]
  refine State.forEach_induct (P := DutyOnly s) (State.forEach_induct (P := DutyOnly s) (refl s)
    (fun u k hk h => h.trans ?_)) (fun u k hk h => h.trans ?_)
  · have := mem_unitNumbers hk
    unfold State.writeRun
    split
    · exact ite (refl u) (writeOrderIfNew u _ (by rw [runActuator]; omega))
    · exact refl u
  · have := mem_unitNumbers hk
    unfold State.writeLoad
    split
    · exact writeOrderIfNew u _ (by rw [loadActuator]; omega)
    · exact refl u

theorem evaluateDuty (s : State) : DutyOnly s s.evaluateDuty := by
  unfold State.evaluateDuty
  split
  · have hs := startUnits_only 6 s.need s
    have hc := (startUnits_calm (K := []) 6 s.need s).due
    generalize startUnits 6 s.need s = r at hs hc ⊢
    have h2 : DutyOnly s (if r.2 = true then r.1 else r.1.stopUnit) :=
      ite (of_units hs hc) ((of_units hs hc).trans (of_units r.1.stopUnit_only (r.1.stopUnit_calm (K := [])).due))
    have hl : ∀ u : State, Calm [] u u.setLoads := fun u => Calm.forEach (fun v k => v.modUnit_calm k _) _ u
    exact (h2.trans (of_units (State.setLoads_only _) (hl _).due)).trans (writeUnitOrders _)
  · exact refl s

theorem repeatDuty (n : Nat) (s : State) : DutyOnly s (repeatDuty n s) := by
  induction n generalizing s with
  | zero => exact refl s
  | succ n ih => exact (evaluateDuty s).trans (ih _)

theorem dutyAfter (r : State × Nat) : DutyOnly r.1 (dutyAfter r) :=
  ite (refl _) ((writeUnitOrders r.1).trans (repeatDuty _ _))

theorem tripUnit (s : State) (k : Nat) (u : Compressor) (a : AlertKind) : DutyOnly s (s.tripUnit k u a) := by
  unfold State.tripUnit
  dsimp only
  have h := fun v => ((of_units (s.changeUnit_only k u v) (s.changeUnit_calm (K := []) k u v).due).trans
    (writeUnitOrders _)).trans (of_reported (State.raise_reported _ a k))
  refine trans ?_ (dutyAfter _)
  refine trans ?_ (of_units (State.stoppedTest_only _ _) (State.stoppedTest_calm (K := []) _ _).due)
  exact ite ((h _).trans (of_reported (State.raise_reported _ _ _))) (h _)

theorem feedbackQuality (s : State) (k : Nat) (q : Quality) : DutyOnly s (s.feedbackQuality k q) := by
  unfold State.feedbackQuality
  split
  · exact refl s
  · exact ite (tripUnit s k _ _) (refl s)

end DutyOnly

theorem Undisturbed.of_duty {j : Nat} {s t : State} (hj : j ∈ cavernNumbers) (h : DutyOnly s t) :
    Undisturbed j s t := by
  have := mem_cavernNumbers hj
  exact .of_orders (State.cavern_congr h.cvc j) (h.order j (by omega)) (h.order _ (by omega)) h.due

/-! ### A cavern without caps leaves its flow and stays out of it -/

/-- Cavern `j` flows, with the configuration, the last direction and the reversal count of `c`. -/
def State.flowsAs (s : State) (j : Nat) (c : Cavern) : Prop :=
  ∃ x, s.cavern j = some x ∧ x.config = c.config ∧ x.lastDir = c.lastDir ∧ x.reversals = c.reversals ∧
    x.state.flowing = true

/-- Cavern `j`, whose record was `c`, has left its flow, and PLU is due. -/
def State.hasLeft (s : State) (j : Nat) (c : Cavern) : Prop := tookSettling s j c ∧ s.plu.due = true

theorem Undisturbed.fields {j : Nat} {s t : State} (h : Undisturbed j s t) {x : Cavern} (hx : s.cavern j = some x) :
    ∃ y, t.cavern j = some y ∧ y.flowFields = x.flowFields := by
  have hc := h.cavern
  rw [hx] at hc
  exact Option.map_eq_some_iff.mp hc

theorem Undisturbed.flowsAs {j : Nat} {s t : State} {c : Cavern} (h : Undisturbed j s t) (hs : s.flowsAs j c) :
    t.flowsAs j c := by
  obtain ⟨x, hx, h1, h2, h3, h4⟩ := hs
  obtain ⟨y, hy, e⟩ := h.fields hx
  simp only [Cavern.flowFields, FlowFields.mk.injEq] at e
  obtain ⟨e1, e2, e3, e4, _, _⟩ := e
  exact ⟨y, hy, e1.trans h1, e3.trans h2, e4.trans h3, by rw [e2]; exact h4⟩

theorem Undisturbed.hasLeft {j : Nat} {s t : State} {c : Cavern} (h : Undisturbed j s t) (hs : s.hasLeft j c) :
    t.hasLeft j c := by
  obtain ⟨⟨x, hx, h1, h2, h3, h4, hv, hr, hst⟩, hd⟩ := hs
  obtain ⟨y, hy, e⟩ := h.fields hx
  simp only [Cavern.flowFields, FlowFields.mk.injEq] at e
  obtain ⟨e1, e2, e3, e4, e5, e6⟩ := e
  exact ⟨⟨y, hy, e1.trans h1, e3.trans h2, e4.trans h3, e6.trans h4, h.valve.trans hv, h.rate.trans hr,
    by rw [e2, e5]; exact hst⟩, h.due hd⟩

theorem State.enterSettling_hasLeft {s : State} {j : Nat} {c : Cavern} (h : s.flowsAs j c) :
    (s.enterSettling j).hasLeft j c := by
  obtain ⟨x, hx, h1, h2, h3, _⟩ := h
  obtain ⟨⟨y, hy, e1, e2, e3, rest⟩, hd⟩ := State.enterSettling_tookSettling hx
  rw [h1] at rest
  exact ⟨⟨y, hy, e1.trans h1, e2.trans h2, e3.trans h3, rest⟩, hd⟩

theorem State.hasLeft.not_flowing {s : State} {j : Nat} {c : Cavern} (h : s.hasLeft j c) :
    ∃ x, s.cavern j = some x ∧ x.state.flowing = false := by
  obtain ⟨⟨x, hx, _, _, _, _, _, _, hst⟩, _⟩ := h
  refine ⟨x, hx, ?_⟩
  split at hst <;> rw [hst.1] <;> rfl

/-- What a share of 0 leaves of a cavern that flows, or has left its flow. -/
theorem State.applyShare_zero {s : State} {j : Nat} {c : Cavern} :
    (s.flowsAs j c → (s.applyShare j 0).hasLeft j c) ∧ (s.hasLeft j c → (s.applyShare j 0).hasLeft j c) := by
  unfold State.applyShare
  refine ⟨fun h => ?_, fun h => ?_⟩
  · obtain ⟨x, hx, _, _, _, hf⟩ := id h
    rw [hx]
    dsimp only
    rw [if_pos hf, if_pos rfl]
    exact State.enterSettling_hasLeft h
  · obtain ⟨x, hx, hf⟩ := h.not_flowing
    rw [hx]
    dsimp only
    rw [hf]
    exact h

/-- Both caps of cavern `j` are 0. -/
def State.capless (s : State) (j : Nat) : Prop := ∀ c, s.cavern j = some c → c.capInject = 0 ∧ c.capWithdraw = 0

/-- Without a usable pressure the caps are formed 0 (07 R117). -/
theorem State.capless_formAllCaps {s : State} {j : Nat} (hj : j ∈ cavernNumbers)
    (h : (s.point (pressurePoint j)).usable = false) : s.formAllCaps.1.capless j := by
  intro c hc
  rw [s.cavern_formAllCaps hj] at hc
  obtain ⟨x, _, rfl⟩ := Option.map_eq_some_iff.mp hc
  have hf : ∀ d, s.formCap j x d = 0 := by
    intro d
    simp [State.formCap, State.capBlocked, h]
  exact ⟨hf .inject, hf .withdraw⟩

theorem getD_zipWith_min_le (l m : List Nat) (i : Nat) : (List.zipWith min l m).getD i 0 ≤ m.getD i 0 := by
  simp only [List.getD_eq_getElem?_getD, List.getElem?_zipWith]
  cases l[i]? <;> cases m[i]? <;> simp

theorem getD_cavernNumbers (f : Nat → Nat) {j : Nat} (hj : j ∈ cavernNumbers) :
    (cavernNumbers.map f).getD (j - 1) 0 = f j := by
  simp only [cavernNumbers, List.mem_cons, List.not_mem_nil, or_false] at hj
  obtain rfl | rfl | rfl | rfl | rfl | rfl | rfl | rfl := hj <;> rfl

theorem State.groupCaps_of_capless {s : State} {j : Nat} (hj : j ∈ cavernNumbers) (h : s.capless j) (d : Dir)
    (g : Cavern → Bool) : (s.groupCaps d g).getD (j - 1) 0 = 0 := by
  unfold State.groupCaps
  rw [getD_cavernNumbers _ hj]
  cases hc : s.cavern j with
  | none => rfl
  | some c =>
    obtain ⟨h1, h2⟩ := h c hc
    cases d <;> simp [Cavern.cap, h1, h2]

/-- A cavern without caps gets no share (07 R119). -/
theorem State.share_of_capless {s : State} {j : Nat} (hj : j ∈ cavernNumbers) (h : s.capless j) :
    s.splitShares.getD (j - 1) 0 = 0 := by
  have hcap := fun t l g => Nat.le_zero.mp ((getD_zipWith_min_le l (s.groupCaps t g) (j - 1)).trans_eq
    (State.groupCaps_of_capless hj h t g))
  unfold State.splitShares
  split
  · exact getD_cavernNumbers (fun _ => 0) hj
  · dsimp only
    split
    · exact getD_cavernNumbers (fun _ => 0) hj
    · unfold shareOutCapped
      dsimp only
      split
      · exact hcap _ _ _
      · exact hcap _ _ _

/-- A property of cavern `j` that other work keeps, and that a share of 0 keeps. -/
structure StaysOut (j : Nat) (P : State → Prop) : Prop where
  keep : ∀ {s t : State}, Undisturbed j s t → P s → P t
  share : ∀ {s : State}, P s → P (s.applyShare j 0)

theorem staysOut_hasLeft (j : Nat) (c : Cavern) : StaysOut j (fun s => s.hasLeft j c) :=
  ⟨fun h hs => h.hasLeft hs, fun hs => State.applyShare_zero.2 hs⟩

theorem staysOut_leaving (j : Nat) (c : Cavern) : StaysOut j (fun s => s.flowsAs j c ∨ s.hasLeft j c) :=
  ⟨fun h hs => hs.imp h.flowsAs h.hasLeft, fun hs => .inr (hs.elim State.applyShare_zero.1 State.applyShare_zero.2)⟩

section
variable {j : Nat} {P : State → Prop} (hj : j ∈ cavernNumbers) (hP : StaysOut j P)
include hj hP

theorem StaysOut.runSplit {s : State} (h0 : s.capless j) (hs : P s) : P s.runSplit := by
  unfold State.runSplit
  have hz := State.share_of_capless hj h0
  generalize s.splitShares = l at hz ⊢
  refine State.forEach_induct (P := P) hs (fun u i hi hu => ?_)
  by_cases hij : j = i
  · subst hij
    rw [hz]
    exact hP.share hu
  · exact hP.keep (Undisturbed.applyShare hi hj hij u _) hu

theorem StaysOut.settleCaps (n : Nat) {s : State} (hu : (s.point (pressurePoint j)).usable = false) (hs : P s) :
    P (settleCaps n s) := by
  have hform : ∀ v : State, P v → P v.formAllCaps.1 := fun v h => hP.keep (Undisturbed.formAllCaps hj v) h
  induction n generalizing s with
  | zero => exact hform s hs
  | succ n ih =>
    have h1 := hform s hs
    have hc := s.formAllCaps_caps
    have hcap : s.formAllCaps.1.capless j := State.capless_formAllCaps hj hu
    unfold Machine.settleCaps
    generalize s.formAllCaps = r at h1 hc hcap ⊢
    dsimp only
    split
    · refine ih ?_ (StaysOut.runSplit hj hP hcap h1)
      rw [State.point_congr ((State.runSplit_moved r.1).smt.trans hc.smt)]
      exact hu
    · exact h1

theorem StaysOut.cavernsChanged {s : State} (hu : (s.point (pressurePoint j)).usable = false) (hs : P s) :
    P s.cavernsChanged := StaysOut.settleCaps hj hP 8 hu hs

/-- A quality change of another cavern's pressure. -/
theorem StaysOut.pressureQuality {s : State} {i : Nat} (hi : i ∈ cavernNumbers) (h : j ≠ i) (q : Quality)
    (hu : (s.point (pressurePoint j)).usable = false) (hs : P s) : P (s.pressureQuality i q) := by
  unfold State.pressureQuality
  split
  · exact hs
  · split
    · refine StaysOut.cavernsChanged hj hP ?_ (hP.keep (Undisturbed.enterSettling hi hj h s) hs)
      rw [State.point_congr (State.enterSettling_moved s i).smt]
      exact hu
    · exact StaysOut.cavernsChanged hj hP hu hs

end

/-- The quality change to STALE of its own pressure brings the cavern out of its flow. -/
theorem State.pressureQuality_hasLeft {s : State} {j : Nat} {c : Cavern} (hj : j ∈ cavernNumbers)
    (hu : (s.point (pressurePoint j)).usable = false) (hs : s.flowsAs j c ∨ s.hasLeft j c) :
    (s.pressureQuality j .stale).hasLeft j c := by
  have hP := staysOut_hasLeft j c
  unfold State.pressureQuality
  obtain hf | hl := hs
  · obtain ⟨x, hx, _, _, _, hx'⟩ := id hf
    rw [hx]
    dsimp only
    rw [if_pos ⟨rfl, hx'⟩]
    refine StaysOut.cavernsChanged hj hP ?_ (State.enterSettling_hasLeft hf)
    rw [State.point_congr (State.enterSettling_moved s j).smt]
    exact hu
  · obtain ⟨x, hx, hx'⟩ := hl.not_flowing
    rw [hx]
    dsimp only
    rw [if_neg (by simp [hx'])]
    exact StaysOut.cavernsChanged hj hP hu hl

end Sys2Proof.Machine
end

section
/-! SMT grades every point and delivers the changes in point order (02 R22 to R25). -/

open Sys2Proof Sys2Proof.Machine

namespace Sys2Proof.Machine

/-! ### The graded points -/

/-- The state with every point graded, before any change is delivered. -/
def State.graded (s : State) (f : PointKind → Point → Point) : State := { s with smt := gradePoints f 0 s.smt }

theorem State.gradeAll_eq (s : State) (f : PointKind → Point → Point) :
    s.gradeAll f = (s.graded f).forEach (List.range 41) (deliverChange s.smt) := rfl

theorem getD_gradePoints (f : PointKind → Point → Point) {l : List Point} {p i : Nat} {k : PointKind}
    (hi : i < l.length) (hk : pointKind (p + i) = some k) (x : Point) :
    (gradePoints f p l).getD i x = f k (l.getD i x) := by
  induction l generalizing p i with
  | nil => simp at hi
  | cons y l ih =>
    unfold gradePoints
    cases i with
    | zero =>
      rw [Nat.add_zero] at hk
      simp [hk]
    | succ i =>
      have hk' : pointKind (p + 1 + i) = some k := by rw [← hk]; congr 1; omega
      simpa using ih (Nat.lt_of_succ_lt_succ hi) hk'

theorem State.point_graded {s : State} {f : PointKind → Point → Point} {p : Nat} {k : PointKind}
    (hp : p < s.smt.length) (hk : pointKind p = some k) : (s.graded f).point p = f k (s.point p) :=
  getD_gradePoints f hp (by rw [Nat.zero_add]; exact hk) _

theorem State.gradeAll_smt (s : State) (f : PointKind → Point → Point) : (s.gradeAll f).smt = (s.graded f).smt :=
  (s.gradeAll_plant f).smt

theorem State.point_gradeAll (s : State) (f : PointKind → Point → Point) (p : Nat) :
    (s.gradeAll f).point p = (s.graded f).point p := State.point_congr (s.gradeAll_smt f) p

/-! ### The delivery of one change -/

/-- The point goes STALE by the grading. -/
def State.goesStale (s : State) (f : PointKind → Point → Point) (p : Nat) : Prop :=
  (s.point p).quality ≠ .stale ∧ ((s.graded f).point p).quality = .stale

/-- What the delivery of point `p` does while the points stand as graded. -/
theorem deliverChange_eq {s u : State} {f : PointKind → Point → Point} {p : Nat} {k : PointKind}
    (hu : u.smt = (s.graded f).smt) (hk : pointKind p = some k) :
    deliverChange s.smt u p = if ((s.graded f).point p).quality = (s.point p).quality then u
      else u.deliverQuality k ((s.graded f).point p).quality := by
  unfold deliverChange
  rw [hk, State.point_congr hu]
  rfl

theorem deliverChange_none {old : List Point} {u : State} {p : Nat} (hk : pointKind p = none) :
    deliverChange old u p = u := by
  unfold deliverChange
  rw [hk]

theorem deliverChange_same {s u : State} {f : PointKind → Point → Point} {p : Nat}
    (hu : u.smt = (s.graded f).smt) (h : ((s.graded f).point p).quality = (s.point p).quality) :
    deliverChange s.smt u p = u := by
  cases hk : pointKind p with
  | none => exact deliverChange_none hk
  | some k => rw [deliverChange_eq hu hk, if_pos h]

/-- The alert that SMT raises for a point of a kind (02 R25). -/
def PointKind.alarm : PointKind → Option AlertKind
  | .meterRate => some .meterStale
  | .calorific => some .cvStale
  | _ => none

/-- A delivery raises SMT's own alert, and those of CVC and CDU. -/
theorem State.alert_deliverQuality (s : State) {k : PointKind} (q : Quality) {a : AlertKind}
    (hk : k.alarm ≠ some a) (hc : a ∉ cavernAlerts) (hu : a ∉ unitAlerts) :
    (s.deliverQuality k q).alert a = s.alert a := by
  have hd : a ≠ .reportsDropped := fun e => hc (by rw [e]; decide)
  have hr : ∀ b, b ≠ a → (if q = .stale then s.raise b 0 else s).alert a = s.alert a := by
    intro b hb
    split
    · exact s.alert_raise_of_ne 0 hb.symm hd
    · rfl
  unfold State.deliverQuality
  cases k with
  | meterRate => exact hr _ (fun e => hk (by rw [← e]; rfl))
  | calorific => exact hr _ (fun e => hk (by rw [← e]; rfl))
  | wellPressure j => exact (s.pressureQuality_calm j q).alerts a hc
  | runFeedback k => exact (s.feedbackQuality_calm k q).alerts a hu
  | _ => rfl

theorem alarm_point_zero : ∀ p < 41, p ≠ 0 → (pointKind p).bind PointKind.alarm ≠ some .meterStale := by decide
theorem alarm_point_two : ∀ p < 41, p ≠ 2 → (pointKind p).bind PointKind.alarm ≠ some .cvStale := by decide

/-- The alert of point `p` is raised exactly where the point goes STALE. -/
theorem State.alert_gradeAll {s : State} {f : PointKind → Point → Point} (hals : s.als.length = 23) {p : Nat}
    {a : AlertKind} {k : PointKind} (hp : p < 41) (hk : pointKind p = some k)
    (hself : ∀ (u : State) q, u.deliverQuality k q = if q = .stale then u.raise a 0 else u)
    (hother : ∀ m < 41, m ≠ p → (pointKind m).bind PointKind.alarm ≠ some a) (hc : a ∉ cavernAlerts)
    (hun : a ∉ unitAlerts) :
    (s.goesStale f p → (s.gradeAll f).alert a = (s.alert a).raised 0 s.clk.stationSeconds) ∧
    (¬ s.goesStale f p → (s.gradeAll f).alert a = s.alert a) := by
  obtain ⟨u, ⟨hsmt, hlen, hclk⟩, hu, e⟩ := State.forEach_view (f := deliverChange s.smt)
    (I := fun u => u.smt = (s.graded f).smt ∧ u.als.length = 23 ∧ u.clk = s.clk) (s := s.graded f)
    (fun u => u.alert a) (n := p) (ns := List.range 41) (List.mem_range.mpr hp) List.nodup_range
    (fun u m _ ⟨h1, h2, h3⟩ =>
      have h := deliverChange_plant s.smt u m
      ⟨h.smt.trans h1, h.alerts.trans h2, h.clk.trans h3⟩)
    (fun u m hm hne ⟨h1, _⟩ => by
      have hm' := List.mem_range.mp hm
      cases hkm : pointKind m with
      | none => rw [deliverChange_none hkm]
      | some km =>
        have ha := hother m hm' hne
        rw [hkm] at ha
        rw [deliverChange_eq h1 hkm]
        split
        · rfl
        · exact u.alert_deliverQuality _ ha hc hun) ⟨rfl, hals, rfl⟩
  have e' : (s.gradeAll f).alert a = (deliverChange s.smt u p).alert a := e
  have hu' : u.alert a = s.alert a := hu
  rw [e', deliverChange_eq hsmt hk, hself]
  have hd : a ≠ .reportsDropped := fun e => hc (by rw [e]; decide)
  refine ⟨fun ⟨h1, h2⟩ => ?_, fun h => ?_⟩
  · rw [h2, if_neg (fun e => h1 e.symm), if_pos rfl, State.alert_raise hlen hd, hu', hclk]
  · split
    · exact hu'
    · next hne =>
      split
      · next hs => exact absurd ⟨fun e => hne (hs.trans e.symm), hs⟩ h
      · exact hu'

/-! ### The caverns -/

theorem pressurePoint_lt {j : Nat} (hj : j ∈ cavernNumbers) : pressurePoint j < 41 := by
  have := mem_cavernNumbers hj
  unfold pressurePoint
  omega

theorem pointKind_pressurePoint {j : Nat} (hj : j ∈ cavernNumbers) :
    pointKind (pressurePoint j) = some (.wellPressure j) :=
  (by decide : ∀ j ∈ cavernNumbers, pointKind (pressurePoint j) = some (.wellPressure j)) j hj

theorem wellPressure_point : ∀ p < 41, ∀ i, pointKind p = some (.wellPressure i) →
    i ∈ cavernNumbers ∧ p = pressurePoint i := by
  have h : ∀ p < 41, (match pointKind p with
      | some (.wellPressure i) => decide (i ∈ cavernNumbers ∧ p = pressurePoint i)
      | _ => true) = true := by decide
  intro p hp i hi
  have := h p hp
  rw [hi] at this
  exact of_decide_eq_true this

theorem runFeedback_point : ∀ p < 41, ∀ k, pointKind p = some (.runFeedback k) →
    k ∈ unitNumbers ∧ p = feedbackPoint k := by
  have h : ∀ p < 41, (match pointKind p with
      | some (.runFeedback k) => decide (k ∈ unitNumbers ∧ p = feedbackPoint k)
      | _ => true) = true := by decide
  intro p hp k hk
  have := h p hp
  rw [hk] at this
  exact of_decide_eq_true this

theorem State.forEach_reaches {f : State → Nat → State} {P Q : State → Prop} {ns : List Nat} {n : Nat}
    (hn : n ∈ ns) (hP : ∀ u m, m ∈ ns → m ≠ n → P u → P (f u m)) (hn' : ∀ u, P u → Q (f u n))
    (hQ : ∀ u m, m ∈ ns → m ≠ n → Q u → Q (f u m)) (hnd : ns.Nodup) {s : State} (hs : P s) : Q (s.forEach ns f) := by
  obtain ⟨l, r, rfl⟩ := List.append_of_mem hn
  have hl : n ∉ l := fun h => by
    have := List.nodup_append.mp hnd
    exact this.2.2 n h n (List.mem_cons_self) rfl
  have hr : n ∉ r := (List.nodup_cons.mp (List.nodup_append.mp hnd).2.1).1
  have e : s.forEach (l ++ n :: r) f = (f (s.forEach l f) n).forEach r f := by
    unfold State.forEach
    rw [List.foldl_append, List.foldl_cons]
  rw [e]
  refine State.forEach_induct (P := Q) (hn' _ (State.forEach_induct (P := P) hs ?_)) ?_
  · exact fun u m hm => hP u m (by simp [hm]) (fun h => hl (h ▸ hm))
  · exact fun u m hm => hQ u m (by simp [hm]) (fun h => hr (h ▸ hm))

/-- A flowing cavern whose wellhead pressure goes STALE leaves its flow, and PLU becomes due. -/
theorem State.gradeAll_hasLeft {s : State} {f : PointKind → Point → Point} {j : Nat} {c : Cavern}
    (hj : j ∈ cavernNumbers) (hf : s.flowsAs j c) (hst : s.goesStale f (pressurePoint j)) :
    (s.gradeAll f).hasLeft j c := by
  have hus : ∀ u : State, u.smt = (s.graded f).smt → (u.point (pressurePoint j)).usable = false := by
    intro u hu
    rw [State.point_congr hu]
    unfold Point.usable
    rw [hst.2]
    rfl
  have hstep : ∀ (P : State → Prop), StaysOut j P → ∀ u m, m ∈ List.range 41 → m ≠ pressurePoint j →
      u.smt = (s.graded f).smt ∧ P u →
      (deliverChange s.smt u m).smt = (s.graded f).smt ∧ P (deliverChange s.smt u m) := by
    intro P hP u m hm hne ⟨hu, hp⟩
    refine ⟨(deliverChange_plant s.smt u m).smt.trans hu, ?_⟩
    cases hkm : pointKind m with
    | none => rw [deliverChange_none hkm]; exact hp
    | some km =>
      rw [deliverChange_eq hu hkm]
      split
      · exact hp
      · unfold State.deliverQuality
        have hr : ∀ a, P (if ((s.graded f).point m).quality = .stale then u.raise a 0 else u) := by
          intro a
          split
          · exact hP.keep (Undisturbed.of_reported (u.raise_reported a 0)) hp
          · exact hp
        cases km with
        | meterRate => exact hr _
        | calorific => exact hr _
        | wellPressure i =>
          obtain ⟨hi, hmi⟩ := wellPressure_point m (List.mem_range.mp hm) i hkm
          exact StaysOut.pressureQuality hj hP hi (fun e => hne (by rw [e]; exact hmi)) _ (hus u hu) hp
        | runFeedback k => exact hP.keep (Undisturbed.of_duty hj (DutyOnly.feedbackQuality u k _)) hp
        | _ => exact hp
  have hreach := State.forEach_reaches (f := deliverChange s.smt) (ns := List.range 41) (n := pressurePoint j)
    (P := fun u => u.smt = (s.graded f).smt ∧ (u.flowsAs j c ∨ u.hasLeft j c))
    (Q := fun u => u.smt = (s.graded f).smt ∧ u.hasLeft j c) (s := s.graded f)
    (List.mem_range.mpr (pressurePoint_lt hj)) (hstep _ (staysOut_leaving j c)) (fun u ⟨hu, hp⟩ => ⟨?_, ?_⟩)
    (hstep _ (staysOut_hasLeft j c)) List.nodup_range ⟨rfl, .inl hf⟩
  · exact hreach.2
  · exact (deliverChange_plant s.smt u _).smt.trans hu
  · rw [deliverChange_eq hu (pointKind_pressurePoint hj), hst.2, if_neg (fun e => hst.1 e.symm)]
    exact State.pressureQuality_hasLeft hj (hus u hu) hp

end Sys2Proof.Machine
end

section
/-! The second event: the clock counts, the points age, and a flowing cavern leaves a pressure that goes STALE (01 R1, R2;
02 R23 to R25). -/

open Sys2Proof Sys2Proof.Machine

namespace Sys2Proof.Machine

/-! ### The clock -/

theorem Clock.tickSecond_invalid {c : Clock} (h : c.valid = false) : c.tickSecond =
    { c with stationSeconds := c.tickSecond.stationSeconds, minuteDue := c.tickSecond.stationSeconds % 60 == 0
             boundaryDue := false } := by
  unfold Clock.tickSecond
  simp [h]

theorem Clock.tickSecond_stationSeconds (c : Clock) : c.tickSecond.stationSeconds = (c.stationSeconds + 1) % 2 ^ 32 := by
  unfold Clock.tickSecond
  dsimp only
  split <;> rfl

theorem Clock.tickSecond_within {c : Clock} (h : c.valid = true) (hs : c.second < 86399) : c.tickSecond =
    { c with stationSeconds := c.tickSecond.stationSeconds, second := c.second + 1
             minuteDue := (c.second + 1) % 60 == 0, boundaryDue := (c.second + 1) % 3600 == 0 } := by
  have hw : ¬ 86399 ≤ c.second := by omega
  unfold Clock.tickSecond
  simp [h, hw]

theorem Clock.tickSecond_wraps {c : Clock} (h : c.valid = true) (hs : c.second = 86399) : c.tickSecond =
    { c with stationSeconds := c.tickSecond.stationSeconds, second := 0, gasDay := (c.gasDay + 1) % 65536
             minuteDue := true, boundaryDue := true } := by
  unfold Clock.tickSecond
  simp [h, hs]

/-! ### An older point -/

theorem agePoint_never (l : Limit) {x : Point} (h : x.quality = .never) : agePoint l x = x := by
  unfold agePoint
  rw [if_pos h]

theorem agePoint_aged (l : Limit) {x : Point} (h : x.quality ≠ .never) : agePoint l x =
    ⟨x.value, min 65535 (x.age + 1),
      if min 65535 (x.age + 1) ≤ l.fresh then .good else if min 65535 (x.age + 1) ≤ l.hold then .held else .stale,
      x.clamped⟩ := by
  unfold agePoint regrade
  rw [if_neg h]
  dsimp only
  rw [if_neg h]
  rfl

/-! ### The caverns' second -/

/-- A second changes no cavern's state. -/
theorem State.cavernSecond_fields (s : State) (j : Nat) (x : Cavern) :
    (s.watchValve j (s.integrateVolume j x)).config = x.config ∧
    (s.watchValve j (s.integrateVolume j x)).lastDir = x.lastDir ∧
    (s.watchValve j (s.integrateVolume j x)).reversals = x.reversals ∧
    (s.watchValve j (s.integrateVolume j x)).state = x.state := by
  have hi : (s.integrateVolume j x).config = x.config ∧ (s.integrateVolume j x).lastDir = x.lastDir ∧
      (s.integrateVolume j x).reversals = x.reversals ∧ (s.integrateVolume j x).state = x.state := by
    unfold State.integrateVolume
    dsimp only
    split <;> exact ⟨rfl, rfl, rfl, rfl⟩
  generalize s.integrateVolume j x = y at hi ⊢
  unfold State.watchValve
  dsimp only
  repeat' split
  all_goals exact hi

theorem State.cavernSecond_flowsAs {s : State} {j : Nat} {c : Cavern} (h : s.flowsAs j c) :
    (s.cavernSecond j).flowsAs j c := by
  obtain ⟨x, hx, h1, h2, h3, h4⟩ := h
  obtain ⟨e1, e2, e3, e4⟩ := s.cavernSecond_fields j x
  unfold State.cavernSecond
  rw [hx]
  exact ⟨_, State.cavern_setCavern _ hx, e1.trans h1, e2.trans h2, e3.trans h3, by rw [← e4] at h4; exact h4⟩

theorem State.cavern_cavernSecond_of_ne (s : State) {i j : Nat} (h : i ≠ j) :
    (s.cavernSecond j).cavern i = s.cavern i := by
  unfold State.cavernSecond
  split
  · rfl
  · exact s.cavern_setCavern_of_ne _ h

theorem State.flowsAs_congr {s t : State} {j : Nat} {c : Cavern} (h : t.cavern j = s.cavern j) (hs : s.flowsAs j c) :
    t.flowsAs j c := by
  unfold State.flowsAs
  rw [h]
  exact hs

theorem State.plantSecond_flowsAs {s : State} {j : Nat} {c : Cavern} (hs : s.flowsAs j c) :
    s.plantSecond.flowsAs j c := by
  have h1 : (s.forEach cavernNumbers State.cavernSecond).flowsAs j c :=
    State.forEach_induct (P := fun u => u.flowsAs j c) hs (fun u i _ hu => by
      by_cases hij : j = i
      · subst hij
        exact State.cavernSecond_flowsAs hu
      · exact State.flowsAs_congr (u.cavern_cavernSecond_of_ne hij) hu)
  have h2 : ((s.forEach cavernNumbers State.cavernSecond).forEach unitNumbers State.unitSecond).flowsAs j c :=
    State.forEach_induct (P := fun u => u.flowsAs j c) h1 (fun u k _ hu =>
      State.flowsAs_congr (State.cavern_congr (congrArg (fun x => x.cvc) (u.modUnit_only k _).rest) j) hu)
  exact State.flowsAs_congr (State.cavern_congr (State.dryerSecond_moved _).cvc j) h2

/-! ### The second event -/

/-- The state of the second event once only SMT is left to act. -/
def State.beforeAgeing (s : State) : State := s.clockSecond.meterSecond.plantSecond.statusSecond

/-- What the second event has done before SMT acts: clock, alerts of the points, flowing caverns and countdown. -/
structure Counted (s w : State) : Prop where
  clk : w.clk = s.clk.tickSecond
  smt : w.smt = s.smt
  alerts : w.als.length = s.als.length
  alert : ∀ a ∉ trainAlerts, w.alert a = s.alert a
  flows : ∀ j c, s.flowsAs j c → w.flowsAs j c
  countdown : w.slk.statusCountdown = s.slk.statusCountdown - (if s.cfg.statusInterval = 0 then 0 else 1)
  rest : (w.sts, w.sns, w.cfg, w.act, w.nst, w.hcu, w.plu.record, w.plu.eval, w.slk.rx, w.pending) =
    (s.sts, s.sns, s.cfg, s.act, s.nst, s.hcu, s.plu.record, s.plu.eval, s.slk.rx, s.pending)

theorem PlantMoved.kept {s t : State} (h : PlantMoved s t) :
    (t.sts, t.sns, t.cfg, t.act, t.nst, t.hcu, t.plu.record, t.plu.eval, t.slk.rx, t.pending) =
    (s.sts, s.sns, s.cfg, s.act, s.nst, s.hcu, s.plu.record, s.plu.eval, s.slk.rx, s.pending) := by
  rw [h.sts, h.sns, h.cfg, h.act, h.nst, h.hcu, h.planRecord, h.planEval, h.rx, h.pending]

theorem State.beforeAgeing_counted (s : State) : Counted s s.beforeAgeing := by
  unfold State.beforeAgeing
  obtain ⟨m, hm⟩ := s.clockSecond.meterSecond_eq
  have hp := s.clockSecond.meterSecond.plantSecond_plant
  have hc := s.clockSecond.meterSecond.plantSecond_calm
  have hf : ∀ j c, s.clockSecond.meterSecond.flowsAs j c → s.clockSecond.meterSecond.plantSecond.flowsAs j c :=
    fun j c h => State.plantSecond_flowsAs h
  generalize s.clockSecond.meterSecond.plantSecond = v at *
  rw [hm] at hp hc hf
  rw [v.statusSecond_eq]
  refine ⟨hp.clk, hp.smt, hp.alerts, hc.alerts, hf, ?_, hp.kept⟩
  rw [hp.cfg]
  exact congrArg (fun x => x - _) hp.statusCountdown

/-- Settles O26: SMT acts last, on points as the event found them. -/
theorem secondAdvancesClockAndAgesPoints : Obligations.SecondAdvancesClockAndAgesPoints := by
  intro s hq hshape
  obtain ⟨hsmt, hals, _⟩ := State.shaped_parts hshape
  have hexec : exec .secondEvent s = .next s.beforeAgeing.agePoints :=
    congrArg Host.Outcome.next (external_of_quiet hq _)
  have hw := s.beforeAgeing_counted
  generalize s.beforeAgeing = w at *
  generalize hf : (fun k x => agePoint (limitOf w.cfg.limits k) x) = f at *
  have hage : w.agePoints = w.gradeAll f := by rw [← hf]; rfl
  rw [hage] at hexec
  have hcfg : w.cfg = s.cfg := congrArg (fun x => x.2.2.1) hw.rest
  have hsm : w.smt = s.smt := hw.smt
  have hpt : ∀ p, w.point p = s.point p := State.point_congr hsm
  have hplant := w.gradeAll_plant f
  have htp := w.point_gradeAll f
  have hgp : ∀ p k, p < 41 → pointKind p = some k → (w.graded f).point p = f k (s.point p) := by
    intro p k hp hk
    rw [State.point_graded (by rw [hsm, hsmt]; exact hp) hk, hpt]
  have halert := fun p a k => State.alert_gradeAll (s := w) (f := f) (p := p) (a := a) (k := k)
    (hw.alerts.trans hals)
  have hleft := fun j c => State.gradeAll_hasLeft (s := w) (f := f) (j := j) (c := c)
  have hst : ∀ p, ((s.point p).quality ≠ .stale ∧ ((w.gradeAll f).point p).quality = .stale) ↔ w.goesStale f p := by
    intro p
    rw [htp, ← hpt]
    rfl
  generalize w.gradeAll f = t at *
  have htc : t.clk = s.clk.tickSecond := hplant.clk.trans hw.clk
  have hmeter := halert 0 .meterStale .meterRate (by decide) rfl (fun _ _ => rfl) alarm_point_zero (by decide) (by decide)
  have hcv := halert 2 .cvStale .calorific (by decide) rfl (fun _ _ => rfl) alarm_point_two (by decide) (by decide)
  rw [← hst, hw.alert _ (by decide), hw.clk, ← htc] at hmeter hcv
  refine ⟨t, hexec, ?_, fun hv => ?_, fun hv hs => ?_, fun hv hs => ?_, fun p k hp hk => ⟨fun hn => ?_, fun hn => ?_⟩,
    ⟨hmeter.1, hmeter.2, hcv.1, hcv.2, fun j hj c hc hfl hs => ?_⟩, ?_, hplant.kept.trans hw.rest⟩
  · rw [htc]
    exact s.clk.tickSecond_stationSeconds
  · rw [htc]
    exact Clock.tickSecond_invalid hv
  · rw [htc]
    exact Clock.tickSecond_within hv hs
  · rw [htc]
    exact Clock.tickSecond_wraps hv hs
  · rw [htp, hgp p k hp hk, ← hf]
    exact agePoint_never _ hn
  · rw [htp, hgp p k hp hk, ← hf]
    dsimp only
    rw [hcfg]
    exact agePoint_aged _ hn
  · exact hleft j c hj (hw.flows j c ⟨c, hc, rfl, rfl, rfl, hfl⟩) ((hst _).mp hs)
  · exact hplant.statusCountdown.trans hw.countdown

end Sys2Proof.Machine
end

section
/-! A trip of a unit whose feedback does not show STOPPED, and what the duty evaluation after it leaves of the unit (08 R128,
R131 to R134, R138). -/

open Sys2Proof Sys2Proof.Machine

namespace Sys2Proof.Machine

/-! ### The units that an evaluation starts and stops (08 R132, R133) -/

theorem State.leastWorn_ready {s : State} {x : Nat × Compressor} (h : s.leastWorn = some x) :
    s.unit x.1 = some x.2 ∧ x.2.state = .ready := by
  have key : ∀ y, s.leastWorn = some y → s.unit y.1 = some y.2 ∧ y.2.state = .ready := by
    unfold State.leastWorn
    refine List.foldlRecOn (motive := fun best : Option (Nat × Compressor) =>
      ∀ y, best = some y → s.unit y.1 = some y.2 ∧ y.2.state = .ready) unitNumbers _ nofun (fun best hb k _ => ?_)
    split
    · next u hu =>
      split
      · next hr =>
        have hk : ∀ y, some (k, u) = some y → s.unit y.1 = some y.2 ∧ y.2.state = .ready := by
          rintro y ⟨⟩
          exact ⟨hu, hr⟩
        split
        · exact hk
        · split
          · exact hk
          · exact hb
      · exact hb
    · exact hb
  exact key x h

theorem mem_insertWorn {x y : Nat × Compressor} {l : List (Nat × Compressor)} (h : y ∈ insertWorn x l) :
    y = x ∨ y ∈ l := by
  induction l with
  | nil => simpa [insertWorn] using h
  | cons z l ih =>
    unfold insertWorn at h
    split at h
    · simpa using h
    · obtain rfl | h := List.mem_cons.mp h
      · exact .inr List.mem_cons_self
      · exact (ih h).imp_right (List.mem_cons_of_mem _)

theorem State.stopCandidates_running {s : State} {x : Nat × Compressor} (h : x ∈ s.stopCandidates) :
    s.unit x.1 = some x.2 ∧ x.2.state = .running := by
  have key : ∀ y ∈ s.stopCandidates, s.unit y.1 = some y.2 ∧ y.2.state = .running := by
    unfold State.stopCandidates
    refine List.foldlRecOn (motive := fun acc : List (Nat × Compressor) =>
      ∀ y ∈ acc, s.unit y.1 = some y.2 ∧ y.2.state = .running) unitNumbers _ nofun (fun acc hb k _ => ?_)
    split
    · next u hu =>
      split
      · next hr =>
        intro y hy
        obtain rfl | hy := mem_insertWorn hy
        · exact ⟨hu, hr.1⟩
        · exact hb y hy
      · exact hb
    · exact hb
  exact key x h

/-! ### A unit that is down stays down (08 R131 to R134) -/

theorem State.writeRun_ordered (s : State) (k : Nat) : Ordered s (s.writeRun k) := by
  unfold State.writeRun
  split
  · split
    · exact .refl s
    · exact s.writeOrderIfNew_ordered _ _
  · exact .refl s

theorem State.order_writeRun_of_ne (s : State) {k i : Nat} (h : i ≠ 16 + k) : (s.writeRun k).order i = s.order i := by
  unfold State.writeRun
  split
  · split
    · rfl
    · exact s.order_writeOrderIfNew_of_ne _ h
  · rfl

theorem State.runOrder_congr {s t : State} {k : Nat} (h : t.order (16 + k) = s.order (16 + k)) :
    t.runOrder k = s.runOrder k := by
  unfold State.runOrder runActuator
  rw [h]

section
variable {k : Nat} {v : Compressor}

theorem State.runOrder_writeRun {s : State} {e : OrderEntry} (he : s.order (16 + k) = some e)
    (h : s.unit k = some v) (hv : v.state.engaged = false) : (s.writeRun k).runOrder k = .stop := by
  unfold State.writeRun
  rw [h]
  dsimp only
  rw [hv, if_neg (by simp), UnitState.runOrder, hv]
  obtain ⟨⟨x, sec, b⟩, hx, rfl⟩ := State.value_writeOrderIfNew (i := runActuator k) he (.run .stop)
  unfold State.runOrder
  simp only [Bool.false_eq_true, if_false, hx]

theorem State.unit_startUnits (n need : Nat) {s : State} (h : s.unit k = some v) (hv : v.state ≠ .ready) :
    (startUnits n need s).1.unit k = some v := by
  induction n generalizing s with
  | zero => exact h
  | succ n ih =>
    unfold startUnits
    split
    · split
      · next i u hw =>
        obtain ⟨hu, hr⟩ := State.leastWorn_ready hw
        have hne : k ≠ i := by
          rintro rfl
          rw [h] at hu
          cases hu
          exact hv hr
        exact ih ((s.unit_changeUnit_of_ne _ _ hne).trans h)
      · exact h
    · exact h

theorem State.unit_stopUnit {s : State} (h : s.unit k = some v) (hv : v.state ≠ .running) :
    s.stopUnit.unit k = some v := by
  unfold State.stopUnit
  split
  · next i u hw =>
    obtain ⟨hu, hr⟩ := State.stopCandidates_running (List.mem_of_find?_eq_some hw)
    have hne : k ≠ i := by
      rintro rfl
      rw [h] at hu
      cases hu
      exact hv hr
    exact (State.unit_stoppedTest_of_ne _ hne).trans ((s.unit_changeUnit_of_ne _ _ hne).trans h)
  · exact h

theorem State.unit_setLoads {s : State} (h : s.unit k = some v) (hv : v.state ≠ .running) :
    s.setLoads.unit k = some v := by
  unfold State.setLoads
  refine State.forEach_induct (P := fun u => u.unit k = some v) h (fun u i _ hu => ?_)
  by_cases hi : k = i
  · subst hi
    rw [State.unit_modUnit, hu, Option.map_some, if_neg hv]
  · rw [State.unit_modUnit_of_ne _ _ hi]
    exact hu

/-- The orders follow a unit that is down. -/
theorem State.writeUnitOrders_down {s : State} (hk : k ∈ unitNumbers) (hlen : s.ori.length = 31)
    (h : s.unit k = some v) (hv : v.state.engaged = false) :
    s.writeUnitOrders.unit k = some v ∧ s.writeUnitOrders.runOrder k = .stop ∧
      s.writeUnitOrders.loadOrder k = v.load := by
  obtain ⟨h1, h6⟩ := mem_unitNumbers hk
  obtain ⟨u, ⟨hu, hl⟩, _, e⟩ := State.forEach_view (f := State.writeRun) (s := s)
    (I := fun u => u.unit k = some v ∧ u.ori.length = 31)
    (fun u => u.order (16 + k)) hk (by decide)
    (fun u m _ hu => ⟨((u.writeRun_ordered m).unit k).trans hu.1, (u.writeRun_ordered m).orders.trans hu.2⟩)
    (fun u m _ hm _ => u.order_writeRun_of_ne (by omega)) ⟨h, hlen⟩
  obtain ⟨x, hx⟩ := State.order_mem hl (i := 16 + k) (by omega) (by omega)
  have hrun : (s.forEach unitNumbers State.writeRun).runOrder k = .stop :=
    (State.runOrder_congr e).trans (State.runOrder_writeRun hx hu hv)
  have hr : (s.forEach unitNumbers State.writeRun).unit k = some v ∧
      (s.forEach unitNumbers State.writeRun).ori.length = 31 :=
    State.forEach_induct (P := fun u => u.unit k = some v ∧ u.ori.length = 31) ⟨h, hlen⟩
      (fun u m _ hu => ⟨((u.writeRun_ordered m).unit k).trans hu.1, (u.writeRun_ordered m).orders.trans hu.2⟩)
  rw [State.writeUnitOrders_eq]
  generalize s.forEach unitNumbers State.writeRun = w at hrun hr
  obtain ⟨u', ⟨hu', hl'⟩, _, e'⟩ := State.forEach_view (f := State.writeLoad) (s := w)
    (I := fun u => u.unit k = some v ∧ u.ori.length = 31)
    (fun u => u.order (22 + k)) hk (by decide)
    (fun u m _ hu => ⟨((u.writeLoad_ordered m).unit k).trans hu.1, (u.writeLoad_ordered m).orders.trans hu.2⟩)
    (fun u m _ hm _ => u.order_writeLoad_of_ne (by omega)) hr
  obtain ⟨x', hx'⟩ := State.order_mem hl' (i := 22 + k) (by omega) (by omega)
  refine ⟨?_, ?_, ?_⟩
  · exact State.forEach_induct (P := fun u => u.unit k = some v) hr.1
      (fun u m _ hu => ((u.writeLoad_ordered m).unit k).trans hu)
  · refine (State.runOrder_congr ?_).trans hrun
    exact State.order_forEach (fun u m hm => u.order_writeLoad_of_ne (by have := mem_unitNumbers hm; omega)) w
  · exact (State.loadOrder_congr e').trans ((State.load_writeLoad hx').1 v hu')

theorem State.evaluateDuty_down {s : State} (hk : k ∈ unitNumbers) (hlen : s.ori.length = 31)
    (h : s.unit k = some v ∧ s.runOrder k = .stop ∧ s.loadOrder k = v.load) (hv : v.state.engaged = false)
    (hr : v.state ≠ .ready) :
    s.evaluateDuty.unit k = some v ∧ s.evaluateDuty.runOrder k = .stop ∧ s.evaluateDuty.loadOrder k = v.load := by
  have hrun : v.state ≠ .running := fun e => by rw [e] at hv; cases hv
  unfold State.evaluateDuty
  split
  · have hs := State.unit_startUnits 6 s.need h.1 hr
    have ho := startUnits_only 6 s.need s
    generalize startUnits 6 s.need s = r at hs ho ⊢
    dsimp only
    have h2 : (if r.2 = true then r.1 else r.1.stopUnit).unit k = some v := by
      split
      · exact hs
      · exact State.unit_stopUnit hs hrun
    have ho2 : (if r.2 = true then r.1 else r.1.stopUnit).ori = s.ori := by
      split
      · exact ho.ori
      · exact (r.1.stopUnit_only).ori.trans ho.ori
    generalize (if r.2 = true then r.1 else r.1.stopUnit) = w at h2 ho2 ⊢
    refine State.writeUnitOrders_down hk ?_ (State.unit_setLoads h2 hrun) hv
    rw [(State.setLoads_only w).ori, ho2]
    exact hlen
  · exact h

/-- The record of a unit that trips: TRIPPED, or LOCKED OUT at its trip limit (08 R138). -/
def Compressor.tripped (u : Compressor) : Compressor :=
  { u with state := if u.config.tripLimit ≤ min 255 (u.trips + 1) then .lockedOut else .tripped, load := 0
           timeout := none, minRun := none, trips := min 255 (u.trips + 1) }

theorem Compressor.tripped_down (u : Compressor) : u.tripped.state.engaged = false ∧ u.tripped.state ≠ .ready ∧
    u.tripped.load = 0 ∧ u.tripped.state.capable = false := by
  unfold Compressor.tripped
  dsimp only
  split <;> exact ⟨rfl, nofun, rfl, rfl⟩

/-- The orders of a trip and its alerts, before the duty evaluation that it brings. -/
def State.tripRaised (s : State) (k : Nat) (u : Compressor) (a : AlertKind) : State :=
  let s1 := (s.changeUnit k u u.tripped).writeUnitOrders.raise a k
  if u.config.tripLimit ≤ min 255 (u.trips + 1) then s1.raise .unitLockout k else s1

theorem State.tripUnit_eq (s : State) (k : Nat) (u : Compressor) (a : AlertKind) : s.tripUnit k u a =
    dutyAfter (((s.tripRaised k u a).stoppedTest k).1, ((s.tripRaised k u a).stoppedTest k).2 + 1) := by
  unfold State.tripUnit State.tripRaised Compressor.tripped satAdd
  simp only [decide_eq_true_eq]

/-- What the trip leaves before the evaluation. -/
theorem State.tripRaised_spec {s : State} {k : Nat} {u : Compressor} {a : AlertKind}
    (hlen : s.ori.length = 31) (hals : s.als.length = 23) (h : s.unit k = some u) (hd : a ≠ .reportsDropped)
    (ha : a ≠ .unitLockout) :
    (s.tripRaised k u a).unit k = some u.tripped ∧ (s.tripRaised k u a).ori.length = 31 ∧
    (s.tripRaised k u a).smt = s.smt ∧
    (s.tripRaised k u a).alert a = (s.alert a).raised k s.clk.stationSeconds ∧
    (s.tripRaised k u a).alert .unitLockout =
      (if u.config.tripLimit ≤ min 255 (u.trips + 1) then (s.alert .unitLockout).raised k s.clk.stationSeconds
       else s.alert .unitLockout) ∧
    (u.state.capable = true → (s.tripRaised k u a).plu.due = true) := by
  unfold State.tripRaised
  dsimp only
  have hm := s.changeUnit_moved k u u.tripped
  have hu := State.unit_changeUnit h u u.tripped
  have hc := s.changeUnit_calm (K := []) k u u.tripped
  have hdue : u.state.capable = true → (s.changeUnit k u u.tripped).plu.due = true := by
    intro hcap
    unfold State.changeUnit
    dsimp only
    rw [if_pos (by rw [hcap, u.tripped_down.2.2.2]; rfl)]
    rfl
  generalize s.changeUnit k u u.tripped = v at *
  have hw := v.writeUnitOrders_ordered
  have hwc := v.writeUnitOrders_calm (K := [])
  generalize v.writeUnitOrders = w at *
  have hr := w.raise_reported a k
  have hself := State.alert_raise (s := w) (hw.plant.alerts.trans (hm.plant.alerts.trans hals)) hd k
  have hlock := w.alert_raise_of_ne (k := a) (b := .unitLockout) k ha.symm nofun
  have hclk : w.clk = s.clk := hw.plant.clk.trans hm.plant.clk
  generalize w.raise a k = x at *
  have hxl : x.als.length = 23 := hr.alerts.trans (hw.plant.alerts.trans (hm.plant.alerts.trans hals))
  have hr' := x.raise_reported .unitLockout k
  have hself' := State.alert_raise (s := x) hxl (k := .unitLockout) nofun k
  have hne := x.alert_raise_of_ne (k := .unitLockout) (b := a) k ha hd
  have hxc : x.clk = s.clk := hr.plant.clk.trans hclk
  generalize x.raise .unitLockout k = y at *
  have hal : ∀ b, w.alert b = s.alert b := fun b => (hwc.alerts b nofun).trans (hc.alerts b nofun)
  have hxu : x.unit k = some u.tripped :=
    (State.unit_congr (congrArg (fun x => x.cdu.units) hr.rest) k).trans ((hw.unit k).trans hu)
  have hxo : x.ori.length = 31 := hr.plant.orders.trans (hw.orders.trans (hm.plant.orders.trans hlen))
  have hxs : x.smt = s.smt := hr.plant.smt.trans (hw.plant.smt.trans hm.plant.smt)
  have hxd : u.state.capable = true → x.plu.due = true := fun hcap => by
    rw [show x.plu = w.plu from congrArg (fun x => x.plu) hr.rest]
    exact hwc.due (hdue hcap)
  rw [hal, hclk] at hself
  rw [hal] at hlock
  rw [hlock, hxc] at hself'
  split
  · refine ⟨(State.unit_congr (congrArg (fun x => x.cdu.units) hr'.rest) k).trans hxu, hr'.plant.orders.trans hxo,
      hr'.plant.smt.trans hxs, hne.trans hself, hself', fun hcap => ?_⟩
    rw [show y.plu = x.plu from congrArg (fun x => x.plu) hr'.rest]
    exact hxd hcap
  · exact ⟨hxu, hxo, hxs, hself, hlock, hxd⟩

/-- A trip while the feedback does not show STOPPED: the evaluation finds the unit down, and leaves it so. -/
theorem State.tripUnit_tookTrip {s : State} {k : Nat} {u : Compressor} {a : AlertKind} (hk : k ∈ unitNumbers)
    (hlen : s.ori.length = 31) (hals : s.als.length = 23) (h : s.unit k = some u) (hd : a ≠ .reportsDropped)
    (ha : a ≠ .unitLockout) (hst : s.showsStopped k = false) : tookTrip s (s.tripUnit k u a) k u a := by
  have hrest := s.tripUnit_moved k u a
  obtain ⟨hu, ho, hsm, hal, hlk, hdue⟩ := State.tripRaised_spec (a := a) hlen hals h hd ha
  rw [State.tripUnit_eq] at hrest ⊢
  generalize s.tripRaised k u a = w at *
  have hstop : w.stoppedTest k = (w, 0) := by
    unfold State.stoppedTest
    rw [hu]
    dsimp only
    rw [State.showsStopped_congr hsm, hst, if_neg (by simp)]
  rw [hstop] at hrest ⊢
  obtain ⟨heng, hnr, hload, _⟩ := u.tripped_down
  have hdown := State.evaluateDuty_down hk ((w.writeUnitOrders_ordered).orders.trans ho)
    (State.writeUnitOrders_down hk ho hu heng) heng hnr
  have hcalm := (w.writeUnitOrders_calm (K := [])).trans (State.evaluateDuty_calm (K := []) _)
  have e : dutyAfter (w, 0 + 1) = w.writeUnitOrders.evaluateDuty := by
    unfold dutyAfter repeatDuty repeatDuty
    rw [if_neg (by simp)]
  rw [e] at hrest ⊢
  generalize w.writeUnitOrders.evaluateDuty = t at *
  rw [hload] at hdown
  obtain ⟨htu, htr, htl⟩ := hdown
  have hta := fun b => hcalm.alerts b nofun
  refine ⟨fun hlim => ⟨?_, htr, htl, ?_⟩, fun hlim => ⟨?_, fun _ => ⟨?_, htr, htl⟩, fun hs => ?_, ⟨_, htu, rfl, rfl⟩⟩,
    ?_, fun hcap => hcalm.due (hdue hcap), hrest.rest⟩
  · rw [htu, Compressor.tripped, if_pos hlim]
  · rw [hta, hlk, if_pos hlim]
  · rw [hta, hlk, if_neg (by omega)]
  · rw [htu, Compressor.tripped, if_neg (by omega)]
  · rw [hst] at hs
    cases hs
  · rw [hta, hal]

end

end Sys2Proof.Machine
end

section
/-! What a regrade reaches: caverns by a wellhead pressure, units by a run feedback, and nothing else but SMT's own alerts
(02 R22, R25; 07 R113; 08 R138). -/

open Sys2Proof Sys2Proof.Machine

namespace Sys2Proof.Machine

/-- The quality of the point changes by the grading. -/
def State.changes (s : State) (f : PointKind → Point → Point) (p : Nat) : Prop :=
  ((s.graded f).point p).quality ≠ (s.point p).quality

theorem State.goesStale.changes {s : State} {f : PointKind → Point → Point} {p : Nat} (h : s.goesStale f p) :
    s.changes f p := fun e => h.1 (e.symm.trans h.2)

/-- The four things that a delivery can be. -/
inductive Delivery (s : State) (f : PointKind → Point → Point) (u : State) (p : Nat) : State → Prop
  | none : Delivery s f u p u
  | alarm (a : AlertKind) (h : a = .meterStale ∨ a = .cvStale) : Delivery s f u p (u.raise a 0)
  | pressure (j : Nat) (hj : j ∈ cavernNumbers) (hp : s.changes f (pressurePoint j)) (q : Quality) :
      Delivery s f u p (u.pressureQuality j q)
  | feedback (k : Nat) (hk : k ∈ unitNumbers) (hp : s.changes f (feedbackPoint k)) :
      Delivery s f u p (u.feedbackQuality k ((s.graded f).point (feedbackPoint k)).quality)

theorem deliverChange_delivery {s u : State} {f : PointKind → Point → Point} {p : Nat} (hp : p < 41)
    (hu : u.smt = (s.graded f).smt) : Delivery s f u p (deliverChange s.smt u p) := by
  cases hk : pointKind p with
  | none => rw [deliverChange_none hk]; exact .none
  | some k =>
    rw [deliverChange_eq hu hk]
    split
    · exact .none
    · next hne =>
      unfold State.deliverQuality
      have hr : ∀ a, (a = .meterStale ∨ a = .cvStale) →
          Delivery s f u p (if ((s.graded f).point p).quality = .stale then u.raise a 0 else u) := by
        intro a ha
        split
        · exact .alarm a ha
        · exact .none
      cases k with
      | meterRate => exact hr _ (.inl rfl)
      | calorific => exact hr _ (.inr rfl)
      | wellPressure j =>
        obtain ⟨hj, rfl⟩ := wellPressure_point p hp j hk
        exact .pressure j hj hne _
      | runFeedback k =>
        obtain ⟨hk', rfl⟩ := runFeedback_point p hp k hk
        exact .feedback k hk' hne
      | _ => exact .none

/-- What each delivery keeps, the grading keeps. -/
theorem State.gradeAll_keeps {s : State} {f : PointKind → Point → Point} {P : State → Prop}
    (h : ∀ u p v, Delivery s f u p v → P u → P v) (hs : P (s.graded f)) : P (s.gradeAll f) := by
  rw [State.gradeAll_eq]
  have := State.forEach_induct (P := fun u => u.smt = (s.graded f).smt ∧ P u) (s := s.graded f)
    (ns := List.range 41) (f := deliverChange s.smt) ⟨rfl, hs⟩ (fun u p hp ⟨hu, hP⟩ =>
      ⟨(deliverChange_plant s.smt u p).smt.trans hu,
        h u p _ (deliverChange_delivery (List.mem_range.mp hp) hu) hP⟩)
  exact this.2

theorem Reported.kept {s t : State} (h : Reported s t) : t.ori = s.ori ∧ t.plu = s.plu ∧ t.cvc = s.cvc ∧
    t.cdu = s.cdu ∧ t.drc = s.drc :=
  ⟨congrArg (fun x => x.ori) h.rest, congrArg (fun x => x.plu) h.rest, congrArg (fun x => x.cvc) h.rest,
    congrArg (fun x => x.cdu) h.rest, congrArg (fun x => x.drc) h.rest⟩

/-- A feedback quality other than STALE brings nothing. -/
theorem State.feedbackQuality_of_not_stale {s : State} {q : Quality} (h : q ≠ .stale) (k : Nat) :
    s.feedbackQuality k q = s := by
  unfold State.feedbackQuality
  split
  · rfl
  · rw [if_neg (fun hc => h hc.1)]

section
variable (s : State) (f : PointKind → Point → Point)

theorem State.gradeAll_drc : (s.gradeAll f).drc = s.drc := by
  refine State.gradeAll_keeps (P := fun u => u.drc = s.drc) (fun u p v hd hu => ?_) rfl
  cases hd with
  | none => exact hu
  | alarm a _ => exact (u.raise_reported a 0).kept.2.2.2.2.trans hu
  | pressure j _ _ q => exact (u.pressureQuality_moved j q).drc.trans hu
  | feedback k _ _ => exact (u.feedbackQuality_moved k _).drc.trans hu

variable {s f}

/-- No wellhead pressure changes quality, no run feedback goes STALE. -/
def State.pressuresStand (s : State) (f : PointKind → Point → Point) : Prop :=
  ∀ j ∈ cavernNumbers, ¬ s.changes f (pressurePoint j)

def State.feedbacksStand (s : State) (f : PointKind → Point → Point) : Prop :=
  ∀ k ∈ unitNumbers, ¬ s.goesStale f (feedbackPoint k)

theorem State.feedbackQuality_stands (h : s.feedbacksStand f) {k : Nat} (hk : k ∈ unitNumbers)
    (hp : s.changes f (feedbackPoint k)) (u : State) :
    u.feedbackQuality k ((s.graded f).point (feedbackPoint k)).quality = u :=
  State.feedbackQuality_of_not_stale (fun e => h k hk ⟨fun e' => hp (e.trans e'.symm), e⟩) k

theorem State.gradeAll_cvc (h : s.pressuresStand f) : (s.gradeAll f).cvc = s.cvc := by
  refine State.gradeAll_keeps (P := fun u => u.cvc = s.cvc) (fun u p v hd hu => ?_) rfl
  cases hd with
  | none => exact hu
  | alarm a _ => exact (u.raise_reported a 0).kept.2.2.1.trans hu
  | pressure j hj hp q => exact absurd hp (h j hj)
  | feedback k _ _ => exact (u.feedbackQuality_moved k _).cvc.trans hu

theorem State.gradeAll_cdu (h : s.feedbacksStand f) : (s.gradeAll f).cdu = s.cdu := by
  refine State.gradeAll_keeps (P := fun u => u.cdu = s.cdu) (fun u p v hd hu => ?_) rfl
  cases hd with
  | none => exact hu
  | alarm a _ => exact (u.raise_reported a 0).kept.2.2.2.1.trans hu
  | pressure j _ _ q => exact (u.pressureQuality_moved j q).cdu.trans hu
  | feedback k hk hp => rw [State.feedbackQuality_stands h hk hp]; exact hu

/-- Where neither caverns nor units are reached, no order, no due mark and no other alert is. -/
theorem State.gradeAll_stands (hj : s.pressuresStand f) (hk : s.feedbacksStand f) :
    (s.gradeAll f).ori = s.ori ∧ (s.gradeAll f).plu = s.plu ∧
    ∀ a, a ≠ .meterStale → a ≠ .cvStale → a ≠ .reportsDropped → (s.gradeAll f).alert a = s.alert a := by
  refine State.gradeAll_keeps (P := fun u => u.ori = s.ori ∧ u.plu = s.plu ∧
    ∀ a, a ≠ .meterStale → a ≠ .cvStale → a ≠ .reportsDropped → u.alert a = s.alert a)
    (fun u p v hd hu => ?_) ⟨rfl, rfl, fun _ _ _ _ => rfl⟩
  obtain ⟨ho, hp, ha⟩ := hu
  cases hd with
  | none => exact ⟨ho, hp, ha⟩
  | alarm b hb =>
    obtain ⟨e1, e2, _⟩ := (u.raise_reported b 0).kept
    refine ⟨e1.trans ho, e2.trans hp, fun a h1 h2 h3 => ?_⟩
    rw [u.alert_raise_of_ne 0 (by rintro rfl; exact hb.elim h1 h2) h3]
    exact ha a h1 h2 h3
  | pressure j hj' hp' q => exact absurd hp' (hj j hj')
  | feedback k hk' hp' => rw [State.feedbackQuality_stands hk hk' hp']; exact ⟨ho, hp, ha⟩

/-- One run feedback alone changes, to STALE: the unit trips if it is RUNNING, and nothing else comes of it. -/
theorem State.gradeAll_single {k : Nat} (hk : k ∈ unitNumbers) (hst : s.goesStale f (feedbackPoint k))
    (hother : ∀ p, p ≠ feedbackPoint k → ¬ s.changes f p) :
    s.gradeAll f = (s.graded f).feedbackQuality k .stale := by
  have hsame : ∀ u m, m ≠ feedbackPoint k → u.smt = (s.graded f).smt → deliverChange s.smt u m = u :=
    fun u m hm hu => deliverChange_same hu (not_not.mp (hother m hm))
  have hkind : pointKind (feedbackPoint k) = some (.runFeedback k) :=
    (by decide : ∀ k ∈ unitNumbers, pointKind (feedbackPoint k) = some (.runFeedback k)) k hk
  have hp : feedbackPoint k < 41 := by
    have := mem_unitNumbers hk
    unfold feedbackPoint
    omega
  rw [State.gradeAll_eq]
  refine State.forEach_reaches (P := fun u => u = s.graded f)
    (Q := fun u => u = (s.graded f).feedbackQuality k .stale) (List.mem_range.mpr hp) (fun u m _ hm hu => ?_)
    (fun u hu => ?_) (fun u m _ hm hu => ?_) List.nodup_range rfl
  · rw [hsame u m hm (by rw [hu])]
    exact hu
  · rw [deliverChange_eq (by rw [hu]) hkind, hst.2, if_neg (fun e => hst.1 e.symm), hu]
    rfl
  · rw [hsame u m hm (by rw [hu]; exact ((s.graded f).feedbackQuality_moved k .stale).plant.smt)]
    exact hu

theorem State.graded_of_same (h : ∀ k x, f k x = x) : s.graded f = s := by
  have e : ∀ (l : List Point) p, gradePoints f p l = l := by
    intro l
    induction l with
    | nil => exact fun _ => rfl
    | cons x l ih =>
      intro p
      unfold gradePoints
      rw [ih]
      split
      · rw [h]
      · rfl
  unfold State.graded
  rw [e]

/-- A grading that changes no point brings nothing. -/
theorem State.gradeAll_of_same (h : ∀ k x, f k x = x) : s.gradeAll f = s := by
  have hg : s.graded f = s := State.graded_of_same h
  rw [State.gradeAll_eq, hg]
  refine State.forEach_induct (P := fun u => u = s) rfl (fun u p _ hu => ?_)
  rw [hu]
  exact deliverChange_same (f := f) (by rw [hg]) (by rw [hg])

end

end Sys2Proof.Machine
end

section
/-! CONFIGURE STATION: the checks, the settings as applied, the regrade, and the way out of BLANK (01 R5, R6). -/

open Sys2Proof Sys2Proof.Machine

namespace Sys2Proof.Machine

/-! ### The checks and the settings -/

theorem State.settingsRefusal_eq (s : State) (f : Settings) : s.settingsRefusal f =
    if 2 < f.mode then some .badRange
    else if f.mode ≠ s.cfg.mode ∧ s.sts.state ≠ .blank ∧ s.noShippers = false then some .notIdle else none := by
  unfold State.settingsRefusal firstFailure
  by_cases h2 : 2 < f.mode
  · simp [h2]
  · by_cases hm : f.mode = s.cfg.mode
    · rw [hm] at h2 ⊢
      simp [h2]
    · by_cases hb : s.sts.state = .blank
      · simp [h2, hm, hb, State.isBlank]
      · cases s.noShippers <;> simp [h2, hm, hb, State.isBlank]

theorem acceptedResult_eq (f : Settings) :
    acceptedResult (appliedSettings f != f) = if appliedSettings f = f then .ok else .clamped := by
  unfold acceptedResult
  by_cases h : appliedSettings f = f <;> simp [h]

/-- The grading of a reconfiguration: the points of a class whose limit changes (02 R22). -/
def regradeBy (new old : ClassLimits) (k : PointKind) (x : Point) : Point :=
  if limitOf new k = limitOf old k then x else regrade (limitOf new k) x

/-- The state once SMT has regraded under the settings. -/
def State.regraded (s : State) (f : Settings) : State :=
  (s.applySettings f).gradeAll (regradeBy (appliedSettings f).limits s.cfg.limits)

theorem State.acceptSettings_eq (s : State) (f : Settings) :
    s.acceptSettings f = (s.regraded f).leaveBlank.makeSnapshotDue := rfl

theorem regradeBy_eq (new old : ClassLimits) (k : PointKind) (x : Point) : regradeBy new old k x =
    if x.quality = .never ∨ limitOf new k = limitOf old k then x
    else { x with quality := gradeOf (limitOf new k) x.age } := by
  unfold regradeBy regrade
  by_cases h1 : limitOf new k = limitOf old k
  · simp [h1]
  · by_cases h2 : x.quality = .never <;> simp [h1, h2]

theorem regradeBy_same (l : ClassLimits) (k : PointKind) (x : Point) : regradeBy l l k x = x := by
  unfold regradeBy
  rw [if_pos rfl]

/-! ### The way out of BLANK -/

/-- An entry to TRIPPED leaves a cavern that has left its flow as it is. -/
theorem Tripped.hasLeft {s t : State} (h : Tripped s t) {j : Nat} (hj : j ∈ cavernNumbers) {c : Cavern}
    (hs : s.hasLeft j c) : t.hasLeft j c := by
  obtain ⟨_, hplu, _, w, hw, ht⟩ := h
  obtain ⟨h1, h8⟩ := mem_cavernNumbers hj
  obtain ⟨y, hy, hnf⟩ := hs.not_flowing
  obtain ⟨⟨x, hx, e1, e2, e3, e4, _, hr, hst⟩, _⟩ := hs
  rw [hy] at hx
  cases hx
  obtain ⟨_, hv⟩ := hw.poised.valve j hj
  have htc : t.cavern j = some (s.watched j y).halted := by rw [ht.cavern j hj, hw.poised.cavern j hj, hy]; rfl
  have hn : ¬ w.flows j := by
    rw [hw.poised.flows hj]
    unfold State.flows
    simp [hy, hnf]
  rw [Cavern.halted_of_not_flowing (c := s.watched j y) hnf] at htc
  have hro := ((ht.rate j hj).2 hn).trans (hw.poised.others _ (by omega))
  exact ⟨⟨_, htc, e1, e2, e3, e4, State.valveOrder_of_order ((ht.order j (by omega)).trans hv),
    (State.rateOrder_congr hro).trans hr, hst⟩, by rw [hplu]⟩

/-- What the way out of BLANK leaves of alerts and of caverns. -/
theorem State.leaveBlank_keeps {u : State} (ho : u.ori.length = 31) (ha : u.als.length = 23)
    (hheat : ∀ n bed, u.drc.heating = some (n, bed) → n ∈ trainNumbers) :
    (∀ b, b ∉ [AlertKind.stationTrip, .trainDerated, .trainBreakthrough, .reportsDropped] →
      u.leaveBlank.alert b = u.alert b) ∧
    (∀ j ∈ cavernNumbers, ∀ c, u.hasLeft j c → u.leaveBlank.hasLeft j c) := by
  unfold State.leaveBlank
  split
  · split
    · have ht := State.tripEntry_tripped ho ha hheat
      generalize u.tripEntry = t at *
      exact ⟨(ht.facts ho hheat).alerts, fun j hj c hc => ht.hasLeft hj hc⟩
    · exact ⟨fun _ _ => rfl, fun j _ c ⟨⟨x, hx, h⟩, _⟩ => ⟨⟨x, hx, h⟩, rfl⟩⟩
  · exact ⟨fun _ _ => rfl, fun _ _ _ h => h⟩

/-! ### CONFIGURE STATION -/

/-- The grading that CONFIGURE STATION `f` brings in `s`. -/
def State.grading (s : State) (f : Settings) : PointKind → Point → Point :=
  regradeBy (appliedSettings f).limits s.cfg.limits

/-- The settings, the marks, the countdown and the graded points, before any change is delivered. -/
def State.configured (s : State) (f : Settings) : State := (s.applySettings f).graded (s.grading f)

/-- What an accepted CONFIGURE STATION leaves, the due mark of SNS apart. -/
structure Configured (s : State) (f : Settings) (v : State) : Prop where
  plant : ∃ st, PlantMoved ((s.configured f).setStation st) v
  active : s.sts.state ≠ .blank → v.sts = s.sts
  parked : s.sts.state = .blank → s.sts.tripActive = false →
    v.sts = { s.sts with state := .parked } ∧ v.plu.due = true
  tripped : s.sts.state = .blank → s.sts.tripActive = true →
    v.sts = { s.sts with state := .tripped } ∧ v.plu.due = true ∧ v.ordersSafe = true ∧ v.atRest = true ∧
      v.alert .stationTrip = (s.alert .stationTrip).raised 0 s.clk.stationSeconds
  meter : (s.applySettings f).goesStale (s.grading f) 0 →
    v.alert .meterStale = (s.alert .meterStale).raised 0 s.clk.stationSeconds
  noMeter : ¬ (s.applySettings f).goesStale (s.grading f) 0 → v.alert .meterStale = s.alert .meterStale
  calorific : (s.applySettings f).goesStale (s.grading f) 2 →
    v.alert .cvStale = (s.alert .cvStale).raised 0 s.clk.stationSeconds
  noCalorific : ¬ (s.applySettings f).goesStale (s.grading f) 2 → v.alert .cvStale = s.alert .cvStale
  cavern : ∀ j ∈ cavernNumbers, ∀ c, s.cavern j = some c → c.state.flowing = true →
    (s.applySettings f).goesStale (s.grading f) (pressurePoint j) → v.hasLeft j c
  unit : ∀ k ∈ unitNumbers, ∀ u, s.unit k = some u → u.state = .running → s.sts.state ≠ .blank →
    (s.applySettings f).goesStale (s.grading f) (feedbackPoint k) →
    (∀ p, p ≠ feedbackPoint k → ¬ (s.applySettings f).changes (s.grading f) p) →
    tookTrip (s.configured f) v k u .unitTrip
  drc : s.sts.state ≠ .blank ∨ s.sts.tripActive = false → v.drc = s.drc
  cvc : s.sts.state ≠ .blank ∨ s.sts.tripActive = false →
    (s.applySettings f).pressuresStand (s.grading f) → v.cvc = s.cvc
  cdu : s.sts.state ≠ .blank ∨ s.sts.tripActive = false →
    (s.applySettings f).feedbacksStand (s.grading f) → v.cdu = s.cdu
  stands : s.sts.state ≠ .blank ∨ s.sts.tripActive = false →
    (s.applySettings f).pressuresStand (s.grading f) → (s.applySettings f).feedbacksStand (s.grading f) →
    v.ori = s.ori ∧ (s.sts.state ≠ .blank → v.plu = s.plu) ∧
      ∀ a, a ≠ .meterStale → a ≠ .cvStale → a ≠ .reportsDropped → v.alert a = s.alert a
  same : s.sts.state ≠ .blank → (appliedSettings f).limits = s.cfg.limits → v = s.applySettings f

/-- What SMT's own alerts and every other alert but those of CVC and CDU are after the regrade. -/
theorem State.alert_regraded {x : State} {g : PointKind → Point → Point} {a : AlertKind} (h1 : a ≠ .meterStale)
    (h2 : a ≠ .cvStale) (hc : a ∉ cavernAlerts) (hu : a ∉ unitAlerts) : (x.gradeAll g).alert a = x.alert a := by
  refine State.gradeAll_keeps (P := fun u => u.alert a = x.alert a) (fun u p v hd hu' => ?_) rfl
  cases hd with
  | none => exact hu'
  | alarm b hb =>
    exact (u.alert_raise_of_ne 0 (by rintro rfl; exact hb.elim h1 h2) (fun e => hc (by rw [e]; decide))).trans hu'
  | pressure j _ _ q => exact ((u.pressureQuality_calm j q).alerts a hc).trans hu'
  | feedback k _ _ => exact ((u.feedbackQuality_calm k _).alerts a hu).trans hu'

theorem PlantMoved.setStation {s t : State} (h : PlantMoved s t) (st : StationState) :
    PlantMoved (s.setStation st) (t.setStation st) :=
  ⟨congrArg (fun x : State => x.setStation st) h.rest, h.caverns, h.units, h.trains, h.orders, h.alerts, h.sent⟩

theorem State.leaveBlank_configured {s : State} (f : Settings) (hshape : s.shaped = true) :
    Configured s f (s.regraded f).leaveBlank := by
  obtain ⟨hsmt, hals, _⟩ := State.shaped_parts hshape
  have hori := State.shaped_orders hshape
  have hp := (s.applySettings f).gradeAll_plant (s.grading f)
  have hdrc := (s.applySettings f).gradeAll_drc (s.grading f)
  have halert := fun p a k => State.alert_gradeAll (s := s.applySettings f) (f := s.grading f) (p := p) (a := a) (k := k)
    hals
  have hother := fun a => State.alert_regraded (x := s.applySettings f) (g := s.grading f) (a := a)
  have hleft := fun j c => State.gradeAll_hasLeft (s := s.applySettings f) (f := s.grading f) (j := j) (c := c)
  have hcvc := State.gradeAll_cvc (s := s.applySettings f) (f := s.grading f)
  have hcdu := State.gradeAll_cdu (s := s.applySettings f) (f := s.grading f)
  have hstands := State.gradeAll_stands (s := s.applySettings f) (f := s.grading f)
  have hsingle := fun k => State.gradeAll_single (s := s.applySettings f) (f := s.grading f) (k := k)
  have hsame := State.gradeAll_of_same (s := s.applySettings f) (f := s.grading f)
  have hu : s.regraded f = (s.applySettings f).gradeAll (s.grading f) := rfl
  rw [hu]
  clear hu
  generalize (s.applySettings f).gradeAll (s.grading f) = u at *
  have hsts : u.sts = s.sts := hp.sts
  have hmeter := halert 0 .meterStale .meterRate (by decide) rfl (fun _ _ => rfl) alarm_point_zero (by decide) (by decide)
  have hcv := halert 2 .cvStale .calorific (by decide) rfl (fun _ _ => rfl) alarm_point_two (by decide) (by decide)
  have huo : u.ori.length = 31 := hp.orders.trans hori
  have hua : u.als.length = 23 := hp.alerts.trans hals
  have hheat : ∀ n bed, u.drc.heating = some (n, bed) → n ∈ trainNumbers := by
    rw [hdrc]
    exact fun n bed hh => State.shaped_heating (s := s) hshape hh
  obtain ⟨hka, hkl⟩ := State.leaveBlank_keeps huo hua hheat
  have hnb : s.sts.state ≠ .blank → u.leaveBlank = u := by
    intro hb
    unfold State.leaveBlank State.isBlank
    rw [hsts, if_neg (by simpa using hb)]
  have hpk : s.sts.state = .blank → s.sts.tripActive = false → u.leaveBlank = (u.setStation .parked).makePlanDue := by
    intro hb ha
    unfold State.leaveBlank State.isBlank
    rw [hsts, if_pos (by simpa using hb), if_neg (by simp [ha])]
  have htr : s.sts.state = .blank → s.sts.tripActive = true → u.leaveBlank = u.tripEntry := by
    intro hb ha
    unfold State.leaveBlank State.isBlank
    rw [hsts, if_pos (by simpa using hb), if_pos (by simp [ha])]
  have hout : s.sts.state ≠ .blank ∨ s.sts.tripActive = false →
      u.leaveBlank = u ∨ (s.sts.state = .blank ∧ u.leaveBlank = (u.setStation .parked).makePlanDue) := by
    intro h
    by_cases hb : s.sts.state = .blank
    · exact .inr ⟨hb, hpk hb (h.resolve_left (fun hn => hn hb))⟩
    · exact .inl (hnb hb)
  refine ⟨?_, fun hb => ?_, fun hb ha => ?_, fun hb ha => ?_, fun h => ?_, fun h => ?_, fun h => ?_, fun h => ?_,
    fun j hj c hc hfl hst => ?_, fun k hk w hw hrun hb hst hoth => ?_, fun h => ?_, fun h hpr => ?_, fun h hfb => ?_,
    fun h hpr hfb => ?_, fun hb hlim => ?_⟩
  · obtain ⟨st, hst⟩ := u.leaveBlank_plant
    exact ⟨st, (hp.setStation st).trans hst⟩
  · rw [hnb hb, hsts]
  · rw [hpk hb ha, State.makePlanDue_sts, State.setStation, hsts]
    exact ⟨rfl, rfl⟩
  · have ht := State.tripEntry_tripped huo hua hheat
    rw [htr hb ha]
    generalize u.tripEntry = t at *
    refine ⟨ht.plant.sts.trans (by rw [State.setStation, hsts]), by rw [ht.planner], ht.rest.2.1, ht.rest.2.2, ?_⟩
    rw [(ht.facts huo hheat).alert, hother .stationTrip nofun nofun (by decide) (by decide), hp.clk]
    rfl
  · exact (hka _ (by decide)).trans (hmeter.1 h)
  · exact (hka _ (by decide)).trans (hmeter.2 h)
  · exact (hka _ (by decide)).trans (hcv.1 h)
  · exact (hka _ (by decide)).trans (hcv.2 h)
  · exact hkl j hj c (hleft j c hj ⟨c, hc, rfl, rfl, rfl, hfl⟩ hst)
  · rw [hnb hb, hsingle k hk hst hoth]
    have hstale : ((s.configured f).point (feedbackPoint k)).quality = .stale := hst.2
    have hns : (s.configured f).showsStopped k = false := by
      unfold State.showsStopped Point.shows Point.usable
      rw [hstale]
      rfl
    have hfq : (s.configured f).feedbackQuality k .stale = (s.configured f).tripUnit k w .unitTrip := by
      have hw' : (s.configured f).unit k = some w := hw
      unfold State.feedbackQuality
      rw [hw']
      dsimp only
      rw [if_pos ⟨rfl, hrun⟩]
    have htook := State.tripUnit_tookTrip (s := s.configured f) (a := .unitTrip) hk hori hals hw nofun nofun hns
    rw [← hfq] at htook
    exact htook
  · obtain e | ⟨_, e⟩ := hout h <;> rw [e]
    · exact hdrc
    · exact hdrc
  · obtain e | ⟨_, e⟩ := hout h <;> rw [e]
    · exact hcvc hpr
    · exact hcvc hpr
  · obtain e | ⟨_, e⟩ := hout h <;> rw [e]
    · exact hcdu hfb
    · exact hcdu hfb
  · obtain ⟨h1, h2, h3⟩ := hstands hpr hfb
    obtain e | ⟨hb, e⟩ := hout h <;> rw [e]
    · exact ⟨h1, fun _ => h2, h3⟩
    · exact ⟨h1, fun hn => absurd hb hn, h3⟩
  · rw [hnb hb]
    refine hsame (fun k x => ?_)
    unfold State.grading
    rw [hlim]
    exact regradeBy_same _ k x

end Sys2Proof.Machine
end

section
/-! CONFIGURE STATION as a request: its checks, its reply, and what stands (01 R5, R6). -/

open Sys2Proof Sys2Proof.Machine

namespace Sys2Proof.Machine

/-- An accepted CONFIGURE STATION replies with the settings as they now stand. -/
theorem State.answer_configureStation {s : State} {f : Settings} (h : s.settingsRefusal f = none) :
    s.answer (.configureStation f) =
      { state := (s.regraded f).leaveBlank.makeSnapshotDue
        result := if appliedSettings f = f then .ok else .clamped
        items := .u8 (stationCode (s.regraded f).leaveBlank.makeSnapshotDue.sts.state) ::
          settingsItems (s.regraded f).leaveBlank.makeSnapshotDue.cfg } := by
  have e : s.answer (.configureStation f) = s.configureStation f := rfl
  rw [e]
  unfold State.configureStation
  rw [answerBy_accepted h, acceptedResult_eq, State.acceptSettings_eq]

theorem State.answer_configureStation_refused {s : State} {f : Settings} {r : Result}
    (h : s.settingsRefusal f = some r) : s.answer (.configureStation f) =
      { state := s, result := r, items := .u8 (stationCode s.sts.state) :: settingsItems s.cfg } := by
  have e : s.answer (.configureStation f) = s.configureStation f := rfl
  rw [e]
  unfold State.configureStation
  rw [answerBy_refused h]

/-- The configured state differs from the one before in the settings, the warning marks, the countdown and the points. -/
theorem Configured.frame {s v : State} {f : Settings} (h : Configured s f v) :
    v.cfg = appliedSettings f ∧ v.nst = s.nst.map (fun p => { p with disarmed := false }) ∧
    v.slk.statusCountdown = appliedInterval f.statusInterval ∧ v.sns = s.sns ∧
    v.smt = ((s.applySettings f).graded (s.grading f)).smt ∧ v.slk.rx = s.slk.rx ∧
    (∃ more, v.slk.tx = s.slk.tx ++ more) ∧
    { v with sts := s.sts, cfg := s.cfg, nst := s.nst, smt := s.smt, cvc := s.cvc, cdu := s.cdu
             drc := s.drc, ori := s.ori, als := s.als, plu := { v.plu with due := s.plu.due }
             slk := { v.slk with statusCountdown := s.slk.statusCountdown, tx := s.slk.tx } } = s := by
  obtain ⟨st, hp⟩ := h.plant
  obtain ⟨more, hm, _⟩ := hp.sent
  refine ⟨hp.cfg, hp.nst, hp.statusCountdown, hp.sns, hp.smt, hp.rx, ⟨more, hm⟩, ?_⟩
  exact congrArg (fun x : State => { x with
    sts := s.sts, cfg := s.cfg, nst := s.nst, smt := s.smt, cdu := s.cdu
    slk := { x.slk with statusCountdown := s.slk.statusCountdown } }) hp.rest

/-- A trip is seen past the due mark of SNS and the reply. -/
theorem tookTrip_replied {a v : State} {k : Nat} {u : Compressor} {kind : AlertKind} (h : tookTrip a v k u kind)
    (r : Record) : tookTrip (a.makeSnapshotDue.withRx []) ((v.makeSnapshotDue.withRx []).sends r) k u kind := by
  obtain ⟨h1, h2, h3, h4, h5⟩ := h
  exact ⟨h1, h2, h3, h4, congrArg (fun x : State => x.makeSnapshotDue.withRx []) h5⟩

/-- The configured state, written as the request's state with five items replaced. -/
theorem State.configured_eq {s v : State} {r : Request} {f : Settings} (hrx : s.slk.rx = [])
    (hcfg : v.cfg = appliedSettings f) (hnst : v.nst = s.nst.map (fun p => { p with disarmed := false }))
    (hsmt : v.smt = (State.configured (s.withRx [r]) f).smt) (hsns : v.sns = s.sns)
    (hcd : v.slk.statusCountdown = appliedInterval f.statusInterval) :
    { s with cfg := v.cfg, nst := v.nst, smt := v.smt, sns := v.makeSnapshotDue.sns
             slk := { s.slk with statusCountdown := v.slk.statusCountdown } } =
      (State.configured (s.withRx [r]) f).makeSnapshotDue.withRx [] := by
  have e : v.makeSnapshotDue.sns = { s.sns with due := true } := congrArg (fun x : Store => { x with due := true }) hsns
  rw [hcfg, hnst, hsmt, e, hcd]
  exact congrArg (fun x : State => { x with
    cfg := appliedSettings f, nst := s.nst.map (fun p : Partition => { p with disarmed := false }),
    smt := (State.configured (s.withRx [r]) f).smt, sns := { s.sns with due := true },
    slk := { x.slk with statusCountdown := appliedInterval f.statusInterval } }) (State.withRx_self hrx).symm

/-- Settles O23: the checks refuse in order; otherwise the settings, the regrade and the way out of BLANK. -/
theorem configureStationAppliesSettings : Obligations.ConfigureStationAppliesSettings := by
  intro tag f s h hshape
  have hkind : s.held ⟨tag, .configureStation f⟩ = false := s.held_of_kind rfl
  obtain ⟨hsmt, _, _⟩ := State.shaped_parts hshape
  have hrx : s.slk.rx = [] := (State.receptive_parts h).2.1
  have href : (s.withRx [⟨tag, .configureStation f⟩]).settingsRefusal f = if 2 < f.mode then some .badRange
      else if f.mode ≠ s.cfg.mode ∧ s.sts.state ≠ .blank ∧ s.noShippers = false then some .notIdle else none :=
    State.settingsRefusal_eq _ f
  refine ⟨fun hmode => ?_, fun hmode hne hb hns => ?_, fun hmode hok => ?_⟩
  · rw [if_pos hmode] at href
    exact exec_answered (b := .configureStation f) rfl h hkind nofun rfl (State.answer_configureStation_refused href)
  · rw [if_neg (by omega), if_pos ⟨hne, hb, hns⟩] at href
    exact exec_answered (b := .configureStation f) rfl h hkind nofun rfl (State.answer_configureStation_refused href)
  · have hnot : ¬ (f.mode ≠ s.cfg.mode ∧ s.sts.state ≠ .blank ∧ s.noShippers = false) := by
      rintro ⟨h1, h2, h3⟩
      obtain e | e | e := hok
      · exact h1 e
      · exact h2 e
      · rw [h3] at e
        cases e
    rw [if_neg (by omega), if_neg hnot] at href
    have ha := State.answer_configureStation href
    have hc := State.leaveBlank_configured (s := s.withRx [⟨tag, .configureStation f⟩]) f hshape
    generalize (State.regraded (s.withRx [⟨tag, .configureStation f⟩]) f).leaveBlank = v at *
    obtain ⟨hcfg, hnst, hcd, hsns, hsm, hvrx, ⟨more, hmore⟩, hframe⟩ := hc.frame
    have hexec := exec_answered_to (c := .configureStation tag f) (b := .configureStation f) rfl h hkind nofun rfl ha hvrx
    have hlim : ∀ k, limitOf v.cfg.limits k = limitOf (appliedSettings f).limits k := by rw [hcfg]; exact fun _ => rfl
    have hpt : ∀ p, v.point p = ((s.applySettings f).graded (s.grading f)).point p := State.point_congr hsm
    have hstale : ∀ p, ((s.point p).quality ≠ .stale ∧ (v.point p).quality = .stale) ↔
        (s.applySettings f).goesStale (s.grading f) p := by
      intro p
      rw [hpt]
      rfl
    have hchange : ∀ p, (v.point p).quality ≠ (s.point p).quality ↔ (s.applySettings f).changes (s.grading f) p := by
      intro p
      rw [hpt]
      rfl
    refine ⟨_, hexec, hcfg, hnst, ?_, ?_, hc.active, hc.parked, hc.tripped, fun p k hp hk => ?_,
      ⟨fun hs => hc.meter ((hstale 0).mp hs), fun hs => hc.noMeter (mt (hstale 0).mpr hs),
        fun hs => hc.calorific ((hstale 2).mp hs), fun hs => hc.noCalorific (mt (hstale 2).mpr hs),
        fun j hj c hcj hfl hs => hc.cavern j hj c hcj hfl ((hstale _).mp hs), ?_, ?_⟩, ?_, ?_, ?_⟩
    · refine hcd.trans (Eq.trans ?_ (congrArg (fun x => x.statusInterval) hcfg).symm)
      rfl
    · exact congrArg (fun x : Store => { x with due := true }) hsns
    · refine (hpt p).trans ((State.point_graded (s := s.applySettings f) (hsmt.symm ▸ hp) hk).trans ?_)
      refine (regradeBy_eq _ _ k _).trans ?_
      rw [← hlim]
      rfl
    · intro g k hk w hw hrun hb hs hoth
      have htook := hc.unit k hk w hw hrun hb ((hstale _).mp hs) (fun p hp => mt (hchange p).mpr (hoth p hp))
      have hg : g = (State.configured (s.withRx [⟨tag, .configureStation f⟩]) f).makeSnapshotDue.withRx [] :=
        State.configured_eq hrx hcfg hnst hsm hsns hcd
      rw [hg]
      exact tookTrip_replied htook _
    · intro hor
      exact ⟨hc.drc hor, fun hp => hc.cvc hor (fun j hj => mt (hchange _).mpr (hp j hj)),
        fun hf => hc.cdu hor (fun k hk => mt (hstale _).mpr (hf k hk)),
        fun hp hf => hc.stands hor (fun j hj => mt (hchange _).mpr (hp j hj)) (fun k hk => mt (hstale _).mpr (hf k hk))⟩
    · intro hb hl
      have hl' : (appliedSettings f).limits = s.cfg.limits := (congrArg (fun x => x.limits) hcfg).symm.trans hl
      have hv := hc.same hb hl'
      subst hv
      exact congrArg (fun x : State => x.sends _) (State.withRx_self hrx)
    · have hres : (if v.cfg = f then Result.ok else .clamped) = if appliedSettings f = f then .ok else .clamped := by
        rw [hcfg]
      refine ⟨more, ?_⟩
      have e : ∀ r : Result, v.slk.tx ++ [⟨0x44, tag, .u8 (resultCode r) :: .u8 (stationCode v.sts.state) ::
          settingsItems v.cfg⟩] = s.slk.tx ++ more ++ [⟨0x44, tag, .u8 (resultCode r) ::
          .u8 (stationCode v.sts.state) :: settingsItems v.cfg⟩] := fun r => congrArg (· ++ [_]) hmore
      refine Eq.trans (e _) ?_
      rw [← hres]
      rfl
    · have e := congrArg (fun x : State => x.withRx []) hframe
      refine Eq.trans ?_ (e.trans (State.withRx_self hrx))
      exact congrArg (fun x => { (v.withRx []) with
        sts := s.sts, cfg := s.cfg, nst := s.nst, smt := s.smt, cvc := s.cvc, cdu := s.cdu
        drc := s.drc, ori := s.ori, als := s.als, plu := { v.plu with due := s.plu.due }, sns := x
        slk := { (v.withRx []).slk with statusCountdown := s.slk.statusCountdown, tx := s.slk.tx } }) hsns.symm

end Sys2Proof.Machine
end

section
/-! A state in which an entry to TRIPPED finds nothing to stop: the blocks leave it as it is, and the safe orders only report
(01 R10, R17). -/

open Sys2Proof Sys2Proof.Machine

namespace Sys2Proof.Machine

/-! ### The blocks find nothing to stop -/

theorem State.setCavern_self {s : State} {j : Nat} {c : Cavern} (h : s.cavern j = some c) :
    s.setCavern j (some c) = s := by
  unfold State.setCavern
  rw [setNth_of_nth (Option.join_eq_some_iff.mp h)]

theorem State.setTrain_self {s : State} {n : Nat} {r : Train} (h : s.train n = some r) :
    s.setTrain n (some r) = s := by
  unfold State.setTrain
  rw [setNth_of_nth (Option.join_eq_some_iff.mp h)]

theorem State.makePlanDue_self {s : State} (h : s.plu.due = true) : s.makePlanDue = s := by
  unfold State.makePlanDue
  have e : { s.plu with due := true } = s.plu := by rw [← h]
  rw [e]

/-- Nothing flows, runs or is ONLINE, no cap is announced, PLU is due, and the image is that of a reset. -/
structure Still (s : State) : Prop where
  station : s.sts.state ≠ .running
  orders : s.ori = resetOrders
  due : s.plu.due = true
  cavern : ∀ j c, s.cavern j = some c → c.state.flowing = false ∧
    { c with capInject := 0, capWithdraw := 0, refInject := 0, refWithdraw := 0 } = c
  unit : ∀ k u, s.unit k = some u → u.state.engaged = false ∧ u.load = 0
  train : ∀ n r, s.train n = some r → r.state ≠ .online

namespace Still

variable {s : State} (h : Still s)
include h

theorem formCaps (j : Nat) : (s.formCaps j).1 = s := by
  cases hc : s.cavern j with
  | none => simp only [State.formCaps, hc]
  | some c =>
    have hf : s.capsFormed j c = c := (State.capsFormed_of_not_running h.station j c).trans (h.cavern j c hc).2
    have hs := State.setCavern_self hc
    obtain e | e := State.formCaps_eq hc <;> rw [e, hf, hs]
    exact State.makePlanDue_self h.due

theorem cavernsStop : s.cavernsStop = s := by
  have hstop : s.forEach cavernNumbers State.stopFlow = s :=
    State.forEach_induct (P := fun u => u = s) rfl (fun u j _ hu => by
      rw [hu]
      unfold State.stopFlow
      split
      · next c hc => rw [(h.cavern j c hc).1, if_neg (by simp)]
      · rfl)
  rw [State.cavernsStop_eq, hstop, State.cavernsChanged_of_not_running h.station, State.formAllCaps_eq]
  exact State.forEach_induct (P := fun u => u = s) rfl (fun u j _ hu => by rw [hu]; exact h.formCaps j)

theorem order_run {k : Nat} (hk : k ∈ unitNumbers) : s.holdsStop k := by
  refine ⟨⟨.run .stop, 0, false⟩, ?_, rfl⟩
  unfold State.order
  rw [h.orders]
  exact (by decide : ∀ k ∈ unitNumbers, nth resetOrders (16 + k) = some ⟨.run .stop, 0, false⟩) k hk

theorem order_load {k : Nat} (hk : k ∈ unitNumbers) : s.order (22 + k) = some ⟨.load 0, 0, false⟩ := by
  unfold State.order
  rw [h.orders]
  exact (by decide : ∀ k ∈ unitNumbers, nth resetOrders (22 + k) = some ⟨.load 0, 0, false⟩) k hk

theorem unitsStop : s.unitsStop = s := by
  have hstop : s.forEach unitNumbers State.stopEngaged = s :=
    State.forEach_induct (P := fun u => u = s) rfl (fun u k _ hu => by
      rw [hu]
      exact State.stopEngaged_of_not_runs (fun ⟨x, hx, he⟩ => by
        rw [(h.unit k x hx).1] at he
        cases he))
  unfold State.unitsStop
  rw [hstop, State.writeUnitOrders_eq, State.writeRuns_of_stop ⟨h.station, fun k hk => h.order_run hk⟩]
  refine State.forEach_induct (P := fun u => u = s) rfl (fun u k hk hu => ?_)
  rw [hu]
  unfold State.writeLoad
  split
  · next x hx =>
    rw [(h.unit k x hx).2]
    exact State.writeOrderIfNew_same (i := loadActuator k) (h.order_load hk)
  · rfl

theorem trainsStop : s.trainsStop = s := by
  rw [State.trainsStop_eq]
  refine State.forEach_induct (P := fun u => u = s) rfl (fun u n _ hu => ?_)
  rw [hu]
  unfold State.standDown
  split
  · next r hr => rw [if_neg (h.train n r hr)]
  · rfl

theorem blocksStop : s.cavernsStop.unitsStop.trainsStop = s := by
  rw [h.cavernsStop, h.unitsStop, h.trainsStop]

end Still

/-! ### The safe orders write what the image holds -/

/-- The state with another transmit queue. -/
def State.withTx (s : State) (rs : List Record) : State := { s with slk := { s.slk with tx := rs } }

/-- A write of what the entry holds since the present second only reports it. -/
theorem State.writeOrder_again {s : State} {i : Nat} {v : OrderValue} {l : List Record}
    (h : s.order i = some ⟨v, s.clk.stationSeconds, false⟩) (hl : l.length < 38) :
    (s.withTx l).writeOrder i v = s.withTx (l ++ [orderReport i ⟨v, s.clk.stationSeconds, false⟩]) := by
  have ho : (s.withTx l).order i = s.order i := rfl
  have hset : setNth s.ori i ⟨v, s.clk.stationSeconds, false⟩ = s.ori := setNth_of_nth h
  have hw : { s.withTx l with ori := setNth (s.withTx l).ori i ⟨v, (s.withTx l).clk.stationSeconds, false⟩ } =
      s.withTx l := congrArg (fun o => { s.withTx l with ori := o }) hset
  unfold State.writeOrder
  rw [ho, h]
  dsimp only
  rw [hw]
  unfold State.offerOrder
  rw [ho, h]
  dsimp only
  have hocc : (s.withTx l).occupancy < 38 := hl
  rw [if_pos hocc]
  exact congrArg (fun o => { s.withTx (l ++ [orderReport i ⟨v, s.clk.stationSeconds, false⟩]) with ori := o }) hset

/-- Steps that each add one report, together add theirs in order. -/
theorem State.forEach_reports {s : State} {f : State → Nat → State} {g : Nat → Record} {ns : List Nat}
    (h : ∀ l : List Record, l.length < 38 → ∀ n ∈ ns, f (s.withTx l) n = s.withTx (l ++ [g n])) (l : List Record)
    (hl : l.length + ns.length ≤ 38) : (s.withTx l).forEach ns f = s.withTx (l ++ ns.map g) := by
  induction ns generalizing l with
  | nil => rw [List.map_nil, List.append_nil]; rfl
  | cons n ns ih =>
    rw [List.length_cons] at hl
    have h1 : (s.withTx l).forEach (n :: ns) f = (f (s.withTx l) n).forEach ns f := rfl
    rw [h1, h l (by omega) n List.mem_cons_self,
      ih (fun l hl m hm => h l hl m (List.mem_cons_of_mem _ hm)) _ (by rw [List.length_append]; simp; omega),
      List.map_cons, List.append_assoc]
    rfl

/-- The reports of the 17 orders of an entry to TRIPPED, each at second 0. -/
def tripReports : List Record :=
  cavernNumbers.map (fun j => orderReport j ⟨.valve .shut, 0, false⟩) ++
  unitNumbers.map (fun k => orderReport (16 + k) ⟨.run .stop, 0, false⟩) ++
  trainNumbers.map (fun n => orderReport (28 + n) ⟨.train .offline .a .none, 0, false⟩) ++
  [orderReport 31 ⟨.isolation .isolate, 0, false⟩]

section
variable {s : State} (ho : s.ori = resetOrders) (hc : s.clk.stationSeconds = 0)
include ho hc

theorem State.shutValve_again {l : List Record} (hl : l.length < 38) {j : Nat} (hj : j ∈ cavernNumbers) :
    (s.withTx l).shutValve j = s.withTx (l ++ [orderReport j ⟨.valve .shut, 0, false⟩]) := by
  have h : s.order j = some ⟨.valve .shut, s.clk.stationSeconds, false⟩ := by
    unfold State.order
    rw [ho, hc]
    exact (by decide : ∀ j ∈ cavernNumbers, nth resetOrders j = some ⟨.valve .shut, 0, false⟩) j hj
  have hv : (s.withTx l).valveOrder j = .shut := State.valveOrder_of_order (s := s.withTx l) h
  unfold State.shutValve
  dsimp only
  rw [hv, if_neg (by decide), ← hc]
  exact State.writeOrder_again (i := valveActuator j) h hl

theorem State.stopRun_again {l : List Record} (hl : l.length < 38) {k : Nat} (hk : k ∈ unitNumbers) :
    (s.withTx l).stopRun k = s.withTx (l ++ [orderReport (16 + k) ⟨.run .stop, 0, false⟩]) := by
  have h : s.order (16 + k) = some ⟨.run .stop, s.clk.stationSeconds, false⟩ := by
    unfold State.order
    rw [ho, hc]
    exact (by decide : ∀ k ∈ unitNumbers, nth resetOrders (16 + k) = some ⟨.run .stop, 0, false⟩) k hk
  rw [← hc]
  exact State.writeOrder_again (i := runActuator k) h hl

theorem State.offlineTrain_again {l : List Record} (hl : l.length < 38) {n : Nat} (hn : n ∈ trainNumbers) :
    (s.withTx l).offlineTrain n = s.withTx (l ++ [orderReport (28 + n) ⟨.train .offline .a .none, 0, false⟩]) := by
  have h : s.order (28 + n) = some ⟨.train .offline .a .none, s.clk.stationSeconds, false⟩ := by
    unfold State.order
    rw [ho, hc]
    exact (by decide : ∀ n ∈ trainNumbers, nth resetOrders (28 + n) = some ⟨.train .offline .a .none, 0, false⟩) n hn
  have ht : (s.withTx l).trainOrder n = (.offline, .a, .none) := State.trainOrder_of_order (s := s.withTx l) h
  unfold State.offlineTrain
  rw [ht, ← hc]
  exact State.writeOrder_again (i := trainActuator n) h hl

/-- The safe orders and ISOLATE on the image of a reset. -/
theorem State.safeOrders_again (htx : s.slk.tx = []) :
    s.safeOrders.writeOrder isolationActuator (.isolation .isolate) = s.withTx tripReports := by
  have h0 : s = s.withTx [] := by
    have e : { s.slk with tx := [] } = s.slk := by rw [← htx]
    unfold State.withTx
    rw [e]
  have hi : s.order 31 = some ⟨.isolation .isolate, s.clk.stationSeconds, false⟩ := by
    unfold State.order
    rw [ho, hc]
    rfl
  have e1 := State.forEach_reports (s := s) (f := State.shutValve) (ns := cavernNumbers)
    (fun l hl j hj => State.shutValve_again ho hc hl hj) [] (by decide)
  have e2 := State.forEach_reports (s := s) (f := State.stopRun) (ns := unitNumbers)
    (fun l hl k hk => State.stopRun_again ho hc hl hk)
    ([] ++ cavernNumbers.map (fun j => orderReport j ⟨.valve .shut, 0, false⟩)) (by decide)
  have e3 := State.forEach_reports (s := s) (f := State.offlineTrain) (ns := trainNumbers)
    (fun l hl n hn => State.offlineTrain_again ho hc hl hn)
    ([] ++ cavernNumbers.map (fun j => orderReport j ⟨.valve .shut, 0, false⟩) ++
      unitNumbers.map (fun k => orderReport (16 + k) ⟨.run .stop, 0, false⟩)) (by decide)
  have e : s.safeOrders = s.withTx ([] ++ cavernNumbers.map (fun j => orderReport j ⟨.valve .shut, 0, false⟩) ++
      unitNumbers.map (fun k => orderReport (16 + k) ⟨.run .stop, 0, false⟩) ++
      trainNumbers.map (fun n => orderReport (28 + n) ⟨.train .offline .a .none, 0, false⟩)) := by
    rw [State.safeOrders_eq, ← e3, ← e2, ← e1, ← h0]
  rw [e, State.writeOrder_again (i := isolationActuator) hi (by decide), hc]
  rfl

end

/-- STATION_TRIP raised as the first alert of all, at second 0. -/
theorem State.raise_stationTrip {s : State} {e : Bool} {rest : List AlertRecord}
    (h : s.als = AlertRecord.clear e :: rest) (hc : s.clk.stationSeconds = 0) (hl : s.slk.tx.length < 28) :
    s.raise .stationTrip 0 = { s with
      als := { AlertRecord.clear e with pending := true, count := 1 } :: rest
      slk := { s.slk with tx := s.slk.tx ++
        if e then [⟨0x83, 0, [.u8 1, .u8 1, .u8 0, .u32 0]⟩] else [] } } := by
  have ha : s.alert .stationTrip = AlertRecord.clear e := by
    unfold State.alert
    rw [h]
    rfl
  have hr : s.recordAlert .stationTrip 0 =
      { s with als := { AlertRecord.clear e with pending := true, count := 1 } :: rest } := by
    unfold State.recordAlert
    rw [ha, h, hc]
    rfl
  unfold State.raise
  rw [hr, ha]
  have hocc : s.occupancy < 28 := hl
  cases e with
  | false =>
    have : s.slk.tx ++ [] = s.slk.tx := List.append_nil _
    simp only [AlertRecord.reports, AlertRecord.clear, Bool.and_false, Bool.false_eq_true, if_false, this]
  | true =>
    have hrep : (AlertRecord.clear true).reports = true := rfl
    dsimp only
    rw [if_pos hrep]
    unfold State.offerReport
    have hocc' : ({ s with als := { AlertRecord.clear true with pending := true, count := 1 } :: rest } : State).occupancy
        < 28 := hl
    rw [if_pos hocc']
    rfl

/-- The entry to TRIPPED where nothing is left to stop: 17 reports, the alert, and nothing else. -/
theorem Still.tripEntry {s : State} (h : Still s) (hc : s.clk.stationSeconds = 0) (htx : s.slk.tx = [])
    (hh : s.drc.heating = none) {e : Bool} {rest : List AlertRecord} (ha : s.als = AlertRecord.clear e :: rest) :
    s.tripEntry = { s.setStation .tripped with
      als := { AlertRecord.clear e with pending := true, count := 1 } :: rest
      slk := { s.slk with tx := tripReports ++
        if e then [⟨0x83, 0, [.u8 1, .u8 1, .u8 0, .u32 0]⟩] else [] } } := by
  have e1 : (s.setStation .tripped).safeOrders.writeOrder isolationActuator (.isolation .isolate) =
      (s.setStation .tripped).withTx tripReports := State.safeOrders_again h.orders hc htx
  have e2 : ((s.setStation .tripped).withTx tripReports).makePlanDue = (s.setStation .tripped).withTx tripReports :=
    State.makePlanDue_self h.due
  have e3 : ((s.setStation .tripped).withTx tripReports).abortHeating = (s.setStation .tripped).withTx tripReports :=
    State.abortHeating_idle hh
  have e4 := State.raise_stationTrip (s := (s.setStation .tripped).withTx tripReports) ha hc (by decide : tripReports.length < 28)
  have hi : s.isolated = { s.setStation .tripped with
      als := { AlertRecord.clear e with pending := true, count := 1 } :: rest
      slk := { s.slk with tx := tripReports ++
        if e then [⟨0x83, 0, [.u8 1, .u8 1, .u8 0, .u32 0]⟩] else [] } } := by
    unfold State.isolated
    rw [e1, e2, e3, e4]
    rfl
  rw [State.tripEntry_eq, hi]
  exact Still.blocksStop ⟨nofun, h.orders, h.due, h.cavern, h.unit, h.train⟩

end Sys2Proof.Machine
end

section
/-! A release of reset with a VALID store: the restored state, its heater queue, and the way into PARKED or TRIPPED (01 R17;
09 R144, R150, R153). -/

open Sys2Proof Sys2Proof.Machine

namespace Sys2Proof.Machine

/-! ### The restored state -/

/-- The state that the snapshot restores at a release, before the pin and the heater act. -/
def State.restoredFrom (s : State) (c : Snapshot) (trip b1 b0 : Bool) : State :=
  restored { s.released trip b1 b0 with sns := ⟨.valid, false, some c, none⟩ } c

theorem State.release_valid {s : State} {c : Snapshot} (hv : s.sns.state = .valid) (hc : s.sns.content = some c)
    (trip b1 b0 : Bool) : s.release true trip b1 b0 =
      (if trip then (s.restoredFrom c trip b1 b0).tripEntry else s.restoredFrom c trip b1 b0).serveHeater := by
  have hread : s.sns.read true = ⟨.valid, false, some c, none⟩ := by
    unfold Store.read
    rw [hv, hc]
    rfl
  unfold State.release
  rw [hread]
  rfl

theorem restoredUnit_load (u : SnapUnit) : (restoreUnit u).load = 0 := rfl

theorem restoreCavern_eq (x : SnapCavern) : restoreCavern x =
    { config := x.config, lastDir := x.lastDir, reversals := x.reversals, booked := x.booked
      state := if x.state = .injecting ∨ x.state = .withdrawing ∨ x.state = .settling then .idle else x.state
      settle := none, disagreement := 0, full := false, empty := false, rampDisarmed := false, setPoint := 0,
      refInject := 0, refWithdraw := 0, capInject := 0, capWithdraw := 0, volInject := 0, volWithdraw := 0,
      qInject := 0, qWithdraw := 0, ring := [], faultDue := false } := by
  unfold restoreCavern
  cases x.state <;> rfl

theorem restoreUnit_eq (x : SnapUnit) : restoreUnit x =
    { config := x.config, runSeconds := x.runSeconds, trips := x.trips
      state := if x.state = .unavailable ∨ x.state = .lockedOut then x.state else .ready
      startList := [], minRun := none, minStop := none, timeout := none, load := 0 } := by
  unfold restoreUnit
  cases x.state <;> rfl

/-- The bed state that a snapshot's bed comes back in. -/
def restoredBed (x : SnapTrain) (bed : Bed) : BedState :=
  let recorded := match bed with
    | .a => x.bedA.state
    | .b => x.bedB.state
  if recorded = .heating ∨ recorded = .cooling then .spent else recorded

/-- A train's record as restored, before its condition is formed. -/
def restoredTrain (x : SnapTrain) : Train :=
  { config := x.config, state := if x.state = .offline then .offline else .standby
    bedA := ⟨restoredBed x .a, x.bedA.loading⟩, bedB := ⟨restoredBed x .b, x.bedB.loading⟩
    remainder := 0, cooling := none, aboveSpec := 0, inSpec := 0, condition := .normal, lastRegen := none
    planCap := 0 }

theorem restoreTrain_formed (x : SnapTrain) : restoreTrain x = (restoredTrain x).formed := by
  rw [restoreTrain_eq, restoreBed_eq, restoreBed_eq]
  rfl

theorem nth_join_map {α β : Type} (f : α → β) (l : List (Option α)) (n : Nat) :
    (nth (l.map (·.map f)) n).join = (nth l n).join.map f := by
  rw [nth_map]
  cases nth l n with
  | none => rfl
  | some o => cases o <;> rfl

section
variable (s : State) (c : Snapshot) (trip b1 b0 : Bool)

theorem State.cavern_restoredFrom (j : Nat) :
    (s.restoredFrom c trip b1 b0).cavern j = (nth c.caverns j).join.map restoreCavern := nth_join_map _ _ _

theorem State.unit_restoredFrom (k : Nat) :
    (s.restoredFrom c trip b1 b0).unit k = (nth c.units k).join.map restoreUnit := nth_join_map _ _ _

theorem State.train_restoredFrom (n : Nat) :
    (s.restoredFrom c trip b1 b0).train n = (nth c.trains n).join.map restoreTrain := nth_join_map _ _ _

/-- Nothing restored is left to stop. -/
theorem State.restoredFrom_still : Still (s.restoredFrom c trip b1 b0) := by
  refine ⟨nofun, rfl, rfl, fun j x hx => ?_, fun k u hu => ?_, fun n r hr => ?_⟩
  · rw [State.cavern_restoredFrom] at hx
    obtain ⟨y, _, rfl⟩ := Option.map_eq_some_iff.mp hx
    exact ⟨restoreCavern_not_flowing y, rfl⟩
  · rw [State.unit_restoredFrom] at hu
    obtain ⟨y, _, rfl⟩ := Option.map_eq_some_iff.mp hu
    exact ⟨restoreUnit_not_engaged y, rfl⟩
  · rw [State.train_restoredFrom] at hr
    obtain ⟨y, _, rfl⟩ := Option.map_eq_some_iff.mp hr
    rw [restoreTrain_formed, Train.formed_state]
    unfold restoredTrain
    dsimp only
    split <;> nofun

end

/-! ### The heater queue rebuilt -/

theorem spent_formed (x : SnapTrain) (bed : Bed) : ((restoreTrain x).bed bed).state = restoredBed x bed := by
  rw [restoreTrain_formed, Train.formed_eq]
  cases bed <;> rfl

theorem spentBeds_cons (t : Nat) (x : Option SnapTrain) (l : List (Option Train)) :
    spentBeds t (x.map restoreTrain :: l) =
      [(t, Bed.a), (t, .b)].filter (fun q => x.any (fun x => restoredBed x q.2 == .spent)) ++ spentBeds (t + 1) l := by
  cases x with
  | none => rfl
  | some x =>
    have ha : (restoreTrain x).bedA.state = restoredBed x .a := spent_formed x .a
    have hb : (restoreTrain x).bedB.state = restoredBed x .b := spent_formed x .b
    by_cases h1 : restoredBed x .a = .spent <;> by_cases h2 : restoredBed x .b = .spent <;>
      simp [spentBeds, ha, hb, h1, h2]

/-- The queue rebuilt names the SPENT beds in the order 1 A, 1 B, 2 A, 2 B. -/
theorem spentBeds_restored {c : Snapshot} (h : c.trains.length = 2) :
    spentBeds 1 (c.trains.map (·.map restoreTrain)) =
      [(1, Bed.a), (1, .b), (2, .a), (2, .b)].filter (fun q =>
        (nth c.trains q.1).join.any (fun x => restoredBed x q.2 == .spent)) := by
  obtain ⟨x, y, hxy⟩ := List.length_eq_two.mp h
  rw [hxy, List.map_cons, List.map_cons, List.map_nil, spentBeds_cons, spentBeds_cons, spentBeds, List.append_nil]
  have hsplit : [(1, Bed.a), (1, .b), (2, .a), (2, .b)] = [(1, Bed.a), (1, .b)] ++ [(2, Bed.a), (2, .b)] := rfl
  rw [hsplit, List.filter_append]
  rfl

/-! ### The head of the rebuilt queue begins HEATING -/

theorem Train.heated_config (r : Train) (bed : Bed) : (r.heated bed).config = r.config := by cases bed <;> rfl

theorem Train.heated_state (r : Train) (bed : Bed) : (r.heated bed).state = r.state := by cases bed <;> rfl

theorem Train.heated_loading (r : Train) (bed d : Bed) : ((r.heated bed).bed d).loading = (r.bed d).loading := by
  cases bed <;> cases d <;> rfl

theorem Train.heated_inLine {r : Train} {bed : Bed} (h : (r.bed bed).state = .spent) :
    (r.heated bed).inLine = r.inLine := by
  unfold Train.inLine
  cases bed with
  | a =>
    have h1 : (r.heated .a).bedA.state ≠ .adsorbing := nofun
    have h2 : r.bedA.state ≠ .adsorbing := fun e => by
      rw [show r.bedA.state = .spent from h] at e
      cases e
    rw [if_neg h1, if_neg h2]
  | b => rfl

/-- The other bed stands. -/
theorem Train.heated_other {r : Train} {bed d : Bed} (hd : d ≠ bed) : (r.heated bed).bed d = r.bed d := by
  cases bed with
  | a =>
    cases d with
    | a => exact absurd rfl hd
    | b => rfl
  | b =>
    cases d with
    | a => rfl
    | b => exact absurd rfl hd

theorem Train.heated_ready {r : Train} {bed : Bed} (h : (r.bed bed).state = .spent) (d : Bed) :
    ((r.heated bed).bed d).state ≠ .ready ↔ (r.bed d).state ≠ .ready := by
  by_cases hd : d = bed
  · subst hd
    have h1 : ((r.heated d).bed d).state = .heating := by cases d <;> rfl
    rw [h1, h]
    exact ⟨fun _ => nofun, fun _ => nofun⟩
  · rw [Train.heated_other hd]

/-- A SPENT bed that begins HEATING changes neither the bed in line nor what is ready. -/
theorem Train.heated_condition {r : Train} {bed : Bed} (h : (r.bed bed).state = .spent) :
    (r.heated bed).formCondition = r.formCondition := by
  unfold Train.formCondition
  simp only [Train.heated_inLine h, Train.heated_loading, Train.heated_config, Train.heated_ready h]

theorem Train.formCondition_congr {r q : Train} (hc : q.config = r.config) (hl : q.inLine = r.inLine)
    (hb : ∀ d, q.bed d = r.bed d) : q.formCondition = r.formCondition := by
  unfold Train.formCondition
  simp only [hc, hl, hb]

/-- The two figures that a forming replaces have no part in it. -/
theorem Train.formed_again (r : Train) (x : Condition) (y : Nat) :
    Train.formed { r with condition := x, planCap := y } = r.formed := by
  have h := Train.formCondition_congr (r := r) (q := { r with condition := x, planCap := y }) rfl rfl
    (fun d => by cases d <;> rfl)
  rw [Train.formed_eq, Train.formed_eq, h]

theorem Train.heated_refigured (r : Train) (x : Condition) (y : Nat) (bed : Bed) :
    ({ r with condition := x, planCap := y } : Train).heated bed =
      { r.heated bed with condition := x, planCap := y } := by
  cases bed <;> rfl

theorem Train.heated_formed (r : Train) (bed : Bed) : (r.formed.heated bed).formed = (r.heated bed).formed := by
  have h : r.formed.heated bed = { r.heated bed with
      condition := r.formCondition, planCap := planningCapacity r.config r.state r.formCondition } := by
    rw [Train.formed_eq]
    exact r.heated_refigured _ _ bed
  exact (congrArg Train.formed h).trans (Train.formed_again (r.heated bed) _ _)

/-- A train formed already, whose condition stands, raises nothing when it is formed again. -/
theorem State.formTrain_quiet {s : State} {n : Nat} {r : Train} (h : s.train n = some r)
    (hc : r.formCondition = r.condition) : (s.formTrain n).als = s.als ∧ (s.formTrain n).slk = s.slk := by
  have h1 : ¬ (r.formCondition = .derated ∧ r.condition = .normal) := by
    rw [hc]
    rintro ⟨e1, e2⟩
    rw [e1] at e2
    cases e2
  have h2 : ¬ (r.formCondition = .breakthrough ∧ r.condition ≠ .breakthrough) := by
    rw [hc]
    exact fun ⟨e1, e2⟩ => e2 e1
  unfold State.formTrain
  rw [h]
  dsimp only
  rw [if_neg h1, if_neg h2]
  split <;> exact ⟨rfl, rfl⟩

theorem mem_spentBeds {t : Nat} {l : List (Option Train)} {n : Nat} {bed : Bed} (h : (n, bed) ∈ spentBeds t l) :
    ∃ r, l[n - t]? = some (some r) ∧ t ≤ n ∧ (r.bed bed).state = .spent := by
  induction l generalizing t with
  | nil => cases h
  | cons x l ih =>
    unfold spentBeds at h
    obtain h | h := List.mem_append.mp h
    · cases x with
      | none => cases h
      | some r =>
        obtain h | h := List.mem_append.mp h
        · split at h
          · next hs =>
            cases List.mem_singleton.mp h
            exact ⟨r, by simp, le_refl _, hs⟩
          · cases h
        · split at h
          · next hs =>
            cases List.mem_singleton.mp h
            exact ⟨r, by simp, le_refl _, hs⟩
          · cases h
    · obtain ⟨r, hr, hle, hs⟩ := ih h
      refine ⟨r, ?_, by omega, hs⟩
      have e : n - t = n - (t + 1) + 1 := by omega
      rw [e, List.getElem?_cons_succ]
      exact hr

end Sys2Proof.Machine
end

section
/-! A release of reset with a VALID store, as an event (01 R17). -/

open Sys2Proof Sys2Proof.Machine

namespace Sys2Proof.Machine

/-- What the pin and the heater leave of the restored state. -/
structure Reentered (r t : State) : Prop where
  rest : { t with sts := r.sts, drc := r.drc, ori := r.ori, als := r.als, plu := { t.plu with due := r.plu.due }
                  slk := { t.slk with tx := r.slk.tx } } = r
  due : t.plu.due = true

namespace Reentered

variable {r t : State} (h : Reentered r t)
include h

theorem clk : t.clk = r.clk := congrArg (fun x => x.clk) h.rest
theorem sns : t.sns = r.sns := congrArg (fun x => x.sns) h.rest
theorem cfg : t.cfg = r.cfg := congrArg (fun x => x.cfg) h.rest
theorem act : t.act = r.act := congrArg (fun x => x.act) h.rest
theorem nst : t.nst = r.nst := congrArg (fun x => x.nst) h.rest
theorem mtu : t.mtu = r.mtu := congrArg (fun x => x.mtu) h.rest
theorem smt : t.smt = r.smt := congrArg (fun x => x.smt) h.rest
theorem hcu : t.hcu = r.hcu := congrArg (fun x => x.hcu) h.rest
theorem cvc : t.cvc = r.cvc := congrArg (fun x => x.cvc) h.rest
theorem cdu : t.cdu = r.cdu := congrArg (fun x => x.cdu) h.rest
theorem pending : t.pending = r.pending := congrArg (fun x => x.pending) h.rest
theorem rx : t.slk.rx = r.slk.rx := congrArg (fun x => x.slk.rx) h.rest
theorem parser : t.slk.parser = r.slk.parser := congrArg (fun x => x.slk.parser) h.rest
theorem countdown : t.slk.statusCountdown = r.slk.statusCountdown := congrArg (fun x => x.slk.statusCountdown) h.rest
theorem lineSpeed : t.slk.lineSpeed = r.slk.lineSpeed := congrArg (fun x => x.slk.lineSpeed) h.rest
theorem plu : t.plu = { r.plu with due := true } :=
  Planner.eq_of_due (congrArg (fun x => x.plu) h.rest) h.due

end Reentered

/-- A service outside TRIPPED re-enters nothing but the heater's side. -/
theorem State.serveHeater_reentered {r : State} (h : r.plu.due = true) : Reentered r r.serveHeater :=
  ⟨congrArg (fun x : State => { x with sts := r.sts }) r.serveHeater_moved.rest, r.serveHeater_calm.due h⟩

/-- In TRIPPED the heater waits (09 R152). -/
theorem State.serveHeater_tripped {s : State} (h : s.sts.state = .tripped) : s.serveHeater = s :=
  s.serveHeater_cases.resolve_right (fun ⟨_, _, _, _, hs⟩ => hs.station h)

theorem Train.formed_settled (r : Train) : r.formed.formCondition = r.formed.condition := by
  rw [Train.formed_condition]
  refine Train.formCondition_congr r.formed_config ?_ (fun d => ?_)
  · unfold Train.inLine
    rw [Train.formed_bedA]
  · cases d with
    | a => exact r.formed_bedA
    | b => exact r.formed_bedB

/-- The order and the alerts of a service that takes a bed of a train formed already, on the image of a reset. -/
theorem State.Serves.reset {s : State} {n : Nat} {bed : Bed} {rest : List (Nat × Bed)} {r : Train}
    (h : s.Serves n bed rest r) (ho : s.ori = resetOrders) (hc : s.clk.stationSeconds = 0) (htx : s.slk.tx = [])
    (hn : n ∈ trainNumbers) (hb : (r.bed bed).state = .spent) (hr : r.formCondition = r.condition) :
    s.serveHeater.als = s.als ∧
    s.serveHeater.order (28 + n) = some ⟨.train .offline .a (.heat bed), 0, false⟩ ∧
    s.serveHeater.slk.tx = [⟨0x80, 0, [.u8 (28 + n), .u32 (0x02000100 + bedCode bed), .u32 0]⟩] := by
  obtain ⟨_, _, _, _, hst⟩ := h.spec
  have hcond : (r.heated bed).formCondition = (r.heated bed).condition := by
    rw [Train.heated_condition hb, hr]
    cases bed <;> rfl
  have hot : (s.heat n bed rest r).order (28 + n) = some ⟨.train .offline .a .none, 0, false⟩ := by
    have e : (s.heat n bed rest r).order (28 + n) = nth s.ori (28 + n) := rfl
    rw [e, ho]
    exact (by decide : ∀ n ∈ trainNumbers, nth resetOrders (28 + n) = some ⟨.train .offline .a .none, 0, false⟩) n hn
  have hvt : (s.heat n bed rest r).train n = some (r.heated bed) :=
    State.train_setTrain (s := { s with drc := s.drc.heat n bed rest r }) _ h.train
  have hva : (s.heat n bed rest r).als = s.als := rfl
  have hvc : (s.heat n bed rest r).clk = s.clk := rfl
  have hvx : (s.heat n bed rest r).slk = s.slk := rfl
  have hvo : (s.heat n bed rest r).occupancy = 0 := congrArg List.length htx
  rw [hst, h.eq]
  generalize s.heat n bed rest r = v at *
  unfold State.markStep
  have hw : v.writeTrainStep n (.heat bed) = v.writeOrder (28 + n) (.train .offline .a (.heat bed)) := by
    unfold State.writeTrainStep
    rw [State.trainOrder_of_order hot]
    exact State.writeOrderIfNew_new (i := trainActuator n) hot nofun
  have hwo := v.writeTrainStep_ordered n (.heat bed)
  have htx' := State.tx_writeOrder (.train .offline .a (.heat bed)) hot
  have hq := State.formTrain_quiet ((hwo.train n).trans hvt) hcond
  obtain ⟨hqa, hqs⟩ := hq
  refine ⟨?_, ?_, ?_⟩
  · rw [hqa, ← hva]
    exact congrArg (fun x => x.als) hwo.rest
  · rw [hw, State.order_writeOrder _ hot, hvc, hc, hvo]
    rfl
  · rw [hqs, hw, htx', hvx, htx, hvo, hvc, hc]
    cases bed <;> rfl

/-- The heater and the trains after a release, against the restored state `r`. -/
structure HeaterSide (r t : State) (queue : List (Nat × Bed)) (heating : Option (Nat × Bed)) : Prop where
  queue : t.drc.queue = queue
  heating : t.drc.heating = heating
  gas : t.drc.gasRemainder = 0
  volume : t.drc.volume = 0
  free : t.drc.heating = none → t.drc.heatingTimer = none ∧ t.drc.rate = 0
  train : ∀ n, (∀ bed, t.drc.heating ≠ some (n, bed)) → t.train n = r.train n
  heated : ∀ n bed, t.drc.heating = some (n, bed) → ∀ x, r.train n = some x →
    t.train n = some (x.heated bed).formed ∧ t.drc.heatingTimer = some (x.config.heatingTime * 60) ∧
      t.drc.rate = x.config.regenRate

/-- The restored state while nothing heats. -/
theorem HeaterSide.idle {r t : State} (hd : t.drc = r.drc) (hg : r.drc.gasRemainder = 0) (hv : r.drc.volume = 0)
    (hh : r.drc.heating = none) (ht : r.drc.heatingTimer = none) (hr : r.drc.rate = 0) :
    HeaterSide r t r.drc.queue none :=
  ⟨by rw [hd], by rw [hd, hh], by rw [hd, hg], by rw [hd, hv], fun _ => by rw [hd]; exact ⟨ht, hr⟩,
    fun n _ => State.train_congr (by rw [hd]) n, fun n bed e => by rw [hd, hh] at e; cases e⟩

/-- A release with the pin active: the entry to TRIPPED finds nothing to stop. -/
theorem State.release_tripped (s : State) {c : Snapshot} (hshape : c.shaped = true) (b1 b0 : Bool) :
    let r := s.restoredFrom c true b1 b0
    let t := r.tripEntry.serveHeater
    Reentered r t ∧ HeaterSide r t r.drc.queue none ∧ t.sts = ⟨.tripped, true, false⟩ ∧
    t.als = r.als.modifyHead (fun x => { x with pending := true, count := 1 }) ∧ t.ori = State.reset.ori ∧
    t.slk.tx = tripReports ++
      (if c.enabled.head? = some true then [⟨0x83, 0, [.u8 1, .u8 1, .u8 0, .u32 0]⟩] else []) := by
  have hlen : c.enabled.length = 23 := by
    simp only [Snapshot.shaped, Bool.and_eq_true, beq_iff_eq] at hshape
    exact hshape.2
  obtain ⟨e, es, he⟩ := List.exists_cons_of_length_pos (l := c.enabled) (by omega)
  intro r t
  have hals : r.als = AlertRecord.clear e :: es.map AlertRecord.clear := by
    have h : r.als = c.enabled.map AlertRecord.clear := rfl
    rw [h, he, List.map_cons]
  have ht : t = { r.setStation .tripped with
      als := { AlertRecord.clear e with pending := true, count := 1 } :: es.map AlertRecord.clear
      slk := { r.slk with tx := tripReports ++
        if e then [⟨0x83, 0, [.u8 1, .u8 1, .u8 0, .u32 0]⟩] else [] } } := by
    have hentry := (s.restoredFrom_still c true b1 b0).tripEntry rfl rfl rfl hals
    have hst : r.tripEntry.sts.state = .tripped := by
      rw [hentry]
      rfl
    exact (State.serveHeater_tripped hst).trans hentry
  rw [hals, he, ht]
  refine ⟨⟨rfl, rfl⟩, HeaterSide.idle rfl rfl rfl rfl rfl rfl, rfl, rfl, rfl, ?_⟩
  cases e <;> rfl

/-- A release with the pin inactive: the heater takes the head of the rebuilt queue, if there is one. -/
theorem State.release_parked (s : State) {c : Snapshot} (hshape : c.shaped = true) (b1 b0 : Bool) :
    let r := s.restoredFrom c false b1 b0
    let t := r.serveHeater
    Reentered r t ∧ HeaterSide r t (r.drc.queue.drop 1) r.drc.queue.head? ∧ t.sts = ⟨.parked, false, false⟩ ∧
    t.als = r.als ∧ (∀ i, i ≤ 28 ∨ i = 31 → t.order i = State.reset.order i) ∧
    (∀ n ∈ trainNumbers, (∀ bed, t.drc.heating ≠ some (n, bed)) → t.order (28 + n) = State.reset.order (28 + n)) ∧
    (∀ n bed, t.drc.heating = some (n, bed) → t.order (28 + n) = some ⟨.train .offline .a (.heat bed), 0, false⟩) ∧
    t.slk.tx = match t.drc.heating with
      | some (n, bed) => [⟨0x80, 0, [.u8 (28 + n), .u32 (0x02000100 + bedCode bed), .u32 0]⟩]
      | none => [] := by
  intro r t
  have hre : Reentered r t := State.serveHeater_reentered rfl
  have hsts : t.sts = ⟨.parked, false, false⟩ := congrArg (fun x => x.sts) r.serveHeater_moved.rest
  have hro : ∀ i, r.order i = State.reset.order i := fun _ => rfl
  cases hq : r.drc.queue with
  | nil =>
    have ht : t = r := State.serveHeater_of_idle (.inl hq)
    have hh : r.drc.heating = none := rfl
    have hside := HeaterSide.idle (r := r) (t := t) (by rw [ht]) rfl rfl rfl rfl rfl
    rw [hq] at hside
    refine ⟨hre, hside, hsts, by rw [ht], fun i _ => by rw [ht, hro], fun n _ _ => by rw [ht, hro],
      fun n bed hb => ?_, ?_⟩
    · rw [ht, hh] at hb
      cases hb
    · rw [ht, hh]
      rfl
  | cons x rest =>
    obtain ⟨n, bed⟩ := x
    obtain ⟨r', hr', hle, hspent⟩ := mem_spentBeds (t := 1) (l := r.drc.trains) (n := n) (bed := bed) (by
      have : spentBeds 1 r.drc.trains = (n, bed) :: rest := hq
      rw [this]
      exact List.mem_cons_self)
    have hrn : r.train n = some r' := by
      unfold State.train nth
      rw [if_neg (by omega), hr']
      rfl
    have hs : r.Serves n bed rest r' := ⟨hq, rfl, nofun, hrn⟩
    have htl : r.drc.trains.length = 2 := by
      simp only [Snapshot.shaped, Bool.and_eq_true, beq_iff_eq] at hshape
      obtain ⟨⟨_, h⟩, _⟩ := hshape
      exact (List.length_map _).trans h
    have hn := State.train_number htl hrn
    have hb := mem_trainNumbers hn
    have hform : r'.formCondition = r'.condition := by
      have e := (s.train_restoredFrom c false b1 b0 n).symm.trans hrn
      obtain ⟨y, _, rfl⟩ := Option.map_eq_some_iff.mp e
      rw [restoreTrain_formed]
      exact Train.formed_settled _
    obtain ⟨hals, hord, htx⟩ := hs.reset rfl rfl rfl hn hspent hform
    obtain ⟨hd, htr, htn, hon, _⟩ := hs.spec
    have hheat : t.drc.heating = some (n, bed) := congrArg (fun x => x.heating) hd
    refine ⟨hre, ⟨congrArg (fun x => x.queue) hd, hheat, congrArg (fun x => x.gasRemainder) hd,
      congrArg (fun x => x.volume) hd, fun h => ?_, fun m hm => htn m ?_, fun m d hm y hy => ?_⟩, hsts, hals,
      fun i hi => (hon i (by omega)).trans (hro i), fun m hm hne => (hon _ ?_).trans (hro _), fun m d hm => ?_, ?_⟩
    · rw [hheat] at h
      cases h
    · rintro rfl
      exact hm bed hheat
    · rw [hheat] at hm
      cases hm
      rw [hrn] at hy
      cases hy
      exact ⟨htr, congrArg (fun x => x.heatingTimer) hd, congrArg (fun x => x.rate) hd⟩
    · intro e
      have : m = n := by omega
      subst this
      exact hne bed hheat
    · rw [hheat] at hm
      cases hm
      exact hord
    · rw [hheat]
      exact htx

end Sys2Proof.Machine
end

section
/-! The settling of the statement of a release with a VALID store (O14). -/

open Sys2Proof Sys2Proof.Machine

namespace Sys2Proof.Machine

/-- A release of reset with a VALID store, for either sense of the pin, against the restored state. -/
theorem State.release_restores {s : State} {c : Snapshot} (hres : s.sts.inReset = true)
    (hval : s.sns.state = .valid) (hcont : s.sns.content = some c) (hshape : c.shaped = true) (trip b1 b0 : Bool) :
    let r := s.restoredFrom c trip b1 b0
    ∃ t, exec (.powerOnOrReset true trip b1 b0) s = .next t ∧ Reentered r t ∧
      HeaterSide r t (if trip then r.drc.queue else r.drc.queue.drop 1) (if trip then none else r.drc.queue.head?) ∧
      t.sts = ⟨if trip then .tripped else .parked, trip, false⟩ ∧
      (trip = false → t.als = r.als ∧
        (∀ i, i ≤ 28 ∨ i = 31 → t.order i = State.reset.order i) ∧
        (∀ n ∈ trainNumbers, (∀ bed, t.drc.heating ≠ some (n, bed)) → t.order (28 + n) = State.reset.order (28 + n)) ∧
        (∀ n bed, t.drc.heating = some (n, bed) →
          t.order (28 + n) = some ⟨.train .offline .a (.heat bed), 0, false⟩) ∧
        t.slk.tx = match t.drc.heating with
          | some (n, bed) => [⟨0x80, 0, [.u8 (28 + n), .u32 (0x02000100 + bedCode bed), .u32 0]⟩]
          | none => []) ∧
      (trip = true → t.als = r.als.modifyHead (fun x => { x with pending := true, count := 1 }) ∧
        t.ori = State.reset.ori ∧
        t.slk.tx = tripReports ++
          (if c.enabled.head? = some true then [⟨0x83, 0, [.u8 1, .u8 1, .u8 0, .u32 0]⟩] else [])) := by
  intro r
  have hheld : exec (.powerOnOrReset true trip b1 b0) s = .next (s.release true trip b1 b0) := by
    have h : exec (.powerOnOrReset true trip b1 b0) s =
      .next ((if s.sts.inReset then s else (settle s).assertReset).release true trip b1 b0) := rfl
    rw [h, hres, if_pos rfl]
  have hrel := hheld.trans (congrArg Host.Outcome.next (State.release_valid hval hcont trip b1 b0))
  cases trip with
  | false =>
    rw [if_neg (by decide)] at hrel
    obtain ⟨hre, hside, hsts, hpin⟩ := s.release_parked hshape b1 b0
    exact ⟨_, hrel, hre, hside, hsts, fun _ => hpin, nofun⟩
  | true =>
    rw [if_pos rfl] at hrel
    obtain ⟨hre, hside, hsts, hals, hori, htx⟩ := s.release_tripped hshape b1 b0
    exact ⟨_, hrel, hre, hside, hsts, nofun, fun _ => ⟨hals, hori, htx⟩⟩

/-- What heats after a release stood SPENT in the rebuilt queue, so its train is configured. -/
theorem HeaterSide.configured {s t : State} {c : Snapshot} {trip b1 b0 : Bool} {q : List (Nat × Bed)}
    (h : HeaterSide (s.restoredFrom c trip b1 b0) t q
      (if trip then none else (s.restoredFrom c trip b1 b0).drc.queue.head?))
    (hlen : c.trains.length = 2) {n : Nat} {bed : Bed} (hn : t.drc.heating = some (n, bed)) :
    (nth c.trains n).join ≠ none := by
  have hhead := h.heating.symm.trans hn
  cases trip with
  | true => cases hhead
  | false =>
    have hmem : (n, bed) ∈ spentBeds 1 (c.trains.map (·.map restoreTrain)) := List.mem_of_mem_head? hhead
    rw [spentBeds_restored hlen] at hmem
    intro hnone
    have hany := (List.mem_filter.mp hmem).2
    simp only [hnone, Option.any_none, Bool.false_eq_true] at hany

/-- Settles O14: a release with a VALID store restores the snapshot with the adjustments of 01 R17. -/
theorem releaseWithSnapshotRestores : Obligations.ReleaseWithSnapshotRestores := by
  intro trip b1 b0 s c hres hval hcont hshape after
  obtain ⟨t, hexec, hre, hside, hsts, hparked, htripped⟩ := State.release_restores hres hval hcont hshape trip b1 b0
  have hlen : c.trains.length = 2 := by
    simp only [Snapshot.shaped, Bool.and_eq_true, beq_iff_eq] at hshape
    obtain ⟨⟨_, h⟩, _⟩ := hshape
    exact h
  have hcavern : ∀ j, t.cavern j = (nth c.caverns j).join.map restoreCavern := fun j =>
    (State.cavern_congr hre.cvc j).trans (s.cavern_restoredFrom c trip b1 b0 j)
  have hunit : ∀ k, t.unit k = (nth c.units k).join.map restoreUnit := fun k =>
    (State.unit_congr (congrArg (fun d => d.units) hre.cdu) k).trans (s.unit_restoredFrom c trip b1 b0 k)
  have htrain : ∀ n x, (nth c.trains n).join = some x →
      (s.restoredFrom c trip b1 b0).train n = some (restoredTrain x).formed := fun n x hx => by
    rw [State.train_restoredFrom, hx, Option.map_some, restoreTrain_formed]
  have hqueue : (s.restoredFrom c trip b1 b0).drc.queue =
      [(1, Bed.a), (1, .b), (2, .a), (2, .b)].filter (fun q =>
        (nth c.trains q.1).join.any (fun x => restoredBed x q.2 == .spent)) := spentBeds_restored hlen
  refine ⟨t, hexec, hsts, hre.clk.trans rfl, hre.sns.trans rfl, hre.cfg.trans rfl, hre.act.trans rfl,
    hre.nst.trans rfl, hre.plu.trans rfl, hre.mtu.trans rfl, hre.smt.trans rfl, hre.hcu.trans rfl,
    hre.pending.trans rfl, fun j _ => ?_, fun k _ => ?_, (congrArg (fun d => d.required) hre.cdu).trans rfl,
    fun n _ x hx => ⟨fun hne => ?_, fun bed hb => ?_⟩, fun n _ hx => ?_, ?_, hside.gas, hside.volume, hside.free,
    hre.rx.trans rfl, hre.parser.trans rfl, hre.countdown.trans rfl, hre.lineSpeed.trans rfl, ?_, ?_⟩
  case refine_1 => rw [hcavern, funext restoreCavern_eq]
  case refine_2 => rw [hunit, funext restoreUnit_eq]
  case refine_3 => exact (hside.train n hne).trans (htrain n x hx)
  case refine_4 =>
    obtain ⟨hheated, htimer, hrate⟩ := hside.heated n bed hb _ (htrain n x hx)
    rw [Train.heated_formed] at hheated
    rw [Train.formed_config] at htimer hrate
    exact ⟨hheated, htimer, hrate⟩
  case refine_5 =>
    rw [hside.train n (fun bed hb => hside.configured hlen hb hx), State.train_restoredFrom, hx, Option.map_none]
  case refine_6 =>
    have hq := hside.queue
    have hh := hside.heating
    rw [hqueue] at hq hh
    cases trip with
    | false => exact ⟨hq, hh⟩
    | true => exact ⟨hq, hh⟩
  case refine_7 => exact hparked
  case refine_8 => exact htripped

end Sys2Proof.Machine
end

section
/-! What the operations of the plant blocks keep of their tables: each block has as many records as before, every order
entry holds a value of its actuator's kind, the HEATING bed is one of a train, and every configured object stays
configured. -/

open Sys2Proof Sys2Proof.Machine

namespace Sys2Proof.Machine

/-! ### The plant's part of the shape -/

/-- CVC, CDU, DRC and the order image have the records that the manual gives them (00_scope.md 1.1). -/
structure PlantSized (s : State) : Prop where
  caverns : s.cvc.length = 8
  units : s.cdu.units.length = 6
  trains : s.drc.trains.length = 2
  orders : s.ori.map (fun e => e.value.shape) = orderShapes
  heating : ∀ x ∈ s.drc.heating, x.1 ∈ trainNumbers

/-- `t` has the objects of `s` configured, and the plant's tables sized where `s` has. -/
structure PlantKept (s t : State) : Prop where
  configured : ∀ k, t.pointConfigured k = s.pointConfigured k
  sized : PlantSized s → PlantSized t

theorem PlantKept.refl (s : State) : PlantKept s s := ⟨fun _ => rfl, id⟩

theorem PlantKept.trans {s t u : State} (h1 : PlantKept s t) (h2 : PlantKept t u) : PlantKept s u :=
  ⟨fun k => (h2.configured k).trans (h1.configured k), fun h => h2.sized (h1.sized h)⟩

/-- A step that keeps a sized plant, after one that leaves the plant sized. -/
theorem PlantKept.then {s t u : State} (h1 : PlantKept s t) (hs : PlantSized s) (h2 : PlantSized t → PlantKept t u) :
    PlantKept s u := h1.trans (h2 (h1.sized hs))

theorem PlantKept.ite {s a b : State} {p : Prop} [Decidable p] (h1 : PlantKept s a) (h2 : PlantKept s b) :
    PlantKept s (if p then a else b) := by split <;> assumption

theorem PlantKept.forEach {f : State → Nat → State} {ns : List Nat} (h : ∀ u, ∀ n ∈ ns, PlantKept u (f u n))
    (s : State) : PlantKept s (s.forEach ns f) :=
  State.forEach_induct (P := PlantKept s) (.refl s) (fun u n hn hu => hu.trans (h u n hn))

/-- Steps over numbers that each keep a sized plant. -/
theorem PlantKept.forEach_sized {f : State → Nat → State} {ns : List Nat}
    (h : ∀ u, ∀ n ∈ ns, PlantSized u → PlantKept u (f u n)) {s : State} (hs : PlantSized s) :
    PlantKept s (s.forEach ns f) :=
  State.forEach_induct (P := PlantKept s) (.refl s) (fun u n hn hu => hu.then hs (h u n hn))

theorem State.pointConfigured_congr {s t : State} (hc : ∀ j, (t.cavern j).isSome = (s.cavern j).isSome)
    (hu : ∀ k, (t.unit k).isSome = (s.unit k).isSome) (ht : ∀ n, (t.train n).isSome = (s.train n).isSome)
    (k : PointKind) : t.pointConfigured k = s.pointConfigured k := by
  cases k <;> simp only [State.pointConfigured, hc, hu, ht]

/-- What touches no record of the plant keeps it. -/
theorem PlantKept.of_eq {s t : State} (hc : t.cvc = s.cvc) (hu : t.cdu.units = s.cdu.units) (hd : t.drc = s.drc)
    (ho : t.ori = s.ori) : PlantKept s t :=
  ⟨State.pointConfigured_congr (fun j => by rw [State.cavern_congr hc]) (fun k => by rw [State.unit_congr hu])
     (fun n => by rw [State.train_congr (congrArg Drying.trains hd)]),
   fun h => ⟨hc ▸ h.caverns, hu ▸ h.units, hd ▸ h.trains, ho ▸ h.orders, hd ▸ h.heating⟩⟩

theorem Reported.plantKept {s t : State} (h : Reported s t) : PlantKept s t := by
  obtain ⟨ho, -, hc, hu, hd⟩ := h.kept
  exact .of_eq hc (congrArg Duty.units hu) hd ho

/-! ### Records written -/

theorem map_setNth {α β : Type} (f : α → β) (l : List α) (n : Nat) (x : α) :
    (setNth l n x).map f = setNth (l.map f) n (f x) := by
  cases n with
  | zero => rfl
  | succ n => exact List.map_set

/-- A record written over a configured one leaves every object as configured as it was. -/
theorem nth_join_isSome {α : Type} {l : List (Option α)} {n : Nat} {y : α} (h : (nth l n).join = some y) (x : α)
    (m : Nat) : (nth (setNth l n (some x)) m).join.isSome = (nth l m).join.isSome := by
  by_cases hm : m = n
  · subst hm
    rw [nth_setNth_self _ (Option.join_eq_some_iff.mp h), h]
    rfl
  · rw [nth_setNth_of_ne _ _ hm]

theorem State.setCavern_kept {s : State} {j : Nat} {y : Cavern} (h : s.cavern j = some y) (x : Cavern) :
    PlantKept s (s.setCavern j (some x)) :=
  ⟨State.pointConfigured_congr (nth_join_isSome h x) (fun _ => rfl) (fun _ => rfl),
   fun hs => ⟨(setNth_length _ _ _).trans hs.caverns, hs.units, hs.trains, hs.orders, hs.heating⟩⟩

theorem State.setUnit_kept {s : State} {k : Nat} {y : Compressor} (h : s.unit k = some y) (x : Compressor) :
    PlantKept s (s.setUnit k (some x)) :=
  ⟨State.pointConfigured_congr (fun _ => rfl) (nth_join_isSome h x) (fun _ => rfl),
   fun hs => ⟨hs.caverns, (setNth_length _ _ _).trans hs.units, hs.trains, hs.orders, hs.heating⟩⟩

theorem State.setTrain_kept {s : State} {t : Nat} {y : Train} (h : s.train t = some y) (x : Train) :
    PlantKept s (s.setTrain t (some x)) :=
  ⟨State.pointConfigured_congr (fun _ => rfl) (fun _ => rfl) (nth_join_isSome h x),
   fun hs => ⟨hs.caverns, hs.units, (setNth_length _ _ _).trans hs.trains, hs.orders, hs.heating⟩⟩

theorem State.modCavern_kept (s : State) (j : Nat) (f : Cavern → Cavern) : PlantKept s (s.modCavern j f) := by
  obtain ⟨c, h, e⟩ | ⟨_, e⟩ := s.modCavern_eq j f <;> rw [e]
  · exact State.setCavern_kept h _
  · exact .refl s

theorem State.modUnit_kept (s : State) (k : Nat) (f : Compressor → Compressor) : PlantKept s (s.modUnit k f) := by
  obtain ⟨u, h, e⟩ | ⟨_, e⟩ := s.modUnit_eq k f <;> rw [e]
  · exact State.setUnit_kept h _
  · exact .refl s

theorem State.modTrain_kept (s : State) (t : Nat) (f : Train → Train) : PlantKept s (s.modTrain t f) := by
  obtain ⟨r, h, e⟩ | ⟨_, e⟩ := s.modTrain_eq t f <;> rw [e]
  · exact State.setTrain_kept h _
  · exact .refl s

theorem State.makePlanDue_kept (s : State) : PlantKept s s.makePlanDue := .of_eq rfl rfl rfl rfl

theorem State.raise_kept (s : State) (k : AlertKind) (o : Nat) : PlantKept s (s.raise k o) :=
  (s.raise_reported k o).plantKept

/-- A change of DRC that keeps the trains, and heats no bed but of a train. -/
theorem PlantKept.of_drc (s : State) {d : Drying} (ht : d.trains = s.drc.trains)
    (hh : ∀ x ∈ d.heating, x ∈ s.drc.heating ∨ x.1 ∈ trainNumbers) : PlantKept s { s with drc := d } :=
  ⟨State.pointConfigured_congr (fun _ => rfl) (fun _ => rfl) (fun n => by rw [State.train_congr ht]),
   fun hs => ⟨hs.caverns, hs.units, (congrArg List.length ht).trans hs.trains, hs.orders,
     fun x hx => (hh x hx).elim (hs.heating x) id⟩⟩

/-! ### The numbers of configured objects -/

theorem nth_join_mem {α : Type} {l : List (Option α)} {n : Nat} {x : α} (h : (nth l n).join = some x) :
    1 ≤ n ∧ n ≤ l.length :=
  nth_isSome.mp (Option.isSome_of_eq_some (Option.join_eq_some_iff.mp h))

section
variable {s : State} (hs : PlantSized s)
include hs

theorem PlantSized.cavern_number {j : Nat} {c : Cavern} (h : s.cavern j = some c) : j ∈ cavernNumbers := by
  obtain ⟨h1, h8⟩ := nth_join_mem h
  rw [hs.caverns] at h8
  simp only [cavernNumbers, List.mem_cons, List.not_mem_nil]
  omega

theorem PlantSized.unit_number {k : Nat} {u : Compressor} (h : s.unit k = some u) : k ∈ unitNumbers := by
  obtain ⟨h1, h6⟩ := nth_join_mem h
  rw [hs.units] at h6
  simp only [unitNumbers, List.mem_cons, List.not_mem_nil]
  omega

theorem PlantSized.train_number {t : Nat} {r : Train} (h : s.train t = some r) : t ∈ trainNumbers := by
  obtain ⟨h1, h2⟩ := nth_join_mem h
  rw [hs.trains] at h2
  simp only [trainNumbers, List.mem_cons, List.not_mem_nil]
  omega

end

/-! ### Orders of the kind of their actuator (11 R176) -/

/-- The entry of actuator `i` holds values of the kind of `v`. -/
def Suits (i : Nat) (v : OrderValue) : Prop := nth orderShapes i = some v.shape

theorem suits_valve {j : Nat} (hj : j ∈ cavernNumbers) (v : Valve) : Suits (valveActuator j) (.valve v) := by
  have h : ∀ j ∈ cavernNumbers, nth orderShapes (valveActuator j) = some 0 := by decide
  exact h j hj

theorem suits_rate {j : Nat} (hj : j ∈ cavernNumbers) (n : Nat) : Suits (rateActuator j) (.rate n) := by
  have h : ∀ j ∈ cavernNumbers, nth orderShapes (rateActuator j) = some 1 := by decide
  exact h j hj

theorem suits_run {k : Nat} (hk : k ∈ unitNumbers) (r : Run) : Suits (runActuator k) (.run r) := by
  have h : ∀ k ∈ unitNumbers, nth orderShapes (runActuator k) = some 2 := by decide
  exact h k hk

theorem suits_load {k : Nat} (hk : k ∈ unitNumbers) (n : Nat) : Suits (loadActuator k) (.load n) := by
  have h : ∀ k ∈ unitNumbers, nth orderShapes (loadActuator k) = some 3 := by decide
  exact h k hk

theorem suits_train {t : Nat} (ht : t ∈ trainNumbers) (m : TrainMode) (bed : Bed) (st : RegenStep) :
    Suits (trainActuator t) (.train m bed st) := by
  have h : ∀ t ∈ trainNumbers, nth orderShapes (trainActuator t) = some 4 := by decide
  exact h t ht

theorem suits_isolation (i : Isolation) : Suits isolationActuator (.isolation i) := by
  have h : nth orderShapes isolationActuator = some 5 := by decide
  exact h

/-- An entry replaced by one of the same kind leaves the kinds. -/
theorem PlantKept.of_ori {s t : State} {i : Nat} {e : OrderEntry} (hc : t.cvc = s.cvc)
    (hu : t.cdu.units = s.cdu.units) (hd : t.drc = s.drc) (ho : t.ori = setNth s.ori i e)
    (he : PlantSized s → nth orderShapes i = some e.value.shape) : PlantKept s t := by
  have h0 : PlantKept s { t with ori := s.ori } := .of_eq hc hu hd rfl
  refine ⟨h0.configured, fun hs => ?_⟩
  obtain ⟨h1, h2, h3, -, h5⟩ := h0.sized hs
  refine ⟨h1, h2, h3, ?_, h5⟩
  rw [ho, map_setNth, hs.orders, setNth_of_nth (he hs)]

theorem PlantSized.shape_order {s : State} (hs : PlantSized s) {i : Nat} {e : OrderEntry} (h : s.order i = some e) :
    nth orderShapes i = some e.value.shape := by
  have h' : nth s.ori i = some e := h
  rw [← hs.orders]
  cases i with
  | zero => cases h
  | succ n => simp_all

theorem State.offerOrder_kept (s : State) (i : Nat) : PlantKept s (s.offerOrder i) := by
  unfold State.offerOrder
  split
  · next e he =>
    have hsh := fun hs : PlantSized s => hs.shape_order he
    split
    · exact .of_ori (e := { e with unsent := false }) rfl rfl rfl rfl hsh
    · exact .of_ori (e := { e with unsent := true }) rfl rfl rfl rfl hsh
  · exact .refl s

theorem State.writeOrder_kept (s : State) {i : Nat} {v : OrderValue} (h : Suits i v) :
    PlantKept s (s.writeOrder i v) := by
  unfold State.writeOrder
  split
  · next e _ =>
    have h1 := PlantKept.of_ori (s := s) (i := i) (e := { e with value := v, second := s.clk.stationSeconds })
      (t := { s with ori := setNth s.ori i { e with value := v, second := s.clk.stationSeconds } })
      rfl rfl rfl rfl (fun _ => h)
    exact h1.trans (State.offerOrder_kept _ i)
  · exact .refl s

theorem State.writeOrderIfNew_kept (s : State) {i : Nat} {v : OrderValue} (h : Suits i v) :
    PlantKept s (s.writeOrderIfNew i v) := by
  unfold State.writeOrderIfNew
  split
  · exact .ite (.refl s) (s.writeOrder_kept h)
  · exact .refl s

theorem State.resendUnsent_kept (s : State) : PlantKept s s.resendUnsent := by
  unfold State.resendUnsent
  refine PlantKept.forEach (fun u i _ => ?_) s
  split
  · exact .ite (u.offerOrder_kept i) (.refl u)
  · exact .refl u

/-! ### CVC (07 R108 to R123) -/

section
variable {j : Nat} (hj : j ∈ cavernNumbers)
include hj

theorem State.writeValve_kept (s : State) (v : Valve) : PlantKept s (s.writeValve j v) :=
  .ite (.refl s) ((s.writeOrder_kept (suits_valve hj v)).trans (State.modCavern_kept _ _ _))

theorem State.writeRate_kept (s : State) (n : Nat) : PlantKept s (s.writeRate j n) :=
  s.writeOrderIfNew_kept (suits_rate hj n)

theorem State.shutCavern_kept (s : State) : PlantKept s (s.shutCavern j) :=
  ((s.writeValve_kept hj _).trans (State.writeRate_kept hj _ _)).trans (State.modCavern_kept _ _ _)

theorem State.enterSettling_kept (s : State) : PlantKept s (s.enterSettling j) :=
  ((s.shutCavern_kept hj).trans (State.modCavern_kept _ _ _)).trans (State.makePlanDue_kept _)

theorem State.orderFlow_kept (s : State) (d : Dir) (share : Nat) : PlantKept s (s.orderFlow j d share) :=
  ((s.modCavern_kept j _).trans (State.writeValve_kept hj _ _)).trans (State.writeRate_kept hj _ _)

theorem State.enterFlow_kept (s : State) (c : Cavern) (d : Dir) (share : Nat) :
    PlantKept s (s.enterFlow j c d share) := by
  unfold State.enterFlow
  refine PlantKept.trans ?_ (State.makePlanDue_kept _)
  refine PlantKept.trans ?_ (State.orderFlow_kept hj _ _ _)
  refine PlantKept.trans ?_ (State.modCavern_kept _ _ _)
  exact .ite ((s.modCavern_kept j _).trans (State.raise_kept _ _ _)) (s.modCavern_kept j _)

theorem State.reenterFlow_kept (s : State) (d : Dir) (share : Nat) : PlantKept s (s.reenterFlow j d share) :=
  ((s.modCavern_kept j _).trans (State.orderFlow_kept hj _ _ _)).trans (State.makePlanDue_kept _)

theorem State.adjustFlow_kept (s : State) (c : Cavern) (d : Dir) (share : Nat) :
    PlantKept s (s.adjustFlow j c d share) :=
  .ite ((s.modCavern_kept j _).trans (State.writeRate_kept hj _ _)) (s.modCavern_kept j _)

theorem State.applyShare_kept (s : State) (share : Nat) : PlantKept s (s.applyShare j share) := by
  unfold State.applyShare
  cases s.cavern j with
  | none => exact .refl s
  | some c =>
    cases s.planDir with
    | none => exact .ite (.ite (s.enterSettling_kept hj) (.refl s)) (.ite (.refl s) (.refl s))
    | some d =>
      exact .ite (.ite (s.enterSettling_kept hj) (.ite (s.adjustFlow_kept hj c d _) (.refl s)))
        (.ite (.refl s) (.ite (s.enterFlow_kept hj c d _) (.ite (s.reenterFlow_kept hj d _) (.refl s))))

end

theorem State.formCaps_kept (s : State) (j : Nat) : PlantKept s (s.formCaps j).1 := by
  unfold State.formCaps
  cases h : s.cavern j with
  | none => exact .refl s
  | some c => exact .ite ((State.setCavern_kept h _).trans (State.makePlanDue_kept _)) (State.setCavern_kept h _)

theorem State.formAllCaps_kept (s : State) : PlantKept s s.formAllCaps.1 :=
  State.formAllCaps_keeps (P := PlantKept s) (fun u j _ h => h.trans (u.formCaps_kept j)) (.refl s)

theorem State.runSplit_kept (s : State) : PlantKept s s.runSplit :=
  .forEach (fun u _ hj => u.applyShare_kept hj _) s

theorem settleCaps_kept (n : Nat) (s : State) : PlantKept s (settleCaps n s) := by
  induction n generalizing s with
  | zero => exact s.formAllCaps_kept
  | succ n ih =>
    have h := s.formAllCaps_kept
    unfold settleCaps
    generalize s.formAllCaps = r at h ⊢
    exact .ite ((h.trans r.1.runSplit_kept).trans (ih _)) h

theorem State.cavernsChanged_kept (s : State) : PlantKept s s.cavernsChanged := settleCaps_kept 8 s

theorem State.splitFlow_kept (s : State) : PlantKept s s.splitFlow :=
  .ite (s.runSplit_kept.trans (State.cavernsChanged_kept _)) (.refl s)

theorem State.pushPressure_kept (s : State) (j : Nat) : PlantKept s (s.pushPressure j) := by
  unfold State.pushPressure
  cases h : s.cavern j with
  | none => exact .refl s
  | some c =>
    exact .ite ((State.setCavern_kept h _).trans (State.raise_kept _ _ _))
      (.ite (State.setCavern_kept h _) (State.setCavern_kept h _))

theorem State.cavernMinute_kept (s : State) : PlantKept s s.cavernMinute :=
  ((PlantKept.forEach (fun u j _ => u.pushPressure_kept j) s).trans (State.formAllCaps_kept _)).trans
    (State.splitFlow_kept _)

theorem State.pressureArrival_kept {j : Nat} (hj : j ∈ cavernNumbers) (s : State) (value : Nat) :
    PlantKept s (s.pressureArrival j value) := by
  unfold State.pressureArrival
  cases s.cavern j with
  | none => exact .refl s
  | some c =>
    have h := fun f a => ((s.modCavern_kept j f).trans (State.enterSettling_kept hj _)).trans (State.raise_kept _ a j)
    exact PlantKept.trans (PlantKept.trans (.ite (h _ _) (.ite (h _ _) (.refl s))) (State.modCavern_kept _ _ _))
      (State.cavernsChanged_kept _)

theorem State.pressureQuality_kept {j : Nat} (hj : j ∈ cavernNumbers) (s : State) (q : Quality) :
    PlantKept s (s.pressureQuality j q) := by
  unfold State.pressureQuality
  cases s.cavern j with
  | none => exact .refl s
  | some c => exact PlantKept.trans (.ite (s.enterSettling_kept hj) (.refl s)) (State.cavernsChanged_kept _)

theorem State.stopFlow_kept {j : Nat} (hj : j ∈ cavernNumbers) (s : State) : PlantKept s (s.stopFlow j) := by
  unfold State.stopFlow
  split
  · exact .ite (s.enterSettling_kept hj) (.refl s)
  · exact .refl s

theorem State.cavernsStop_kept (s : State) : PlantKept s s.cavernsStop :=
  (PlantKept.forEach (fun u _ hj => u.stopFlow_kept hj) s).trans (State.cavernsChanged_kept _)

theorem State.cavernSecond_kept (s : State) (j : Nat) : PlantKept s (s.cavernSecond j) := by
  unfold State.cavernSecond
  split
  · exact .refl s
  · next h => exact State.setCavern_kept h _

theorem stepSettleExpiry_kept (j : Nat) (s : State) : PlantKept s (stepSettleExpiry j s) := by
  unfold stepSettleExpiry
  cases h : s.cavern j with
  | none => exact .refl s
  | some c =>
    exact .ite (.ite (((State.setCavern_kept h _).trans (State.makePlanDue_kept _)).trans
      (State.cavernsChanged_kept _)) (State.setCavern_kept h _)) (.refl s)

theorem stepValveFault_kept (j : Nat) {s : State} (hs : PlantSized s) : PlantKept s (stepValveFault j s) := by
  unfold stepValveFault
  cases h : s.cavern j with
  | none => exact .refl s
  | some c =>
    have hshut := s.shutCavern_kept (hs.cavern_number h)
    exact .ite (.ite (State.setCavern_kept h _) ((((hshut.trans (State.modCavern_kept _ _ _)).trans
      (State.raise_kept _ _ _)).trans (State.makePlanDue_kept _)).trans (State.cavernsChanged_kept _))) (.refl s)

theorem State.zeroVolumes_kept (s : State) : PlantKept s s.zeroVolumes :=
  .forEach (fun u j _ => u.modCavern_kept j _) s

theorem State.cavernRollover_kept (s : State) : PlantKept s s.cavernRollover :=
  (PlantKept.forEach (fun u j _ => u.modCavern_kept j _) s).trans (State.cavernsChanged_kept _)

theorem postCavern_kept (ls : List (Option CavernLine)) (s : State) (j : Nat) : PlantKept s (postCavern ls s j) := by
  unfold postCavern
  split
  · exact s.modCavern_kept j _
  · exact .refl s

theorem State.cavernInService_kept (s : State) (j : Nat) : PlantKept s (s.cavernInService j) := by
  unfold State.cavernInService
  split
  · next h =>
    exact .ite (((State.setCavern_kept h _).trans (State.makePlanDue_kept _)).trans (State.cavernsChanged_kept _))
      (.refl s)
  · exact .refl s

theorem State.abandonSettle_kept (s : State) (j : Nat) : PlantKept s (s.abandonSettle j) := by
  unfold State.abandonSettle
  split
  · next h =>
    exact .ite (((State.setCavern_kept h _).trans (State.makePlanDue_kept _)).trans (State.cavernsChanged_kept _))
      (.refl s)
  · exact .refl s

theorem State.cavernOutOfService_kept {s : State} (hs : PlantSized s) (j : Nat) :
    PlantKept s (s.cavernOutOfService j) := by
  unfold State.cavernOutOfService
  split
  · next h =>
    exact .ite (.refl s) ((((s.shutCavern_kept (hs.cavern_number h)).trans (State.modCavern_kept _ _ _)).trans
      (State.makePlanDue_kept _)).trans (State.cavernsChanged_kept _))
  · exact .refl s

end Sys2Proof.Machine
end

section
/-! The units, the trains and the station's entries keep the plant's tables, as the caverns do. -/

open Sys2Proof Sys2Proof.Machine

namespace Sys2Proof.Machine

/-! ### CDU (08 R128 to R142) -/

theorem State.writeRun_kept {k : Nat} (hk : k ∈ unitNumbers) (s : State) : PlantKept s (s.writeRun k) := by
  unfold State.writeRun
  split
  · exact .ite (.refl s) (s.writeOrderIfNew_kept (suits_run hk _))
  · exact .refl s

theorem State.writeLoad_kept {k : Nat} (hk : k ∈ unitNumbers) (s : State) : PlantKept s (s.writeLoad k) := by
  unfold State.writeLoad
  split
  · exact s.writeOrderIfNew_kept (suits_load hk _)
  · exact .refl s

theorem State.writeUnitOrders_kept (s : State) : PlantKept s s.writeUnitOrders := by
  rw [State.writeUnitOrders_eq]
  exact (PlantKept.forEach (fun u _ hk => u.writeRun_kept hk) s).trans
    (PlantKept.forEach (fun u _ hk => u.writeLoad_kept hk) _)

theorem State.changeUnit_kept {s : State} {k : Nat} {x : Compressor} (h : s.unit k = some x) (u v : Compressor) :
    PlantKept s (s.changeUnit k u v) :=
  .ite ((State.setUnit_kept h v).trans (State.makePlanDue_kept _)) (State.setUnit_kept h v)

theorem State.readyTest_kept (s : State) (k : Nat) : PlantKept s (s.readyTest k).1 := by
  unfold State.readyTest
  split
  · next h =>
    split
    · exact State.changeUnit_kept h _ _
    · exact .refl s
  · exact .refl s

theorem State.enterResting_kept {s : State} {k : Nat} {x : Compressor} (h : s.unit k = some x) (u : Compressor) :
    PlantKept s (s.enterResting k u).1 :=
  (State.changeUnit_kept h _ _).trans (State.readyTest_kept _ k)

theorem State.stoppedTest_kept (s : State) (k : Nat) : PlantKept s (s.stoppedTest k).1 := by
  unfold State.stoppedTest
  split
  · next h =>
    split
    · exact State.enterResting_kept h _
    · exact .refl s
  · exact .refl s

theorem startUnits_kept (n need : Nat) (s : State) : PlantKept s (startUnits n need s).1 := by
  induction n generalizing s with
  | zero => exact .refl s
  | succ n ih =>
    unfold startUnits
    split
    · split
      · next hw => exact (State.changeUnit_kept (State.leastWorn_ready hw).1 _ _).trans (ih _)
      · exact .refl s
    · exact .refl s

theorem State.stopUnit_kept (s : State) : PlantKept s s.stopUnit := by
  unfold State.stopUnit
  split
  · next hw =>
    have h := (State.stopCandidates_running (List.mem_of_find?_eq_some hw)).1
    exact (State.changeUnit_kept h _ _).trans (State.stoppedTest_kept _ _)
  · exact .refl s

theorem State.setLoads_kept (s : State) : PlantKept s s.setLoads :=
  .forEach (fun u k _ => u.modUnit_kept k _) s

theorem State.evaluateDuty_kept (s : State) : PlantKept s s.evaluateDuty := by
  unfold State.evaluateDuty
  split
  · have h := startUnits_kept 6 s.need s
    exact (PlantKept.trans (.ite h (h.trans (State.stopUnit_kept _))) (State.setLoads_kept _)).trans
      (State.writeUnitOrders_kept _)
  · exact .refl s

theorem repeatDuty_kept (n : Nat) (s : State) : PlantKept s (repeatDuty n s) := by
  induction n generalizing s with
  | zero => exact .refl s
  | succ n ih => exact s.evaluateDuty_kept.trans (ih _)

theorem dutyAfter_kept (r : State × Nat) : PlantKept r.1 (dutyAfter r) :=
  .ite (.refl _) ((State.writeUnitOrders_kept _).trans (repeatDuty_kept _ _))

theorem State.changeUnit_duty_kept {s : State} {k : Nat} {x : Compressor} (h : s.unit k = some x) (u v : Compressor) :
    PlantKept s (dutyAfter (s.changeUnit k u v, 1)) :=
  PlantKept.trans (State.changeUnit_kept h u v) (dutyAfter_kept (s.changeUnit k u v, 1))

theorem State.tripRaised_kept {s : State} {k : Nat} {x : Compressor} (h : s.unit k = some x) (u : Compressor)
    (a : AlertKind) : PlantKept s (s.tripRaised k u a) := by
  have h1 := ((State.changeUnit_kept h u u.tripped).trans (State.writeUnitOrders_kept _)).trans (State.raise_kept _ a k)
  exact .ite (h1.trans (State.raise_kept _ _ _)) h1

theorem State.tripUnit_kept {s : State} {k : Nat} {x : Compressor} (h : s.unit k = some x) (u : Compressor)
    (a : AlertKind) : PlantKept s (s.tripUnit k u a) := by
  rw [State.tripUnit_eq]
  exact ((State.tripRaised_kept h u a).trans (State.stoppedTest_kept _ k)).trans (dutyAfter_kept
    (((s.tripRaised k u a).stoppedTest k).1, ((s.tripRaised k u a).stoppedTest k).2 + 1))

theorem State.feedbackArrival_kept (s : State) (k value : Nat) : PlantKept s (s.feedbackArrival k value) := by
  unfold State.feedbackArrival
  have hs := (s.stoppedTest_kept k).trans (dutyAfter_kept _)
  cases h : s.unit k with
  | none => exact .refl s
  | some u =>
    have ht := State.tripUnit_kept h u .unitTrip
    cases hu : u.state <;> simp only [hu]
    case starting => exact .ite (State.changeUnit_duty_kept h _ _) (.ite ht (.refl s))
    case running => exact .ite ht (.refl s)
    case stopping => exact .ite ht (.ite hs (.refl s))
    case tripped => exact .ite hs (.refl s)
    all_goals exact .refl s

theorem State.feedbackQuality_kept (s : State) (k : Nat) (q : Quality) : PlantKept s (s.feedbackQuality k q) := by
  unfold State.feedbackQuality
  split
  · exact .refl s
  · next h => exact .ite (State.tripUnit_kept h _ _) (.refl s)

theorem stepMinRunExpiry_kept (k : Nat) (s : State) : PlantKept s (stepMinRunExpiry k s) := by
  unfold stepMinRunExpiry
  split
  · exact .refl s
  · next h => exact .ite ((State.setUnit_kept h _).trans (State.evaluateDuty_kept _)) (.refl s)

theorem stepMinStopExpiry_kept (k : Nat) (s : State) : PlantKept s (stepMinStopExpiry k s) := by
  unfold stepMinStopExpiry
  split
  · exact .refl s
  · next h =>
    exact .ite ((((State.setUnit_kept h _).trans (State.readyTest_kept _ k)).trans (dutyAfter_kept _)).trans
      (State.evaluateDuty_kept _)) (.refl s)

theorem stepTimeoutExpiry_kept (k : Nat) (s : State) : PlantKept s (stepTimeoutExpiry k s) := by
  unfold stepTimeoutExpiry
  cases h : s.unit k with
  | none => exact .refl s
  | some u =>
    refine .ite ?_ (.refl s)
    cases u.state <;> simp only
    case starting => exact State.tripUnit_kept h u _
    case stopping => exact State.tripUnit_kept h u _
    all_goals exact State.setUnit_kept h _

theorem stepStartListDrop_kept (k : Nat) (s : State) : PlantKept s (stepStartListDrop k s) := by
  unfold stepStartListDrop
  split
  · exact .refl s
  · next h =>
    exact .ite (((State.setUnit_kept h _).trans (State.readyTest_kept _ k)).trans (dutyAfter_kept _)) (.refl s)

theorem State.stopEngaged_kept (s : State) (k : Nat) : PlantKept s (s.stopEngaged k) := by
  unfold State.stopEngaged
  split
  · next h => exact .ite ((State.changeUnit_kept h _ _).trans (State.stoppedTest_kept _ k)) (.refl s)
  · exact .refl s

theorem State.unitsStop_kept (s : State) : PlantKept s s.unitsStop :=
  (PlantKept.forEach (fun u k _ => u.stopEngaged_kept k) s).trans (State.writeUnitOrders_kept _)

theorem State.unitRollover_kept (s : State) : PlantKept s s.unitRollover :=
  .forEach (fun u k _ => u.modUnit_kept k _) s

theorem State.unitAvailable_kept (s : State) (k : Nat) : PlantKept s (s.unitAvailable k) := by
  unfold State.unitAvailable
  split
  · next h => exact .ite (State.changeUnit_duty_kept h _ _) (.refl s)
  · exact .refl s

theorem State.unitUnavailable_kept (s : State) (k : Nat) : PlantKept s (s.unitUnavailable k) := by
  unfold State.unitUnavailable
  split
  · next h => exact .ite (.refl s) (State.changeUnit_duty_kept h _ _)
  · exact .refl s

theorem State.unitRelease_kept (s : State) (k : Nat) : PlantKept s (s.unitRelease k) := by
  unfold State.unitRelease
  split
  · next h => exact .ite ((State.enterResting_kept h _).trans (dutyAfter_kept _)) (.refl s)
  · exact .refl s

/-! ### DRC (09 R147 to R154) -/

section
variable {t : Nat} (ht : t ∈ trainNumbers)
include ht

theorem State.writeTrainMode_kept (s : State) (m : TrainMode) : PlantKept s (s.writeTrainMode t m) :=
  s.writeOrderIfNew_kept (suits_train ht _ _ _)

theorem State.writeTrainBed_kept (s : State) (bed : Bed) : PlantKept s (s.writeTrainBed t bed) :=
  s.writeOrderIfNew_kept (suits_train ht _ _ _)

theorem State.writeTrainStep_kept (s : State) (st : RegenStep) : PlantKept s (s.writeTrainStep t st) :=
  s.writeOrderIfNew_kept (suits_train ht _ _ _)

theorem State.decideMode_kept (s : State) : PlantKept s (s.decideMode t) := by
  unfold State.decideMode
  split
  · exact .ite (s.writeTrainMode_kept ht _) (.refl s)
  · exact .refl s

end

theorem State.formTrain_kept (s : State) (t : Nat) : PlantKept s (s.formTrain t) := by
  unfold State.formTrain
  cases h : s.train t with
  | none => exact .refl s
  | some r =>
    have hset := State.setTrain_kept h
      { r with condition := r.formCondition, planCap := planningCapacity r.config r.state r.formCondition }
    have hr := fun a => hset.trans (State.raise_kept _ a t)
    have hx := PlantKept.ite (p := r.formCondition = .derated ∧ r.condition = .normal) (hr .trainDerated)
      (.ite (p := r.formCondition = .breakthrough ∧ r.condition ≠ .breakthrough) (hr .trainBreakthrough) hset)
    exact .ite hx (hx.trans (State.makePlanDue_kept _))

theorem State.changeTrain_kept {s : State} {t : Nat} {y : Train} (h : s.train t = some y) (r : Train)
    (st : TrainState) : PlantKept s (s.changeTrain t r st) :=
  ((State.setTrain_kept h _).trans (State.formTrain_kept _ _)).trans (State.makePlanDue_kept _)

theorem State.trainsPlan_kept (s : State) : PlantKept s s.trainsPlan := by
  unfold State.trainsPlan
  refine .ite (PlantKept.trans (PlantKept.forEach (fun u t _ => ?_) s)
    (PlantKept.forEach (fun u _ ht => u.decideMode_kept ht) _)) (.refl s)
  split
  · next h =>
    exact .ite (.ite (State.changeTrain_kept h _ _) (.refl u)) (.ite (State.changeTrain_kept h _ _) (.refl u))
  · exact .refl u

theorem State.standDown_kept (s : State) (t : Nat) : PlantKept s (s.standDown t) := by
  unfold State.standDown
  split
  · next h => exact .ite (State.changeTrain_kept h _ _) (.refl s)
  · exact .refl s

theorem State.trainsStop_kept (s : State) : PlantKept s s.trainsStop :=
  .forEach (fun u t _ => u.standDown_kept t) s

section
variable {s : State} (hs : PlantSized s)
include hs

theorem State.serveHeater_kept : PlantKept s s.serveHeater := by
  unfold State.serveHeater
  split
  · exact .refl s
  · next t bed rest _ =>
    refine .ite ?_ (.refl s)
    cases h : s.train t with
    | none => exact .refl s
    | some r =>
      have ht := hs.train_number h
      refine PlantKept.trans ?_ (State.formTrain_kept _ _)
      refine PlantKept.trans ?_ (State.writeTrainStep_kept ht _ _)
      refine PlantKept.trans ?_ (State.setTrain_kept (y := r) ?_ _)
      · refine PlantKept.of_drc s rfl (fun x hx => .inr ?_)
        cases hx
        exact ht
      · exact h

theorem State.switchBeds_kept {t : Nat} {y : Train} (h : s.train t = some y) (r : Train) :
    PlantKept s (s.switchBeds t r) := by
  refine PlantKept.then ?_ hs (fun hu => State.serveHeater_kept hu)
  refine PlantKept.trans ?_ (State.formTrain_kept _ _)
  refine PlantKept.trans ?_ (State.writeTrainBed_kept (hs.train_number h) _ _)
  exact (State.setTrain_kept h _).trans (PlantKept.of_drc _ rfl (fun _ => .inl))

theorem State.switchTest_kept (t : Nat) : PlantKept s (s.switchTest t) := by
  unfold State.switchTest
  split
  · next h => exact .ite (State.switchBeds_kept hs h _) (.refl s)
  · exact .refl s

theorem State.switchTests_kept : PlantKept s s.switchTests := by
  unfold State.switchTests
  have hd := fun b => PlantKept.of_drc s (d := { s.drc with switchDue := b }) rfl (fun _ => .inl)
  exact .ite (hd true) ((hd false).then hs (fun hu =>
    PlantKept.forEach_sized (fun _ t _ hv => State.switchTest_kept hv t) hu))

theorem State.resumeSwitchTests_kept : PlantKept s s.resumeSwitchTests := .ite (State.switchTests_kept hs) (.refl s)

theorem stepHeatingExpiry_kept : PlantKept s (stepHeatingExpiry s) := by
  unfold stepHeatingExpiry
  refine .ite ?_ (.refl s)
  cases h : s.drc.heating with
  | none => exact .of_drc s rfl (fun _ hx => .inl (h ▸ hx))
  | some x =>
    have ht := hs.heating x h
    refine PlantKept.then ?_ hs (fun hu => State.resumeSwitchTests_kept hu)
    refine PlantKept.then ?_ hs (fun hu => State.serveHeater_kept hu)
    refine PlantKept.trans ?_ (State.formTrain_kept _ _)
    refine PlantKept.trans ?_ (State.writeTrainStep_kept ht _ _)
    refine PlantKept.trans ?_ (State.modTrain_kept _ _ _)
    exact .of_drc s rfl nofun

theorem State.abortHeating_kept : PlantKept s s.abortHeating := by
  unfold State.abortHeating
  cases h : s.drc.heating with
  | none => exact .refl s
  | some x =>
    have ht := hs.heating x h
    refine PlantKept.trans ?_ (State.formTrain_kept _ _)
    refine PlantKept.trans ?_ (State.writeTrainStep_kept ht _ _)
    refine PlantKept.trans ?_ (State.modTrain_kept _ _ _)
    exact .of_drc s rfl nofun

theorem stepCoolingExpiry_kept (t : Nat) : PlantKept s (stepCoolingExpiry t s) := by
  unfold stepCoolingExpiry
  split
  · exact .refl s
  · next h =>
    refine .ite (PlantKept.then ?_ hs (fun hu => State.resumeSwitchTests_kept hu)) (.refl s)
    exact ((State.setTrain_kept h _).trans (State.writeTrainStep_kept (hs.train_number h) _ _)).trans
      (State.formTrain_kept _ _)

theorem State.dryerSecond_kept : PlantKept s s.dryerSecond := by
  have h1 : PlantKept s (s.forEach trainNumbers State.trainSecond) := by
    refine PlantKept.forEach (fun u t _ => ?_) s
    unfold State.trainSecond
    split
    · exact .refl u
    · next h => exact (State.setTrain_kept h _).trans (State.formTrain_kept _ _)
  unfold State.dryerSecond
  refine PlantKept.then ?_ hs (fun hu => State.switchTests_kept hu)
  exact h1.trans (PlantKept.of_drc _ rfl (fun _ => .inl))

theorem stepOffspecEntry_kept (t : Nat) : PlantKept s (stepOffspecEntry t s) := by
  unfold stepOffspecEntry
  split
  · exact .refl s
  · next h =>
    exact .ite (((State.changeTrain_kept h _ _).trans (State.raise_kept _ _ _)).trans
      (State.decideMode_kept (hs.train_number h) _)) (.refl s)

theorem stepOffspecRecovery_kept (t : Nat) : PlantKept s (stepOffspecRecovery t s) := by
  unfold stepOffspecRecovery
  split
  · exact .refl s
  · next h =>
    exact .ite ((State.changeTrain_kept h _ _).trans (State.decideMode_kept (hs.train_number h) _)) (.refl s)

theorem State.trainInService_kept (t : Nat) : PlantKept s (s.trainInService t) := by
  unfold State.trainInService
  split
  · next h =>
    exact .ite ((State.changeTrain_kept h _ _).trans (State.decideMode_kept (hs.train_number h) _)) (.refl s)
  · exact .refl s

theorem State.trainOutOfService_kept (t : Nat) : PlantKept s (s.trainOutOfService t) := by
  unfold State.trainOutOfService
  split
  · next h =>
    exact .ite (.refl s) ((State.changeTrain_kept h _ _).trans (State.decideMode_kept (hs.train_number h) _))
  · exact .refl s

theorem State.trainSwitch_kept (t : Nat) : PlantKept s (s.trainSwitch t) := by
  unfold State.trainSwitch
  split
  · next h => exact .ite (State.switchBeds_kept hs h _) (.refl s)
  · exact .refl s

end

/-! ### The station's entries (01 R7 to R11) -/

theorem State.setStation_kept (s : State) (st : StationState) : PlantKept s (s.setStation st) := .of_eq rfl rfl rfl rfl

theorem State.safeOrders_kept (s : State) : PlantKept s s.safeOrders := by
  have hv : ∀ u : State, ∀ j ∈ cavernNumbers, PlantKept u (u.shutValve j) := fun u _ hj =>
    have h := u.writeOrder_kept (suits_valve hj .shut)
    .ite (h.trans (State.modCavern_kept _ _ _)) h
  rw [State.safeOrders_eq]
  exact ((PlantKept.forEach hv s).trans
    (PlantKept.forEach (fun u _ hk => u.writeOrder_kept (suits_run hk .stop)) _)).trans
    (PlantKept.forEach (fun u _ ht => u.writeOrder_kept (suits_train ht _ _ _)) _)

theorem State.blocksStop_kept (s : State) : PlantKept s s.cavernsStop.unitsStop.trainsStop :=
  (s.cavernsStop_kept.trans (State.unitsStop_kept _)).trans (State.trainsStop_kept _)

theorem State.start_kept (s : State) : PlantKept s s.start :=
  (((s.setStation_kept _).trans (State.makePlanDue_kept _)).trans
    (State.writeOrderIfNew_kept _ (suits_isolation _))).trans (State.formAllCaps_kept _)

theorem State.park_kept (s : State) : PlantKept s s.park :=
  (((s.setStation_kept _).trans (State.safeOrders_kept _)).trans (State.makePlanDue_kept _)).trans
    (State.blocksStop_kept _)

theorem State.gasDayRollover_kept (s : State) : PlantKept s s.gasDayRollover :=
  s.cavernRollover_kept.trans (State.unitRollover_kept _)

theorem State.planTaken_kept (s : State) : PlantKept s s.planTaken :=
  (s.splitFlow_kept.trans (State.evaluateDuty_kept _)).trans (State.trainsPlan_kept _)

section
variable {s : State} (hs : PlantSized s)
include hs

theorem State.resume_kept : PlantKept s s.resume :=
  (((s.setStation_kept _).trans (State.makePlanDue_kept _)).trans (State.blocksStop_kept _)).then hs
    (fun hu => State.serveHeater_kept hu)

theorem State.tripEntry_kept : PlantKept s s.tripEntry := by
  have h1 := (((s.setStation_kept .tripped).trans (State.safeOrders_kept _)).trans
    (State.writeOrder_kept _ (suits_isolation .isolate))).trans (State.makePlanDue_kept _)
  exact ((h1.then hs (fun hu => State.abortHeating_kept hu)).trans (State.raise_kept _ _ _)).trans
    (State.blocksStop_kept _)

theorem State.tripAsserted_kept : PlantKept s s.tripAsserted := by
  unfold State.tripAsserted
  split
  · exact State.tripEntry_kept hs
  · exact State.tripEntry_kept hs
  · exact s.raise_kept _ _
  · exact s.raise_kept _ _

theorem State.command_kept (action : Nat) : PlantKept s (s.command action) :=
  .ite s.start_kept (.ite s.park_kept (.ite (State.tripAsserted_kept hs) (State.resume_kept hs)))

theorem State.leaveBlank_kept : PlantKept s s.leaveBlank :=
  .ite (.ite (State.tripEntry_kept hs) ((s.setStation_kept _).trans (State.makePlanDue_kept _))) (.refl s)

end

end Sys2Proof.Machine
end

section
/-! The two laws that this part settles, of the shape of the tables (00_scope.md 1.1) and of the grades of the points
(02 R23), and what an operation has to keep for both: the plant's tables, the lengths of the others, and the points. -/

open Sys2Proof Sys2Proof.Machine

namespace Sys2Proof.Machine

/-! ### The shape, table by table -/

/-- The sample table, the books, the alert set and the stored snapshots have the records that the manual gives them. -/
structure TablesSized (s : State) : Prop where
  points : s.smt.length = 41
  accounts : s.act.accounts.length = 16
  partitions : s.nst.length = 16
  alerts : s.als.length = 23
  content : ∀ c ∈ s.sns.content, c.shaped = true
  copy : ∀ c ∈ s.sns.copy, c.shaped = true

theorem State.shaped_iff (s : State) : s.shaped = true ↔ PlantSized s ∧ TablesSized s := by
  simp only [State.shaped, Bool.and_eq_true, beq_iff_eq, Option.all_eq_true, List.contains_iff_mem]
  constructor
  · rintro ⟨⟨⟨⟨⟨⟨⟨⟨⟨⟨hp, ha⟩, hn⟩, hc⟩, hu⟩, ht⟩, hl⟩, ho⟩, hh⟩, hs⟩, hw⟩
    exact ⟨⟨hc, hu, ht, ho, hh⟩, hp, ha, hn, hl, hs, hw⟩
  · rintro ⟨⟨hc, hu, ht, ho, hh⟩, hp, ha, hn, hl, hs, hw⟩
    exact ⟨⟨⟨⟨⟨⟨⟨⟨⟨⟨hp, ha⟩, hn⟩, hc⟩, hu⟩, ht⟩, hl⟩, ho⟩, hh⟩, hs⟩, hw⟩

theorem Snapshot.shaped_iff (c : Snapshot) : c.shaped = true ↔
    c.act.accounts.length = 16 ∧ c.entries.length = 16 ∧ c.caverns.length = 8 ∧ c.units.length = 6 ∧
    c.trains.length = 2 ∧ c.enabled.length = 23 := by
  simp only [Snapshot.shaped, Bool.and_eq_true, beq_iff_eq, and_assoc]

/-- `t` has the points and the limits of `s`, and as many accounts, partitions and alert records, and its snapshots. -/
structure TablesKept (s t : State) : Prop where
  points : t.smt = s.smt
  limits : t.cfg.limits = s.cfg.limits
  accounts : t.act.accounts.length = s.act.accounts.length
  partitions : t.nst.length = s.nst.length
  alerts : t.als.length = s.als.length
  content : t.sns.content = s.sns.content
  copy : t.sns.copy = s.sns.copy

theorem TablesKept.refl (s : State) : TablesKept s s := ⟨rfl, rfl, rfl, rfl, rfl, rfl, rfl⟩

theorem TablesKept.trans {s t u : State} (h1 : TablesKept s t) (h2 : TablesKept t u) : TablesKept s u :=
  ⟨h2.points.trans h1.points, h2.limits.trans h1.limits, h2.accounts.trans h1.accounts,
   h2.partitions.trans h1.partitions, h2.alerts.trans h1.alerts, h2.content.trans h1.content, h2.copy.trans h1.copy⟩

theorem TablesKept.ite {s a b : State} {p : Prop} [Decidable p] (h1 : TablesKept s a) (h2 : TablesKept s b) :
    TablesKept s (if p then a else b) := by split <;> assumption

theorem TablesKept.sized {s t : State} (h : TablesKept s t) (hs : TablesSized s) : TablesSized t :=
  ⟨h.points ▸ hs.points, h.accounts.trans hs.accounts, h.partitions.trans hs.partitions, h.alerts.trans hs.alerts,
   h.content ▸ hs.content, h.copy ▸ hs.copy⟩

/-- The plant moves beside the other tables. -/
theorem PlantMoved.tables {s t : State} (h : PlantMoved s t) : TablesKept s t :=
  ⟨h.smt, congrArg Settings.limits h.cfg, congrArg (fun a => a.accounts.length) h.act, congrArg List.length h.nst,
   h.alerts, congrArg Store.content h.sns, congrArg Store.copy h.sns⟩

/-! ### The grades of the points -/

/-- A point record agrees with its configured object and its class limit (02 R20, R23). -/
def Point.Fits (x : Point) (configured : Bool) (l : Limit) : Prop :=
  (x.quality = .never → x = Point.never) ∧
  (x.quality ≠ .never → configured = true ∧ x.quality = gradeOf l x.age)

theorem Point.fits_never (b : Bool) (l : Limit) : Point.never.Fits b l := ⟨fun _ => rfl, fun h => absurd rfl h⟩

theorem Point.Fits.mono {x : Point} {b c : Bool} {l : Limit} (h : x.Fits b l) (hbc : b = true → c = true) :
    x.Fits c l := ⟨h.1, fun hq => ⟨hbc (h.2 hq).1, (h.2 hq).2⟩⟩

theorem gradeOf_ne_never (l : Limit) (a : Nat) : gradeOf l a ≠ .never := by
  unfold gradeOf
  repeat' split
  all_goals nofun

/-- A point graded again fits the limit it is graded by. -/
theorem Point.Fits.regrade {x : Point} {b : Bool} {l : Limit} (h : x.Fits b l) (m : Limit) :
    (regrade m x).Fits b m := by
  unfold Machine.regrade
  split
  · next hq => rw [h.1 hq]; exact Point.fits_never b m
  · next hq => exact ⟨fun hn => absurd hn (gradeOf_ne_never m x.age), fun _ => ⟨(h.2 hq).1, rfl⟩⟩

/-- A point one second older fits its limit. -/
theorem Point.Fits.aged {x : Point} {b : Bool} {l : Limit} (h : x.Fits b l) : (agePoint l x).Fits b l := by
  unfold agePoint
  split
  · exact h
  · next hq =>
    unfold Machine.regrade
    rw [if_neg hq]
    exact ⟨fun hn => absurd hn (gradeOf_ne_never l _), fun _ => ⟨(h.2 hq).1, rfl⟩⟩

/-- A number names a point below 41 only. -/
theorem pointKind_lt {p : Nat} {k : PointKind} (h : pointKind p = some k) : p < 41 := by
  by_contra hp
  unfold pointKind at h
  rw [if_neg (by omega), if_neg (by omega), if_neg (by omega), if_neg (by omega), if_neg (by omega),
    if_neg (by omega), if_neg (by omega), if_neg (by omega)] at h
  cases h

theorem State.pointFits_iff (s : State) {p : Nat} {k : PointKind} (hk : pointKind p = some k) :
    s.pointFits p = true ↔ (s.point p).Fits (s.pointConfigured k) (limitOf s.cfg.limits k) := by
  unfold State.pointFits Point.Fits
  rw [hk]
  by_cases hq : (s.point p).quality = .never <;> simp [hq]

theorem State.pointLaw_iff (s : State) : s.pointLaw = true ↔
    ∀ p k, pointKind p = some k → (s.point p).Fits (s.pointConfigured k) (limitOf s.cfg.limits k) := by
  simp only [State.pointLaw, List.all_eq_true, List.mem_range]
  constructor
  · exact fun h p k hk => (s.pointFits_iff hk).mp (h p (pointKind_lt hk))
  · intro h p _
    cases hk : pointKind p with
    | none => rw [State.pointFits, hk]
    | some k => exact (s.pointFits_iff hk).mpr (h p k hk)

/-! ### Operations that keep both laws -/

/-- From a state of the right shape, `t` has the right shape, and its points show their grades where those of `s` do. -/
def Held (s t : State) : Prop := s.shaped = true → t.shaped = true ∧ (s.pointLaw = true → t.pointLaw = true)

theorem Held.refl (s : State) : Held s s := fun h => ⟨h, id⟩

theorem Held.trans {s t u : State} (h1 : Held s t) (h2 : Held t u) : Held s u := fun h =>
  ⟨(h2 (h1 h).1).1, fun hp => (h2 (h1 h).1).2 ((h1 h).2 hp)⟩

theorem Held.ite {s a b : State} {p : Prop} [Decidable p] (h1 : Held s a) (h2 : Held s b) :
    Held s (if p then a else b) := by split <;> assumption

theorem Held.forEach {f : State → Nat → State} {ns : List Nat} (h : ∀ u, ∀ n ∈ ns, Held u (f u n)) (s : State) :
    Held s (s.forEach ns f) :=
  State.forEach_induct (P := Held s) (.refl s) (fun u n hn hu => hu.trans (h u n hn))

/-- A sized plant may be used in what is shown of a step. -/
theorem Held.of_sized {s t : State} (h : PlantSized s → Held s t) : Held s t := fun hs =>
  h (s.shaped_iff.mp hs).1 hs

/-- What keeps the tables, and has every object configured that was, keeps both laws. -/
theorem Held.of_tables {s t : State} (hp : PlantSized s → PlantSized t) (ht : TablesKept s t)
    (hc : ∀ k, s.pointConfigured k = true → t.pointConfigured k = true) : Held s t := by
  intro hs
  obtain ⟨h1, h2⟩ := s.shaped_iff.mp hs
  refine ⟨t.shaped_iff.mpr ⟨hp h1, ht.sized h2⟩, fun hl => t.pointLaw_iff.mpr (fun p k hk => ?_)⟩
  rw [State.point_congr ht.points, ht.limits]
  exact (s.pointLaw_iff.mp hl p k hk).mono (hc k)

theorem PlantKept.held {s t : State} (hk : PlantKept s t) (ht : TablesKept s t) : Held s t :=
  .of_tables hk.sized ht (fun k h => (hk.configured k).trans h)

/-- The plant's own operations keep both laws. -/
theorem PlantKept.held_of_moved {s t : State} (hk : PlantKept s t) (hm : PlantMoved s t) : Held s t :=
  hk.held hm.tables

/-- A command that sets the station state and moves the plant. -/
theorem PlantKept.held_of_station {s t : State} {st : StationState} (hk : PlantKept s t)
    (hm : PlantMoved (s.setStation st) t) : Held s t :=
  hk.held (TablesKept.trans (t := s.setStation st) ⟨rfl, rfl, rfl, rfl, rfl, rfl, rfl⟩ hm.tables)

/-- What the books move is no record of the plant. -/
theorem BooksMoved.plantKept {s t : State} (h : BooksMoved s t) : PlantKept s t :=
  .of_eq h.cvc (congrArg Duty.units h.cdu) (congrArg (fun x => x.drc) h.rest) h.ori

theorem BooksMoved.held {s t : State} (h : BooksMoved s t) (ht : TablesKept s t) : Held s t := h.plantKept.held ht

theorem Reported.tables {s t : State} (h : Reported s t) : TablesKept s t := h.plant.tables

theorem Reported.held {s t : State} (h : Reported s t) : Held s t := h.plantKept.held h.tables

/-- A change of the clock, the station, the meter, PLU, the compression mark, HCU or the link. -/
theorem Held.of_rest {s t : State} (h : { t with clk := s.clk, sts := s.sts, mtu := s.mtu, plu := s.plu
                                                 cdu := { t.cdu with required := s.cdu.required }, hcu := s.hcu
                                                 slk := s.slk, pending := s.pending } = s) : Held s t :=
  have hc := congrArg (fun x : State => x.cvc) h
  have hu := congrArg (fun x : State => x.cdu.units) h
  have hd := congrArg (fun x : State => x.drc) h
  have ho := congrArg (fun x : State => x.ori) h
  have hp := congrArg (fun x : State => x.smt) h
  have hl := congrArg (fun x : State => x.cfg.limits) h
  have ha := congrArg (fun x : State => x.act.accounts.length) h
  have hn := congrArg (fun x : State => x.nst.length) h
  have hs := congrArg (fun x : State => x.als.length) h
  have hx := congrArg (fun x : State => x.sns.content) h
  have hy := congrArg (fun x : State => x.sns.copy) h
  PlantKept.held (.of_eq hc hu hd ho) ⟨hp, hl, ha, hn, hs, hx, hy⟩

theorem Held.of_clk (s : State) (x : Clock) : Held s { s with clk := x } := .of_rest rfl
theorem Held.of_sts (s : State) (x : Station) : Held s { s with sts := x } := .of_rest rfl
theorem Held.of_mtu (s : State) (x : Meter) : Held s { s with mtu := x } := .of_rest rfl
theorem Held.of_plu (s : State) (x : Planner) : Held s { s with plu := x } := .of_rest rfl
theorem Held.of_hcu (s : State) (x : Closer) : Held s { s with hcu := x } := .of_rest rfl
theorem Held.of_slk (s : State) (x : Link) : Held s { s with slk := x } := .of_rest rfl

/-! ### The books -/

theorem State.makePlanDue_tables (s : State) : TablesKept s s.makePlanDue := ⟨rfl, rfl, rfl, rfl, rfl, rfl, rfl⟩

theorem State.makeSnapshotDue_tables (s : State) : TablesKept s s.makeSnapshotDue :=
  ⟨rfl, rfl, rfl, rfl, rfl, rfl, rfl⟩

theorem State.makePlanDue_held (s : State) : Held s s.makePlanDue := .of_rest rfl

theorem State.makeSnapshotDue_held (s : State) : Held s s.makeSnapshotDue :=
  s.makeSnapshotDue_books.held s.makeSnapshotDue_tables

theorem State.setAccount_tables (s : State) (n : Nat) (a : Account) : TablesKept s (s.setAccount n a) :=
  ⟨rfl, rfl, setNth_length _ _ _, rfl, rfl, rfl, rfl⟩

theorem State.setPartition_tables (s : State) (n : Nat) (p : Partition) : TablesKept s (s.setPartition n p) :=
  ⟨rfl, rfl, rfl, setNth_length _ _ _, rfl, rfl, rfl⟩

theorem State.setAccount_held (s : State) (n : Nat) (a : Account) : Held s (s.setAccount n a) :=
  (s.setAccount_books n a).held (s.setAccount_tables n a)

theorem State.setPartition_held (s : State) (n : Nat) (p : Partition) : Held s (s.setPartition n p) :=
  (s.setPartition_books n p).held (s.setPartition_tables n p)

theorem State.raise_held (s : State) (k : AlertKind) (o : Nat) : Held s (s.raise k o) := (s.raise_reported k o).held

/-- A change of the account table that keeps the number of its records. -/
theorem Held.of_act (s : State) {a : Accounts} (h : a.accounts.length = s.act.accounts.length) :
    Held s { s with act := a } :=
  (BooksMoved.of_act s a).held ⟨rfl, rfl, h, rfl, rfl, rfl, rfl⟩

theorem State.checkWarning_held (s : State) (n before : Nat) : Held s (s.checkWarning n before) :=
  .ite ((s.setPartition_held n _).trans (State.raise_held _ _ _)) (.ite (s.setPartition_held n _) (.refl s))

theorem State.retireHours_held (s : State) (h : Nat) : Held s (s.retireHours h) :=
  .forEach (fun u n _ => (u.setPartition_held n _).trans (State.checkWarning_held _ n _)) s

theorem State.forgetShipper_held (s : State) (n : Nat) : Held s (s.forgetShipper n) := by
  unfold State.forgetShipper
  repeat' split
  · exact .of_rest rfl
  · exact .refl s
  · exact .refl s

theorem State.shipperAction_held (s : State) (n action : Nat) (r : Rights) : Held s (s.shipperAction n action r).1 := by
  refine Held.trans ?_ (State.makeSnapshotDue_held _)
  have hset := fun a => (s.setAccount_held n a).trans (State.makePlanDue_held _)
  refine .ite (hset _) (.ite ?setRights (.ite ?suspend (.ite ?reactivate ?close)))
  case setRights => exact .ite ((s.setAccount_held n _).trans (State.raise_held _ _ _)) (s.setAccount_held n _)
  case suspend => exact .ite (.refl s) (hset _)
  case reactivate => exact .ite (.refl s) (hset _)
  case close => exact ((s.setAccount_held n _).trans (State.forgetShipper_held _ n)).trans (State.makePlanDue_held _)

theorem State.loadInventory_held (s : State) (n inventory : Nat) : Held s (s.loadInventory n inventory) := by
  have h := (s.setAccount_held n { s.accountOf n with inventory := inventory }).trans (Held.of_act _
    (a := { (s.setAccount n { s.accountOf n with inventory := inventory }).act with
      station := s.act.station - ((inventory : Int) - ((s.accountOf n).inventory : Int)) }) rfl)
  exact Held.trans (.ite (h.trans (State.raise_held _ _ _)) h) (State.makeSnapshotDue_held _)

theorem State.applyNomination_held (s : State) (n : Nat) (e : NomEntry) : Held s (s.applyNomination n e) := by
  have h := (s.setPartition_held n { s.partition n with entries := s.editedList n e }).trans
    (State.checkWarning_held _ n (s.partition n).entries.length)
  exact Held.trans (.ite (h.trans (State.makePlanDue_held _)) h) (State.makeSnapshotDue_held _)

theorem controlAlerts_length (set clear pend i : Nat) (l : List AlertRecord) :
    (controlAlerts set clear pend i l).length = l.length := by
  induction l generalizing i with
  | nil => rfl
  | cons r l ih => simp [controlAlerts, ih]

theorem State.controlAlerts_held (s : State) (set clear pend : Nat) : Held s (s.controlAlerts set clear pend) := by
  have h : Held s { s with als := Machine.controlAlerts set clear pend 0 s.als } :=
    PlantKept.held (.of_eq rfl rfl rfl rfl) ⟨rfl, rfl, rfl, rfl, controlAlerts_length _ _ _ _ _, rfl, rfl⟩
  exact .ite h (h.trans (State.makeSnapshotDue_held _))

theorem postShipper_held (rs : List (Option ShipperResult)) (s : State) (n : Nat) : Held s (postShipper rs s n) := by
  unfold postShipper
  split
  · exact .ite ((s.setAccount_held n _).trans (State.raise_held _ _ _)) (s.setAccount_held n _)
  · exact .refl s

theorem State.completeClose_held (s : State) : Held s s.completeClose := by
  unfold State.completeClose
  split
  · exact .refl s
  · next f _ =>
    dsimp only
    refine Held.trans ?_ (State.makeSnapshotDue_held _)
    refine Held.trans ?_ (State.makePlanDue_held _)
    refine Held.trans ?_ (State.retireHours_held _ _)
    refine Held.trans ?_ (Held.of_hcu _ _)
    refine Held.trans ?_ (State.offerReport_reported _ _).held
    refine Held.trans ?_ (State.raiseClose_reported _ _).held
    refine Held.trans ?_ (Held.of_hcu _ _)
    refine Held.trans ?_
      (.forEach (fun u j _ => (postCavern_kept _ u j).held_of_moved (postCavern_moved _ u j).plant) _)
    exact (Held.forEach (fun u n _ => postShipper_held _ u n) s).trans (.of_act _ rfl)

theorem writeConfs_length (xs : List EvalShipper) (cs ns : List (Option Confirmation)) (as : List Account) :
    (writeConfs xs cs ns as).length = as.length := by
  induction xs generalizing cs ns as with
  | nil => rfl
  | cons x xs ih =>
    unfold writeConfs
    split
    · next heq =>
      cases heq
      simp [ih]
    · rfl

theorem State.completePlan_held (s : State) : Held s s.completePlan := by
  unfold State.completePlan
  split
  · exact .refl s
  · next e _ =>
    refine .ite ?_ (.of_plu s _)
    refine Held.trans ?_ ((State.planTaken_kept _).held_of_moved (State.planTaken_plant _))
    unfold State.applyPlan
    dsimp only
    refine Held.trans ?_ (Held.of_plu _ _)
    refine Held.trans ?_ (State.offerReport_reported _ _).held
    have h : ∀ p, Held s { s with
        act := { s.act with accounts := writeConfs e.shippers e.work.current e.work.next s.act.accounts }, plu := p } :=
      fun p => (BooksMoved.held ⟨rfl⟩ ⟨rfl, rfl, writeConfs_length _ _ _ _, rfl, rfl, rfl, rfl⟩)
    exact .ite ((h _).trans (State.raise_held _ _ _)) (h _)

/-! ### The snapshots -/

/-- A snapshot taken of a state of the right shape holds a record for every object. -/
theorem State.snapshot_shaped {s : State} (h : s.shaped = true) : s.snapshot.shaped = true := by
  obtain ⟨hp, ht⟩ := s.shaped_iff.mp h
  rw [Snapshot.shaped_iff]
  simp only [State.snapshot, List.length_map]
  exact ⟨ht.accounts, ht.partitions, hp.caverns, hp.units, hp.trains, ht.alerts⟩

/-- A change of the store that holds shaped snapshots where it held such. -/
theorem Held.of_sns (s : State) {x : Store}
    (h : s.shaped = true → (∀ c ∈ x.content, c.shaped = true) ∧ ∀ c ∈ x.copy, c.shaped = true) :
    Held s { s with sns := x } := by
  intro hs
  obtain ⟨hp, ht⟩ := s.shaped_iff.mp hs
  exact ⟨(State.shaped_iff _).mpr ⟨⟨hp.caverns, hp.units, hp.trains, hp.orders, hp.heating⟩, ht.points, ht.accounts,
    ht.partitions, ht.alerts, (h hs).1, (h hs).2⟩, fun hl => (State.pointLaw_iff _).mpr (s.pointLaw_iff.mp hl)⟩

theorem State.beginWrite_held (s : State) : Held s s.beginWrite :=
  .of_sns s (fun h => ⟨fun _ hc => (Option.not_mem_none _ hc).elim,
    fun _ hc => by cases hc; exact State.snapshot_shaped h⟩)

theorem State.completeWrite_held (s : State) (v : Bool) : Held s (s.completeWrite v) := by
  unfold State.completeWrite
  refine .ite (.ite ?_ ?_) (.refl s)
  · exact .of_sns s (fun h => ⟨(s.shaped_iff.mp h).2.copy, fun _ hc => (Option.not_mem_none _ hc).elim⟩)
  · exact Held.trans (.of_sns s (fun _ => ⟨fun _ hc => (Option.not_mem_none _ hc).elim,
      fun _ hc => (Option.not_mem_none _ hc).elim⟩)) (State.raise_held _ _ _)

end Sys2Proof.Machine
end

section
/-! What SMT does to the points (02 R20 to R25, R27 to R29): a grading, an arrival, the clearing of an object's points;
and the second event, the boundary and the accepted settings and clock. -/

open Sys2Proof Sys2Proof.Machine

namespace Sys2Proof.Machine

/-! ### A new sample table -/

/-- A change of the points and of what grades them keeps both laws where each point fits again. -/
theorem Held.of_points {s t : State} (hp : PlantSized s → PlantSized t)
    (ht : TablesSized s → TablesSized t)
    (hf : s.shaped = true → ∀ p k, pointKind p = some k →
      (s.point p).Fits (s.pointConfigured k) (limitOf s.cfg.limits k) →
      (t.point p).Fits (t.pointConfigured k) (limitOf t.cfg.limits k)) : Held s t := by
  intro hs
  obtain ⟨h1, h2⟩ := s.shaped_iff.mp hs
  exact ⟨t.shaped_iff.mpr ⟨hp h1, ht h2⟩, fun hl => t.pointLaw_iff.mpr (fun p k hk =>
    hf hs p k hk (s.pointLaw_iff.mp hl p k hk))⟩

/-- A sample table of as many records changes no other table. -/
theorem TablesSized.with_smt {s : State} {l : List Point} (h : TablesSized s) (hl : l.length = s.smt.length) :
    TablesSized { s with smt := l } := ⟨hl.trans h.points, h.accounts, h.partitions, h.alerts, h.content, h.copy⟩

theorem PlantSized.with_smt {s : State} (h : PlantSized s) (l : List Point) : PlantSized { s with smt := l } :=
  ⟨h.caverns, h.units, h.trains, h.orders, h.heating⟩

theorem gradePoints_length (f : PointKind → Point → Point) (p : Nat) (l : List Point) :
    (gradePoints f p l).length = l.length := by
  induction l generalizing p with
  | nil => rfl
  | cons x l ih => simp [gradePoints, ih]

/-! ### Deliveries (02 R22, R25, R29) -/

theorem State.deliverArrival_kept (s : State) {p : Nat} {k : PointKind} (hk : pointKind p = some k) (value : Nat) :
    PlantKept s (s.deliverArrival k value) := by
  cases k with
  | wellPressure j => exact State.pressureArrival_kept (wellPressure_point p (pointKind_lt hk) j hk).1 s value
  | runFeedback k => exact s.feedbackArrival_kept k value
  | _ => exact .refl s

theorem State.deliverQuality_kept (s : State) {p : Nat} {k : PointKind} (hk : pointKind p = some k) (q : Quality) :
    PlantKept s (s.deliverQuality k q) := by
  cases k with
  | meterRate => exact .ite (s.raise_kept _ _) (.refl s)
  | calorific => exact .ite (s.raise_kept _ _) (.refl s)
  | wellPressure j => exact State.pressureQuality_kept (wellPressure_point p (pointKind_lt hk) j hk).1 s q
  | runFeedback k => exact s.feedbackQuality_kept k q
  | _ => exact .refl s

theorem State.deliverArrival_held (s : State) {p : Nat} {k : PointKind} (hk : pointKind p = some k) (value : Nat) :
    Held s (s.deliverArrival k value) := (s.deliverArrival_kept hk value).held_of_moved (s.deliverArrival_plant k value)

theorem State.deliverQuality_held (s : State) {p : Nat} {k : PointKind} (hk : pointKind p = some k) (q : Quality) :
    Held s (s.deliverQuality k q) := (s.deliverQuality_kept hk q).held_of_moved (s.deliverQuality_plant k q)

theorem deliverChange_held (old : List Point) (s : State) (p : Nat) : Held s (deliverChange old s p) := by
  unfold deliverChange
  split
  · next k hk => exact .ite (.refl s) (s.deliverQuality_held hk _)
  · exact .refl s

/-! ### Gradings (02 R22, R24) -/

/-- A grading after a change of the limits keeps both laws where it maps a point that fits its old limit to one that
fits the new. -/
theorem State.gradeAll_held {s u : State} {f : PointKind → Point → Point} (hp : PlantSized s → PlantSized u)
    (ht : TablesSized s → TablesSized u) (hsmt : u.smt = s.smt) (hc : ∀ k, u.pointConfigured k = s.pointConfigured k)
    (hf : ∀ k x, x.Fits (s.pointConfigured k) (limitOf s.cfg.limits k) →
      (f k x).Fits (s.pointConfigured k) (limitOf u.cfg.limits k)) : Held s (u.gradeAll f) := by
  rw [State.gradeAll_eq]
  refine Held.trans (t := u.graded f) (.of_points (fun h => (hp h).with_smt _)
    (fun h => (ht h).with_smt (gradePoints_length f 0 u.smt)) (fun hs p k hk h => ?_))
    (.forEach (fun v p _ => deliverChange_held u.smt v p) _)
  have hlen : p < u.smt.length := by rw [hsmt, (s.shaped_iff.mp hs).2.points]; exact pointKind_lt hk
  rw [State.point_graded hlen hk, State.point_congr hsmt p]
  exact (hc k).symm ▸ hf k _ h

theorem State.agePoints_held (s : State) : Held s s.agePoints :=
  State.gradeAll_held id id rfl (fun _ => rfl) (fun _ _ h => h.aged)

/-- The regrade of a point of a class whose limits may differ. -/
theorem Point.Fits.regradeBy {x : Point} {b : Bool} {old new : ClassLimits} {k : PointKind}
    (h : x.Fits b (limitOf old k)) : (Machine.regradeBy new old k x).Fits b (limitOf new k) := by
  unfold Machine.regradeBy
  split
  · next e => exact e ▸ h
  · exact h.regrade _

theorem State.regraded_held (s : State) (f : Settings) : Held s (s.regraded f) :=
  State.gradeAll_held (fun h => ⟨h.caverns, h.units, h.trains, h.orders, h.heating⟩)
    (fun h => ⟨h.points, h.accounts, (List.length_map _).trans h.partitions, h.alerts, h.content, h.copy⟩) rfl
    (fun _ => rfl) (fun _ _ h => h.regradeBy)

/-! ### Arrivals (02 R27 to R29) -/

/-- A sample stored at a configured point is graded GOOD at age 0, and no other point moves. -/
theorem State.setPoint_held {s : State} {p : Nat} {k : PointKind} (hk : pointKind p = some k)
    (hc : s.pointConfigured k = true) (v : Nat) (c : Bool) : Held s (s.setPoint p ⟨v, 0, .good, c⟩) := by
  refine .of_points (fun h => h.with_smt _) (fun h => h.with_smt List.length_set) (fun hs q k' hk' h => ?_)
  by_cases hq : p = q
  · subst hq
    obtain rfl := Option.some.inj (hk.symm.trans hk')
    have hlen : p < s.smt.length := by rw [(s.shaped_iff.mp hs).2.points]; exact pointKind_lt hk
    have hx : (s.setPoint p ⟨v, 0, .good, c⟩).point p = ⟨v, 0, .good, c⟩ := by
      simp [State.point, State.setPoint, hlen]
    rw [hx]
    refine ⟨nofun, fun _ => ⟨hc, ?_⟩⟩
    show Quality.good = gradeOf _ 0
    simp [gradeOf]
  · have hx : (s.setPoint p ⟨v, 0, .good, c⟩).point q = s.point q := by
      simp [State.point, State.setPoint, List.getD_eq_getElem?_getD, List.getElem?_set_ne hq]
    rw [hx]
    exact h

theorem State.storeSample_held {s : State} {p : Nat} {k : PointKind} (hk : pointKind p = some k)
    (hc : s.pointConfigured k = true) (v : Nat) (c : Bool) : Held s (s.storeSample p k v c) := by
  have h := (State.setPoint_held hk hc v c).trans (State.deliverArrival_held _ hk v)
  exact .ite h (h.trans (State.deliverQuality_held _ hk _))

theorem State.takePair_held (s : State) (p v : Nat) : Held s (s.takePair p v).1 := by
  unfold State.takePair
  split
  · exact .refl s
  · next k hk =>
    split
    · next hc =>
      split
      · exact State.storeSample_held hk hc _ _
      · exact .refl s
    · exact .refl s

theorem State.takePairs_held (ps : List (Nat × Nat)) (s : State) : Held s (s.takePairs ps).1 := by
  induction ps generalizing s with
  | nil => exact .refl s
  | cons q ps ih => exact (s.takePair_held q.1 q.2).trans (ih _)

/-! ### Points of an object that is deconfigured (02 R20) -/

theorem foldl_set_length (ps : List Nat) (l : List Point) :
    (ps.foldl (fun l p => l.set p Point.never) l).length = l.length := by
  induction ps generalizing l with
  | nil => rfl
  | cons p ps ih => exact (ih _).trans List.length_set

theorem getD_set_never (l : List Point) (p q : Nat) :
    (l.set p Point.never).getD q Point.never = if p = q then Point.never else l.getD q Point.never := by
  simp only [List.getD_eq_getElem?_getD, List.getElem?_set]
  by_cases h : p = q
  · simp only [h, if_true]
    split <;> rfl
  · simp only [h, if_false]

/-- A cleared point is the NEVER record, and any other stands. -/
theorem State.point_clearPoints (s : State) (ps : List Nat) (q : Nat) :
    (s.clearPoints ps).point q = if q ∈ ps then Point.never else s.point q := by
  induction ps generalizing s with
  | nil => simp [State.clearPoints]
  | cons p ps ih =>
    have hset : (s.setPoint p Point.never).point q = if p = q then Point.never else s.point q := getD_set_never _ _ _
    refine (ih (s.setPoint p Point.never)).trans ?_
    simp only [hset, List.mem_cons]
    by_cases h1 : q ∈ ps
    · simp [h1]
    · by_cases h2 : p = q
      · simp [h2]
      · simp [h1, h2, Ne.symm h2]

/-- The clearing of the points that lose their object keeps both laws. -/
theorem Held.of_cleared {s u : State} {ps : List Nat} (hp : PlantSized s → PlantSized u) (ht : TablesKept s u)
    (hc : ∀ p k, pointKind p = some k → p ∉ ps → u.pointConfigured k = s.pointConfigured k) :
    Held s (u.clearPoints ps) := by
  rw [State.clearPoints_eq]
  refine .of_points (fun h => (hp h).with_smt _) (fun h => (ht.sized h).with_smt (foldl_set_length ps u.smt))
    (fun _ p k hk h => ?_)
  rw [← State.clearPoints_eq, State.point_clearPoints]
  split
  · exact Point.fits_never _ _
  · next hn =>
    rw [State.point_congr ht.points p]
    show (s.point p).Fits ((u.clearPoints ps).pointConfigured k) (limitOf (u.clearPoints ps).cfg.limits k)
    rw [State.clearPoints_eq]
    show (s.point p).Fits (u.pointConfigured k) (limitOf u.cfg.limits k)
    rw [hc p k hk hn, ht.limits]
    exact h

end Sys2Proof.Machine
end

section
/-! Every step keeps both laws: the second event, the boundary, reset and release, and the answers to requests
(00_scope.md 1.1; 02 R23). -/

open Sys2Proof Sys2Proof.Machine

namespace Sys2Proof.Machine

/-! ### Time -/

theorem State.gasDayRollover_held (s : State) : Held s s.gasDayRollover :=
  s.gasDayRollover_kept.held_of_moved s.gasDayRollover_plant

theorem State.plantSecond_held (s : State) : Held s s.plantSecond := by
  refine .of_sized fun hs => PlantKept.held_of_moved ?_ s.plantSecond_plant
  have hc : PlantKept s (s.forEach cavernNumbers State.cavernSecond) :=
    .forEach (fun u j _ => u.cavernSecond_kept j) s
  have hu := hc.trans
    (PlantKept.forEach (ns := unitNumbers) (f := State.unitSecond) (fun u k _ => u.modUnit_kept k _) _)
  exact hu.then hs (fun h => State.dryerSecond_kept h)

theorem State.second_held (s : State) : Held s s.second := by
  rw [State.second_eq]
  obtain ⟨m, hm⟩ := s.clockSecond.meterSecond_eq
  have hmeter : Held s s.clockSecond.meterSecond := hm ▸ (Held.of_clk s _).trans (.of_mtu _ m)
  have hstatus : ∀ u : State, Held u u.statusSecond := fun u => u.statusSecond_eq ▸ .of_slk u _
  exact ((hmeter.trans (State.plantSecond_held _)).trans (hstatus _)).trans (State.agePoints_held _)

theorem State.testRequirement_held (s : State) : Held s s.testRequirement := by
  unfold State.testRequirement
  dsimp only
  repeat' split
  · exact .refl s
  · exact .refl s
  · exact .of_rest rfl

theorem stepMinute_held (s : State) : Held s (stepMinute s) := by
  unfold stepMinute
  split
  · exact (Held.of_clk s _).trans (((State.cavernMinute_kept _).held_of_moved (State.cavernMinute_moved _).plant).trans
      (State.testRequirement_held _))
  · exact .refl s

theorem State.handHour_held (s : State) : Held s s.handHour := by
  unfold State.handHour
  split
  · exact .refl s
  · exact ((Held.of_hcu s _).trans (.of_mtu _ _)).trans
      ((State.zeroVolumes_kept _).held_of_moved (State.zeroVolumes_moved _).plant)

theorem stepBoundary_held (s : State) : Held s (stepBoundary s) := by
  unfold stepBoundary
  split
  · have h := (Held.of_clk s { s.clk with boundaryDue := false, trimSum := 0 }).trans (State.handHour_held _)
    exact .ite (h.trans (State.gasDayRollover_held _)) h
  · exact .refl s

theorem stepStatus_held (s : State) : Held s (stepStatus s) := by
  unfold stepStatus
  split
  · exact (s.offerReport_reported _).held.trans (.of_slk _ _)
  · exact .refl s

theorem stepCloseBegin_held (s : State) : Held s (stepCloseBegin s) := by
  unfold stepCloseBegin
  repeat' split
  · exact .of_hcu s _
  · exact .refl s
  · exact .refl s

theorem State.acceptClock_held (s : State) (d t : Nat) : Held s (s.acceptClock d t) := by
  have h := ((Held.of_clk s { s.clk with valid := true, gasDay := d, second := t, trimSum := 0 }).trans
    (State.retireHours_held _ (hourPred (hourOf d t)))).trans
    ((State.makePlanDue_held _).trans (State.makeSnapshotDue_held _))
  exact .ite h (h.trans (State.gasDayRollover_held _))

/-! ### The station -/

theorem State.tripAsserted_held (s : State) : Held s s.tripAsserted := by
  obtain ⟨st, h⟩ := s.tripAsserted_plant
  exact .of_sized fun hs => (State.tripAsserted_kept hs).held_of_station h

theorem State.leaveBlank_held (s : State) : Held s s.leaveBlank := by
  obtain ⟨st, h⟩ := s.leaveBlank_plant
  exact .of_sized fun hs => (State.leaveBlank_kept hs).held_of_station h

theorem State.command_held (s : State) (action : Nat) : Held s (s.command action) := by
  obtain ⟨st, h⟩ := s.command_plant action
  exact .of_sized fun hs => (State.command_kept hs action).held_of_station h

theorem State.acceptSettings_held (s : State) (f : Settings) : Held s (s.acceptSettings f) :=
  ((s.regraded_held f).trans (State.leaveBlank_held _)).trans (State.makeSnapshotDue_held _)

/-! ### Reset and release (01 R17, R18) -/

/-- A state of the right shape whose points are all NEVER. -/
structure Fresh (s : State) : Prop where
  shaped : s.shaped = true
  points : ∀ p, s.point p = Point.never

theorem Fresh.laws {s : State} (h : Fresh s) : s.shaped = true ∧ s.pointLaw = true :=
  ⟨h.shaped, s.pointLaw_iff.mpr (fun p k _ => by rw [h.points p]; exact Point.fits_never _ _)⟩

theorem Held.laws {s t : State} (h : Held s t) (hs : s.shaped = true ∧ s.pointLaw = true) :
    t.shaped = true ∧ t.pointLaw = true := ⟨(h hs.1).1, (h hs.1).2 hs.2⟩

/-- The store read at a release holds a shaped content or none. -/
theorem Store.read_shaped {x : Store} (h : ∀ c ∈ x.content, c.shaped = true) (crc : Bool) :
    (∀ c ∈ (x.read crc).content, c.shaped = true) ∧ ∀ c ∈ (x.read crc).copy, c.shaped = true := by
  have none_holds : ∀ c ∈ (none : Option Snapshot), c.shaped = true := fun _ hc => (Option.not_mem_none _ hc).elim
  unfold Store.read
  repeat' split
  · exact ⟨none_holds, none_holds⟩
  · exact ⟨h, none_holds⟩
  · exact ⟨none_holds, none_holds⟩
  · exact ⟨none_holds, none_holds⟩
  · exact ⟨none_holds, none_holds⟩

theorem PlantSized.reset : PlantSized State.reset := (State.shaped_iff _).mp (by decide) |>.1

theorem TablesSized.reset : TablesSized State.reset := (State.shaped_iff _).mp (by decide) |>.2

/-- The reset state with another clock of its station, link, store and queue of commands. -/
theorem fresh_of_reset {x : Store} (hx : (∀ c ∈ x.content, c.shaped = true) ∧ ∀ c ∈ x.copy, c.shaped = true)
    (st : Station) (l : Link) (q : List Instr) :
    Fresh { State.reset with sts := st, slk := l, sns := x, pending := q } where
  shaped :=
    have hp := PlantSized.reset
    have ht := TablesSized.reset
    (State.shaped_iff _).mpr ⟨⟨hp.caverns, hp.units, hp.trains, hp.orders, hp.heating⟩,
      ht.points, ht.accounts, ht.partitions, ht.alerts, hx.1, hx.2⟩
  points := point_reset

/-- A snapshot of the right shape, restored in a fresh state, leaves a fresh state. -/
theorem Fresh.restored {s : State} (h : Fresh s) {c : Snapshot} (hc : c.shaped = true) : Fresh (restored s c) where
  shaped := by
    obtain ⟨hp, ht⟩ := s.shaped_iff.mp h.shaped
    obtain ⟨ha, hn, hj, hk, hr, hl⟩ := c.shaped_iff.mp hc
    exact (State.shaped_iff _).mpr
      ⟨⟨(List.length_map _).trans hj, (List.length_map _).trans hk, (List.length_map _).trans hr, hp.orders,
        hp.heating⟩,
       ht.points, ha, (List.length_map _).trans hn, (List.length_map _).trans hl, ht.content, ht.copy⟩
  points := h.points

theorem State.assertReset_laws {s : State} (h : s.shaped = true) :
    s.assertReset.shaped = true ∧ s.assertReset.pointLaw = true :=
  (fresh_of_reset (Store.read_shaped (s.shaped_iff.mp h).2.content true) _ _ _).laws

theorem State.release_laws {s : State} (h : s.shaped = true) (crc trip b1 b0 : Bool) :
    (s.release crc trip b1 b0).shaped = true ∧ (s.release crc trip b1 b0).pointLaw = true := by
  have hread := Store.read_shaped (s.shaped_iff.mp h).2.content crc
  have h0 : Fresh { s.released trip b1 b0 with sns := s.sns.read crc } := fresh_of_reset hread _ _ _
  unfold State.release
  dsimp only
  split
  · next c _ hc =>
    have h1 := (h0.restored (hread.1 c hc)).laws
    have hserve : ∀ u : State, Held u u.serveHeater := fun u =>
      .of_sized fun hs => (State.serveHeater_kept hs).held_of_moved u.serveHeater_moved.plant
    refine (hserve _).laws ?_
    split
    · exact (Held.of_sized fun hs => (State.tripEntry_kept hs).held_of_station (State.tripEntry_plant _)).laws h1
    · exact h1
  · repeat' split
    · exact ((State.raise_held _ _ _).trans (State.raise_held _ _ _)).laws h0.laws
    · exact (State.raise_held _ _ _).laws h0.laws
    · exact (State.raise_held _ _ _).laws h0.laws
    · exact h0.laws

end Sys2Proof.Machine
end

section
/-! The answers to requests, and with them every step, keep the shape of the tables and the grades of the points (02 R20
to R32, 07 R102, 08 R125, 09 R144, 11 R176, R178). -/

open Sys2Proof Sys2Proof.Machine

namespace Sys2Proof.Machine

/-! ### The requests that configure (07 R103, 08 R126, 09 R145) -/

/-- What follows a configuration keeps both laws where every object stays configured. -/
theorem State.pointConfigured_mono {s t : State}
    (hc : ∀ j, (s.cavern j).isSome = true → (t.cavern j).isSome = true)
    (hu : ∀ k, (s.unit k).isSome = true → (t.unit k).isSome = true)
    (ht : ∀ n, (s.train n).isSome = true → (t.train n).isSome = true) (k : PointKind)
    (h : s.pointConfigured k = true) : t.pointConfigured k = true := by
  cases k with
  | wellFlow j => exact hc j h
  | wellPressure j => exact hc j h
  | valvePosition j => exact hc j h
  | runFeedback k => exact hu k h
  | trainFlow t => exact ht t h
  | inletWater t => exact ht t h
  | outletWater t => exact ht t h
  | _ => rfl

/-- An entry written in a list of records is there, and any other stands. -/
theorem isSome_setNth_some {α : Type} (l : List (Option α)) (n m : Nat) (x : α)
    (h : (nth l m).join.isSome = true) : (nth (setNth l n (some x)) m).join.isSome = true := by
  obtain ⟨y, hy⟩ := Option.isSome_iff_exists.mp h
  by_cases hm : m = n
  · subst hm
    rw [nth_setNth_self (some x) (Option.join_eq_some_iff.mp hy)]
    rfl
  · rw [nth_setNth_of_ne _ _ hm]
    exact h

theorem State.setCavern_held (s : State) (j : Nat) (c : Cavern) : Held s (s.setCavern j (some c)) :=
  .of_tables (fun h => ⟨(setNth_length _ _ _).trans h.caverns, h.units, h.trains, h.orders, h.heating⟩)
    ⟨rfl, rfl, rfl, rfl, rfl, rfl, rfl⟩
    (State.pointConfigured_mono (fun i hi => isSome_setNth_some s.cvc j i c hi) (fun _ => id) (fun _ => id))

theorem State.setUnit_held (s : State) (k : Nat) (u : Compressor) : Held s (s.setUnit k (some u)) :=
  .of_tables (fun h => ⟨h.caverns, (setNth_length _ _ _).trans h.units, h.trains, h.orders, h.heating⟩)
    ⟨rfl, rfl, rfl, rfl, rfl, rfl, rfl⟩
    (State.pointConfigured_mono (fun _ => id) (fun i hi => isSome_setNth_some s.cdu.units k i u hi) (fun _ => id))

theorem State.setTrain_held (s : State) (t : Nat) (r : Train) : Held s (s.setTrain t (some r)) :=
  .of_tables (fun h => ⟨h.caverns, h.units, (setNth_length _ _ _).trans h.trains, h.orders, h.heating⟩)
    ⟨rfl, rfl, rfl, rfl, rfl, rfl, rfl⟩
    (State.pointConfigured_mono (fun _ => id) (fun _ => id) (fun i hi => isSome_setNth_some s.drc.trains t i r hi))

theorem State.cavernsChanged_held (s : State) : Held s s.cavernsChanged :=
  s.cavernsChanged_kept.held_of_moved s.cavernsChanged_moved.plant

theorem State.applyCavern_held (s : State) (j : Nat) (f : CavernConfig) (ia : Nat) (v : Int) :
    Held s (s.applyCavern j f ia v) := by
  unfold State.applyCavern
  dsimp only
  split
  · refine Held.trans ?_ (State.cavernsChanged_held _)
    exact (s.setCavern_held j _).trans (.of_act _ rfl)
  · exact (s.setCavern_held j _).trans (State.cavernsChanged_held _)

/-- The number of the point of a kind (02 R19), the inverse of `pointKind`. -/
def PointKind.number : PointKind → Nat
  | .meterRate => 0
  | .meterDirection => 1
  | .calorific => 2
  | .fuelRate => 3
  | .gridPressure => 4
  | .wellFlow j => flowPoint j
  | .wellPressure j => pressurePoint j
  | .valvePosition j => valvePoint j
  | .runFeedback k => feedbackPoint k
  | .trainFlow t => trainFlowPoint t
  | .inletWater t => inletPoint t
  | .outletWater t => outletPoint t

theorem pointKind_number {p : Nat} {k : PointKind} (h : pointKind p = some k) : p = k.number := by
  have all : ∀ p < 41, (pointKind p).all (fun k => p == k.number) = true := by decide
  have hp := all p (pointKind_lt h)
  rw [h] at hp
  exact eq_of_beq hp

theorem State.dropCavern_held (s : State) (j : Nat) : Held s (s.dropCavern j) := by
  have hset : ∀ i, i ≠ j → (s.setCavern j none).cavern i = s.cavern i := fun i hi =>
    congrArg Option.join (nth_setNth_of_ne s.cvc none hi)
  unfold State.dropCavern
  refine Held.trans ?_ (State.cavernsChanged_held _)
  refine .of_cleared (fun h => ⟨(setNth_length _ _ _).trans h.caverns, h.units, h.trains, h.orders, h.heating⟩)
    ⟨rfl, rfl, rfl, rfl, rfl, rfl, rfl⟩ (fun p k hk hn => ?_)
  obtain rfl := pointKind_number hk
  have away : ∀ i, k.number ∉ [flowPoint j, pressurePoint j, valvePoint j] →
      (k = .wellFlow i ∨ k = .wellPressure i ∨ k = .valvePosition i) →
      ((s.setCavern j none).cavern i).isSome = (s.cavern i).isSome := by
    intro i hn h
    rw [hset i]
    rintro rfl
    obtain rfl | rfl | rfl := h <;> simp [PointKind.number] at hn
  cases k with
  | wellFlow i => exact away i hn (.inl rfl)
  | wellPressure i => exact away i hn (.inr (.inl rfl))
  | valvePosition i => exact away i hn (.inr (.inr rfl))
  | _ => rfl

theorem State.cavernAction_held (s : State) (j action : Nat) (f : CavernConfig) (ia : Nat) (v : Int) :
    Held s (s.cavernAction j action f ia v).1 := by
  unfold State.cavernAction
  split
  · exact (s.applyCavern_held j f ia v).trans (State.makeSnapshotDue_held _)
  · exact (s.dropCavern_held j).trans (State.makeSnapshotDue_held _)

theorem State.dropUnit_held (s : State) (k : Nat) : Held s (s.dropUnit k) := by
  refine .of_cleared
    (fun h => ⟨h.caverns, (setNth_length _ _ _).trans h.units, h.trains, h.orders, h.heating⟩)
    ⟨rfl, rfl, rfl, rfl, rfl, rfl, rfl⟩ (fun p q hq hn => ?_)
  obtain rfl := pointKind_number hq
  cases q with
  | runFeedback i =>
    have hi : i ≠ k := by
      rintro rfl
      simp [PointKind.number] at hn
    exact congrArg (fun o => (Option.join o).isSome) (nth_setNth_of_ne s.cdu.units none hi)
  | _ => rfl

theorem State.unitAction_held (s : State) (k action : Nat) (f : UnitFields) : Held s (s.unitAction k action f).1 := by
  unfold State.unitAction
  split
  · exact (s.setUnit_held k _).trans (State.makeSnapshotDue_held _)
  · exact (s.dropUnit_held k).trans (State.makeSnapshotDue_held _)

theorem State.applyTrain_held (s : State) (t : Nat) (f : TrainFields) : Held s (s.applyTrain t f) := by
  have hform : ∀ r, Held s ((s.setTrain t (some r)).formTrain t) := fun r =>
    (s.setTrain_held t r).trans ((State.formTrain_kept _ t).held_of_moved (State.formTrain_moved _ t).plant)
  exact (hform _).trans (.of_sized fun hs =>
    (State.switchTest_kept hs t).held_of_moved (State.switchTest_moved _ t).plant)

theorem State.dropTrain_held (s : State) {t : Nat} (ht : t ∈ trainNumbers) : Held s (s.dropTrain t) := by
  have hset : ∀ i, i ≠ t → (s.setTrain t none).train i = s.train i := fun i hi =>
    congrArg Option.join (nth_setNth_of_ne s.drc.trains none hi)
  have hclear : Held s ((s.setTrain t none).clearPoints [trainFlowPoint t, inletPoint t, outletPoint t]) := by
    refine .of_cleared
      (fun h => ⟨h.caverns, h.units, (setNth_length _ _ _).trans h.trains, h.orders, h.heating⟩)
      ⟨rfl, rfl, rfl, rfl, rfl, rfl, rfl⟩ (fun p k hk hn => ?_)
    obtain rfl := pointKind_number hk
    have away : ∀ i, k.number ∉ [trainFlowPoint t, inletPoint t, outletPoint t] →
        (k = .trainFlow i ∨ k = .inletWater i ∨ k = .outletWater i) →
        ((s.setTrain t none).train i).isSome = (s.train i).isSome := by
      intro i hn h
      rw [hset i]
      rintro rfl
      obtain rfl | rfl | rfl := h <;> simp [PointKind.number] at hn
    cases k with
    | trainFlow i => exact away i hn (.inl rfl)
    | inletWater i => exact away i hn (.inr (.inl rfl))
    | outletWater i => exact away i hn (.inr (.inr rfl))
    | _ => rfl
  have hwrite : ∀ u : State, Held u ((u.writeTrainBed t .a).writeTrainStep t .none) := fun u =>
    ((State.writeTrainBed_kept ht u .a).held_of_moved (u.writeTrainBed_ordered t .a).plant).trans
      ((State.writeTrainStep_kept ht _ .none).held_of_moved (State.writeTrainStep_ordered _ t .none).plant)
  exact hclear.trans (hwrite _)

/-- A CONFIGURE TRAIN that no check refuses names a train. -/
theorem State.trainRefusal_number {s : State} {t action : Nat} {f : TrainFields}
    (h : s.trainRefusal t action f = none) : t ∈ trainNumbers := by
  have hn : noTrain t = false := firstFailure_eq_none.mp h (noTrain t, .noSuch) (by simp)
  simp only [noTrain, Bool.or_eq_false_iff, beq_eq_false_iff_ne, decide_eq_false_iff_not] at hn
  have : t = 1 ∨ t = 2 := by omega
  obtain rfl | rfl := this <;> decide

theorem State.trainAction_held {s : State} {t action : Nat} {f : TrainFields} (h : s.trainRefusal t action f = none) :
    Held s (s.trainAction t action f).1 := by
  unfold State.trainAction
  split
  · exact (s.applyTrain_held t f).trans (State.makeSnapshotDue_held _)
  · exact (s.dropTrain_held (State.trainRefusal_number h)).trans (State.makeSnapshotDue_held _)

/-! ### The mode requests (07 R115, 08 R141, 09 R155) -/

theorem State.cavernModeAction_held (s : State) (j action : Nat) : Held s (s.cavernModeAction j action) := by
  refine Held.trans ?_ (State.makeSnapshotDue_held _)
  exact .ite ((s.cavernInService_kept j).held_of_moved (s.cavernInService_moved j).plant)
    (.ite (.of_sized fun hs => (State.cavernOutOfService_kept hs j).held_of_moved (s.cavernOutOfService_moved j).plant)
      ((s.abandonSettle_kept j).held_of_moved (s.abandonSettle_moved j).plant))

theorem State.unitModeAction_held (s : State) (k action : Nat) : Held s (s.unitModeAction k action) := by
  refine Held.trans ?_ (State.makeSnapshotDue_held _)
  exact .ite ((s.unitAvailable_kept k).held_of_moved (s.unitAvailable_moved k).plant)
    (.ite ((s.unitUnavailable_kept k).held_of_moved (s.unitUnavailable_moved k).plant)
      ((s.unitRelease_kept k).held_of_moved (s.unitRelease_moved k).plant))

theorem State.trainModeAction_held (s : State) (t action : Nat) : Held s (s.trainModeAction t action) := by
  refine Held.trans ?_ (State.makeSnapshotDue_held _)
  exact .of_sized fun hs => .ite ((State.trainInService_kept hs t).held_of_moved (s.trainInService_moved t).plant)
    (.ite ((State.trainOutOfService_kept hs t).held_of_moved (s.trainOutOfService_moved t).plant)
      ((State.trainSwitch_kept hs t).held_of_moved (s.trainSwitch_moved t).plant))

/-! ### The answers -/

theorem State.clearLink_held (s : State) : Held s s.clearLink :=
  State.clearLink_keeps (P := Held s) (fun u _ hu => hu.trans (.of_slk u _))
    (fun _ i e hu hi => hu.trans (PlantKept.held
      (.of_ori (i := i) (e := { e with unsent := true }) rfl rfl rfl rfl
        (fun hs => PlantSized.shape_order (e := e) hs hi))
      ⟨rfl, rfl, rfl, rfl, rfl, rfl, rfl⟩))
    (.refl s)

theorem State.answer_held (b : ReqBody) (s : State) : Held s (s.answer b).state := by
  have by_checks {refusal : Option Result} {effect : State × Result} {items : State → List Item}
      (he : refusal = none → Held s effect.1) : Held s (answerBy s refusal effect items).state :=
    answerBy_keeps (P := fun u => Held s u) (Held.refl s) he
  cases b <;> simp only [State.answer]
  case setClock d t =>
    unfold State.setClock
    split
    · exact by_checks (fun _ => .of_clk s _)
    · exact by_checks (fun _ => s.acceptClock_held d t)
  case stationCommand a => exact by_checks (fun _ => s.command_held a)
  case configureStation f => exact by_checks (fun _ => s.acceptSettings_held f)
  case sample ps =>
    split
    · exact s.takePairs_held ps
    · exact .refl s
  case pointQuery f c => unfold State.pointQuery; split <;> exact .refl s
  case configureShipper n a r => exact by_checks (fun _ => s.shipperAction_held n a r)
  case loadBalance n x => exact by_checks (fun _ => s.loadInventory_held n x)
  case transfer a b x y =>
    unfold State.requestTransfer
    dsimp only
    split
    · exact .refl s
    · exact .of_act s rfl
  case accountQuery n c =>
    unfold State.accountQuery
    repeat' split
    · exact .refl s
    · exact .refl s
    · exact s.setAccount_held n _
    · exact .refl s
  case nominate n f sp d q =>
    unfold State.nominate
    dsimp only
    repeat' split
    · exact .refl s
    · exact .refl s
    · exact s.applyNomination_held n _
  case nominationQuery n f => unfold State.nominationQuery; split <;> exact .refl s
  case configureCavern j a f ia v => exact by_checks (fun _ => s.cavernAction_held j a f ia v)
  case cavernMode j a =>
    unfold State.cavernMode
    dsimp only
    split
    · exact .refl s
    · exact s.cavernModeAction_held j a
  case configureUnit k a f => exact by_checks (fun _ => s.unitAction_held k a f)
  case unitMode k a =>
    unfold State.unitMode
    dsimp only
    split
    · exact .refl s
    · exact s.unitModeAction_held k a
  case configureTrain t a f => exact by_checks (fun hr => State.trainAction_held hr)
  case trainMode t a => exact by_checks (fun _ => s.trainModeAction_held t a)
  case orderQuery f c => unfold State.orderQuery; split <;> exact .refl s
  case alertControl a b c => exact by_checks (fun _ => s.controlAlerts_held a b c)
  case linkReset => exact s.clearLink_held
  all_goals exact .refl s

/-! ### Every step -/

/-- A property that follows from the shape, that held operations keep and that every reset state has is a law of every
step. -/
theorem stepLaw_of_held {P : State → Prop} (hP : ∀ {s t}, Held s t → P s → P t) (hshape : ∀ {s}, P s → s.shaped = true)
    (hreset : ∀ {s : State}, s.shaped = true ∧ s.pointLaw = true → P s) : StepLaw P where
  link s l := hP (.of_slk s l)
  resend s := hP (s.resendUnsent_kept.held_of_moved s.resendUnsent_ordered.plant)
  settleExpiry j s := hP ((stepSettleExpiry_kept j s).held_of_moved (stepSettleExpiry_moved j s).plant)
  valveFault j s := hP (.of_sized fun hs => (stepValveFault_kept j hs).held_of_moved (stepValveFault_moved j s).plant)
  timeoutExpiry k s := hP ((stepTimeoutExpiry_kept k s).held_of_moved (stepTimeoutExpiry_moved k s).plant)
  minRunExpiry k s := hP ((stepMinRunExpiry_kept k s).held_of_moved (stepMinRunExpiry_moved k s).plant)
  minStopExpiry k s := hP ((stepMinStopExpiry_kept k s).held_of_moved (stepMinStopExpiry_moved k s).plant)
  startListDrop k s := hP ((stepStartListDrop_kept k s).held_of_moved (stepStartListDrop_moved k s).plant)
  heatingExpiry s :=
    hP (.of_sized fun hs => (stepHeatingExpiry_kept hs).held_of_moved (stepHeatingExpiry_moved s).plant)
  coolingExpiry t s :=
    hP (.of_sized fun hs => (stepCoolingExpiry_kept hs t).held_of_moved (stepCoolingExpiry_moved t s).plant)
  offspecEntry t s :=
    hP (.of_sized fun hs => (stepOffspecEntry_kept hs t).held_of_moved (stepOffspecEntry_moved t s).plant)
  offspecRecovery t s :=
    hP (.of_sized fun hs => (stepOffspecRecovery_kept hs t).held_of_moved (stepOffspecRecovery_moved t s).plant)
  minute s := hP (stepMinute_held s)
  boundary s := hP (stepBoundary_held s)
  status s := hP (stepStatus_held s)
  closeBegin s := hP (stepCloseBegin_held s)
  planBegin s := hP (.ite (.of_plu s _) (.refl s))
  snapshotBegin s := hP (.ite s.beginWrite_held (.refl s))
  completeClose s := hP s.completeClose_held
  completePlan s := hP s.completePlan_held
  completeWrite v s := hP (s.completeWrite_held v)
  second s := hP s.second_held
  assertReset _ h := hreset (State.assertReset_laws (hshape h))
  release crc trip b1 b0 _ h := hreset (State.release_laws (hshape h) crc trip b1 b0)
  tripPin s h _ := hP ((Held.of_sts s _).trans (State.tripAsserted_held _)) h
  tripRelease s := hP (.of_sts s _)
  answer b s := hP (s.answer_held b)

/-- Settles O4: each operation keeps the lengths of the tables and the kinds of the orders. -/
theorem stepKeepsShape : Obligations.StepKeepsShape := fun _ _ hs ht =>
  (stepLaw_of_held (P := fun s => s.shaped = true) (fun h hs => (h hs).1) id And.left).step (fun _ _ h => h) hs ht

/-- Settles O9: a point moves by an arrival, by a grading, or with its object; each leaves it the grade of its age. -/
theorem stepKeepsPointGrades : Obligations.StepKeepsPointGrades := fun _ _ hs hl ht =>
  ((stepLaw_of_held (P := fun s => s.shaped = true ∧ s.pointLaw = true) Held.laws And.left id).step
    (fun _ _ h => h) ⟨hs, hl⟩ ht).2

end Sys2Proof.Machine
end

section
/-! SAMPLE (02 R26 to R30): the pairs of a request one after another, what each stores and its line of the reply. -/

open Sys2Proof Sys2Proof.Machine

namespace Sys2Proof.Machine

/-! ### What arrivals may move -/

/-- `t` differs from `s` at most in the points and in what CVC and CDU do with arrivals, and has the same objects. -/
structure Sampled (s t : State) : Prop where
  rest : { t with smt := s.smt, plu := { t.plu with due := s.plu.due }, cvc := s.cvc, ori := s.ori, als := s.als
                  cdu := { t.cdu with units := s.cdu.units }, slk := { t.slk with tx := s.slk.tx } } = s
  sent : Sent s t
  configured : ∀ k, t.pointConfigured k = s.pointConfigured k

theorem Sampled.refl (s : State) : Sampled s s := ⟨rfl, .refl s, fun _ => rfl⟩

theorem Sampled.trans {s t u : State} (h1 : Sampled s t) (h2 : Sampled t u) : Sampled s u :=
  ⟨(congrArg (fun x : State => { x with smt := s.smt, plu := { x.plu with due := s.plu.due }, cvc := s.cvc, ori := s.ori
                                        als := s.als, cdu := { x.cdu with units := s.cdu.units }
                                        slk := { x.slk with tx := s.slk.tx } }) h2.rest).trans h1.rest,
   h1.sent.trans h2.sent, fun k => (h2.configured k).trans (h1.configured k)⟩

theorem CavernsMoved.sampled {s t : State} (h : CavernsMoved s t) (hk : PlantKept s t) : Sampled s t :=
  ⟨(congrArg (fun x : State => { x with smt := s.smt, cdu := { x.cdu with units := s.cdu.units } }) h.rest).trans rfl,
   h.sent, hk.configured⟩

theorem UnitsMoved.sampled {s t : State} (h : UnitsMoved s t) (hk : PlantKept s t) : Sampled s t :=
  ⟨(congrArg (fun x : State => { x with smt := s.smt, cvc := s.cvc }) h.rest).trans rfl, h.sent, hk.configured⟩

theorem Reported.sampled {s t : State} (h : Reported s t) : Sampled s t := h.caverns.sampled h.plantKept

theorem State.deliverArrival_sampled (s : State) {p : Nat} {k : PointKind} (hk : pointKind p = some k) (value : Nat) :
    Sampled s (s.deliverArrival k value) := by
  have hkept := s.deliverArrival_kept hk value
  cases k with
  | wellPressure j => exact (s.pressureArrival_moved j value).sampled hkept
  | runFeedback k => exact (s.feedbackArrival_moved k value).sampled hkept
  | _ => exact .refl s

theorem State.deliverQuality_sampled (s : State) {p : Nat} {k : PointKind} (hk : pointKind p = some k) (q : Quality) :
    Sampled s (s.deliverQuality k q) := by
  have hkept := s.deliverQuality_kept hk q
  have hraise : ∀ a, Sampled s (if q = .stale then s.raise a 0 else s) := fun a => by
    split
    · exact (s.raise_reported a 0).sampled
    · exact .refl s
  cases k with
  | meterRate => exact hraise .meterStale
  | calorific => exact hraise .cvStale
  | wellPressure j => exact (s.pressureQuality_moved j q).sampled hkept
  | runFeedback k => exact (s.feedbackQuality_moved k q).sampled hkept
  | _ => exact .refl s

theorem State.storeSample_sampled (s : State) {p : Nat} {k : PointKind} (hk : pointKind p = some k) (v : Nat)
    (c : Bool) : Sampled s (s.storeSample p k v c) := by
  have hset : Sampled s (s.setPoint p ⟨v, 0, .good, c⟩) := ⟨rfl, .of_eq rfl, fun _ => rfl⟩
  have h := hset.trans (State.deliverArrival_sampled _ hk v)
  unfold State.storeSample
  dsimp only
  split
  · exact h
  · exact h.trans (State.deliverQuality_sampled _ hk _)

theorem State.storeSample_smt (s : State) (p : Nat) (k : PointKind) (v : Nat) (c : Bool) :
    (s.storeSample p k v c).smt = s.smt.set p ⟨v, 0, .good, c⟩ := (s.storeSample_plant p k v c).smt

/-! ### The pairs, as the manual says them -/

/-- One pair by 02 R27 and R28, over the points alone: the points after it, its outcome and the value of its line. -/
def pairTaken (configured : PointKind → Bool) (smt : List Point) (p v : Nat) : List Point × Outcome × Nat :=
  match pointKind p with
  | none => (smt, .noSuch, 0)
  | some k =>
    if configured k = false then (smt, .noSuch, 0)
    else match pointRange k with
      | .numeric lo hi =>
        if hi < v then (smt.set p ⟨hi, 0, .good, true⟩, .clamped, hi)
        else if v < lo then (smt.set p ⟨lo, 0, .good, true⟩, .clamped, lo)
        else (smt.set p ⟨v, 0, .good, false⟩, .taken, v)
      | .codes n =>
        if v < n then (smt.set p ⟨v, 0, .good, false⟩, .taken, v)
        else (smt, .ignored, (smt.getD p Point.never).value)

/-- The points after one pair more, and its line after the lines so far (02 R26). -/
def pairStep (configured : PointKind → Bool) (acc : List Point × List (Nat × Outcome × Nat)) (q : Nat × Nat) :
    List Point × List (Nat × Outcome × Nat) :=
  let r := pairTaken configured acc.1 q.1 q.2
  (r.1, acc.2 ++ [(q.1, r.2)])

/-- A pair stores and answers what 02 R27 and R28 say, and moves what an arrival may move. -/
theorem State.takePair_eq (s : State) (p v : Nat) :
    ((s.takePair p v).1.smt, (s.takePair p v).2) = pairTaken s.pointConfigured s.smt p v ∧
    Sampled s (s.takePair p v).1 := by
  unfold State.takePair pairTaken
  cases hk : pointKind p with
  | none => exact ⟨rfl, .refl s⟩
  | some k =>
    cases hc : s.pointConfigured k with
    | false =>
      simp only [hc, reduceCtorEq, if_false, if_true]
      exact ⟨trivial, .refl s⟩
    | true =>
      simp only [hc, if_true, reduceCtorEq, if_false]
      have hstored : ∀ x c, (s.storeSample p k x c).smt = s.smt.set p ⟨x, 0, .good, c⟩ ∧
          Sampled s (s.storeSample p k x c) := fun x c => ⟨s.storeSample_smt p k x c, s.storeSample_sampled hk x c⟩
      unfold storedValue
      cases pointRange k with
      | numeric lo hi =>
        dsimp only
        by_cases h1 : hi < v
        · simp [h1, hstored]
        · by_cases h2 : v < lo
          · simp [h1, h2, hstored]
          · simp [h1, h2, hstored]
      | codes n =>
        dsimp only
        by_cases h1 : v < n
        · simp [h1, hstored]
        · simp only [h1, if_false]
          exact ⟨rfl, .refl s⟩

/-- The pairs of a request are taken in turn, and no arrival configures or deconfigures an object. -/
theorem State.takePairs_eq (ps : List (Nat × Nat)) (configured : PointKind → Bool) (s : State)
    (hc : s.pointConfigured = configured) (lines : List (Nat × Outcome × Nat)) :
    ps.foldl (pairStep configured) (s.smt, lines) = ((s.takePairs ps).1.smt, lines ++ (s.takePairs ps).2) ∧
    Sampled s (s.takePairs ps).1 := by
  induction ps generalizing s lines with
  | nil => exact ⟨by simp [State.takePairs], .refl s⟩
  | cons q ps ih =>
    obtain ⟨heq, hs⟩ := s.takePair_eq q.1 q.2
    obtain ⟨hfold, hrest⟩ := ih (s.takePair q.1 q.2).1 ((funext hs.configured).trans hc)
      (lines ++ [(q.1, (s.takePair q.1 q.2).2)])
    refine ⟨?_, hs.trans hrest⟩
    have hstep : pairStep configured (s.smt, lines) q =
        ((s.takePair q.1 q.2).1.smt, lines ++ [(q.1, (s.takePair q.1 q.2).2)]) := by
      unfold pairStep
      dsimp only
      rw [← hc, ← heq]
    rw [List.foldl_cons, hstep, hfold, List.append_assoc]
    rfl

theorem State.takePairs_length (ps : List (Nat × Nat)) (s : State) : (s.takePairs ps).2.length = ps.length := by
  induction ps generalizing s with
  | nil => rfl
  | cons q ps ih => exact congrArg (· + 1) (ih _)

theorem resultCode_accepted (clamped : Bool) : resultCode (acceptedResult clamped) = if clamped then 1 else 0 := by
  cases clamped <;> rfl

theorem Sampled.rx {s t : State} (h : Sampled s t) : t.slk.rx = s.slk.rx :=
  (congrArg (fun x : State => x.slk.rx) h.rest :)

theorem State.answer_sample (s : State) {ps : List (Nat × Nat)} (h1 : 1 ≤ ps.length) (h16 : ps.length ≤ 16) :
    s.answer (.sample ps) = s.sample ps := if_pos ⟨h1, h16⟩

/-- Settles O25, by induction on the pairs (`State.takePairs_eq`): each stores and answers by the points the pairs
before it left, and configures nothing. -/
theorem samplePairsAreTakenInTurn : Obligations.SamplePairsAreTakenInTurn := by
  intro tag ps s hrec h1 h16 one all
  obtain ⟨-, hrx, -⟩ := State.receptive_parts hrec
  let r : Request := ⟨tag, .sample ps⟩
  obtain ⟨hfold, hs⟩ := State.takePairs_eq ps s.pointConfigured (s.withRx [r]) rfl []
  have hanswer : (s.withRx [r]).answer r.body = (s.withRx [r]).sample ps := State.answer_sample _ h1 h16
  have hexec := exec_taken (c := .sample tag ps) (r := r) rfl hrec (s.held_of_kind rfl) nofun
  obtain ⟨more, hmore, -⟩ := hs.sent
  have hall : all = (((s.withRx [r]).takePairs ps).1.smt, ((s.withRx [r]).takePairs ps).2) := hfold
  rw [hanswer] at hexec
  rw [hall]
  refine ⟨_, more, hexec, rfl, ?tx, ?rest⟩
  case tx =>
    show ((s.withRx [r]).takePairs ps).1.slk.tx ++ [_] = _
    rw [hmore]
    simp only [replyTo, State.sample, listItems, State.takePairs_length, resultCode_accepted]
    rfl
  case rest =>
    have hdrop : (((s.withRx [r]).sample ps).state.slk.rx).drop 1 = s.slk.rx := by
      rw [hrx]
      exact congrArg (List.drop 1) hs.rx
    simp only [hdrop]
    exact (congrArg (fun x : State => x.withRx s.slk.rx) hs.rest :)

end Sys2Proof.Machine
end

section
/-! The receive queue is no part of what CDU does with a run feedback: its operations commute with a change of the queue
(11 R174). -/

open Sys2Proof Sys2Proof.Machine

namespace Sys2Proof.Machine

variable (l : List Request)

theorem State.forEach_withRx {f : State → Nat → State} (h : ∀ u n, f (u.withRx l) n = (f u n).withRx l)
    (ns : List Nat) (s : State) : (s.withRx l).forEach ns f = (s.forEach ns f).withRx l := by
  induction ns generalizing s with
  | nil => rfl
  | cons n ns ih => exact (congrArg (fun u => State.forEach u ns f) (h s n)).trans (ih _)

/-! ### Orders -/

theorem State.offerOrder_withRx (s : State) (i : Nat) : (s.withRx l).offerOrder i = (s.offerOrder i).withRx l := by
  have hord : (s.withRx l).order i = s.order i := rfl
  have hocc : (s.withRx l).occupancy = s.occupancy := rfl
  unfold State.offerOrder
  rw [hord, hocc]
  cases s.order i with
  | none => rfl
  | some e =>
    dsimp only
    split <;> rfl

theorem State.writeOrder_withRx (s : State) (i : Nat) (v : OrderValue) :
    (s.withRx l).writeOrder i v = (s.writeOrder i v).withRx l := by
  have hord : (s.withRx l).order i = s.order i := rfl
  unfold State.writeOrder
  rw [hord]
  cases s.order i with
  | none => rfl
  | some e => exact State.offerOrder_withRx l { s with
      ori := setNth s.ori i { e with value := v, second := s.clk.stationSeconds } } i

theorem State.writeOrderIfNew_withRx (s : State) (i : Nat) (v : OrderValue) :
    (s.withRx l).writeOrderIfNew i v = (s.writeOrderIfNew i v).withRx l := by
  have hord : (s.withRx l).order i = s.order i := rfl
  unfold State.writeOrderIfNew
  rw [hord]
  cases s.order i with
  | none => rfl
  | some e =>
    dsimp only
    split
    · rfl
    · exact s.writeOrder_withRx l i v

theorem State.writeRun_withRx (s : State) (k : Nat) : (s.withRx l).writeRun k = (s.writeRun k).withRx l := by
  have hunit : (s.withRx l).unit k = s.unit k := rfl
  have hsts : (s.withRx l).sts = s.sts := rfl
  unfold State.writeRun
  rw [hunit, hsts]
  cases s.unit k with
  | none => rfl
  | some u =>
    dsimp only
    split
    · rfl
    · exact s.writeOrderIfNew_withRx l _ _

theorem State.writeLoad_withRx (s : State) (k : Nat) : (s.withRx l).writeLoad k = (s.writeLoad k).withRx l := by
  have hunit : (s.withRx l).unit k = s.unit k := rfl
  unfold State.writeLoad
  rw [hunit]
  cases s.unit k with
  | none => rfl
  | some u => exact s.writeOrderIfNew_withRx l _ _

theorem State.writeUnitOrders_withRx (s : State) : (s.withRx l).writeUnitOrders = s.writeUnitOrders.withRx l := by
  rw [State.writeUnitOrders_eq, State.forEach_withRx l (State.writeRun_withRx l),
    State.forEach_withRx l (State.writeLoad_withRx l), ← State.writeUnitOrders_eq]

/-! ### Changes of state -/

theorem State.changeUnit_withRx (s : State) (k : Nat) (u v : Compressor) :
    (s.withRx l).changeUnit k u v = (s.changeUnit k u v).withRx l := by
  unfold State.changeUnit
  dsimp only
  split <;> rfl

theorem State.readyTest_withRx (s : State) (k : Nat) :
    (s.withRx l).readyTest k = ((s.readyTest k).1.withRx l, (s.readyTest k).2) := by
  have hunit : (s.withRx l).unit k = s.unit k := rfl
  unfold State.readyTest
  rw [hunit]
  cases s.unit k with
  | none => rfl
  | some u =>
    dsimp only
    split
    · rw [State.changeUnit_withRx]
    · rfl

theorem State.enterResting_withRx (s : State) (k : Nat) (u : Compressor) :
    (s.withRx l).enterResting k u = ((s.enterResting k u).1.withRx l, (s.enterResting k u).2) := by
  unfold State.enterResting
  dsimp only
  rw [State.changeUnit_withRx, State.readyTest_withRx]

theorem State.stoppedTest_withRx (s : State) (k : Nat) :
    (s.withRx l).stoppedTest k = ((s.stoppedTest k).1.withRx l, (s.stoppedTest k).2) := by
  have hunit : (s.withRx l).unit k = s.unit k := rfl
  have hshows : (s.withRx l).showsStopped k = s.showsStopped k := rfl
  unfold State.stoppedTest
  rw [hunit, hshows]
  cases s.unit k with
  | none => rfl
  | some u =>
    dsimp only
    split
    · rw [State.enterResting_withRx]
    · rfl

/-! ### Duty evaluations -/

theorem startUnits_withRx (n need : Nat) (s : State) :
    startUnits n need (s.withRx l) = ((startUnits n need s).1.withRx l, (startUnits n need s).2) := by
  induction n generalizing s with
  | zero => rfl
  | succ n ih =>
    have hcap : (s.withRx l).runningCapacity = s.runningCapacity := rfl
    have hworn : (s.withRx l).leastWorn = s.leastWorn := rfl
    unfold startUnits
    rw [hcap, hworn]
    split
    · cases s.leastWorn with
      | none => rfl
      | some x =>
        have hstart : (s.withRx l).startUnit x.1 x.2 = (s.startUnit x.1 x.2).withRx l := s.changeUnit_withRx l _ _ _
        dsimp only
        rw [hstart, ih]
    · rfl

theorem State.stopUnit_withRx (s : State) : (s.withRx l).stopUnit = s.stopUnit.withRx l := by
  have hfind : (s.withRx l).stopCandidates.find?
        (fun x => stopTest (s.withRx l).need (s.withRx l).runningCapacity x.2) =
      s.stopCandidates.find? (fun x => stopTest s.need s.runningCapacity x.2) := rfl
  unfold State.stopUnit
  rw [hfind]
  split
  · rw [State.changeUnit_withRx, State.stoppedTest_withRx]
  · rfl

theorem State.modUnit_withRx (s : State) (k : Nat) (f : Compressor → Compressor) :
    (s.withRx l).modUnit k f = (s.modUnit k f).withRx l := by
  have hunit : (s.withRx l).unit k = s.unit k := rfl
  unfold State.modUnit
  rw [hunit]
  cases s.unit k <;> rfl

theorem State.setLoads_withRx (s : State) : (s.withRx l).setLoads = s.setLoads.withRx l :=
  State.forEach_withRx l (fun u k => u.modUnit_withRx l k _) unitNumbers s

theorem State.evaluateDuty_withRx (s : State) : (s.withRx l).evaluateDuty = s.evaluateDuty.withRx l := by
  have hsts : (s.withRx l).sts = s.sts := rfl
  have hneed : (s.withRx l).need = s.need := rfl
  unfold State.evaluateDuty
  rw [hsts, hneed, startUnits_withRx]
  split
  · dsimp only
    split
    · rw [State.setLoads_withRx, State.writeUnitOrders_withRx]
    · rw [State.stopUnit_withRx, State.setLoads_withRx, State.writeUnitOrders_withRx]
  · rfl

theorem repeatDuty_withRx (n : Nat) (s : State) : repeatDuty n (s.withRx l) = (repeatDuty n s).withRx l := by
  induction n generalizing s with
  | zero => rfl
  | succ n ih =>
    unfold repeatDuty
    rw [State.evaluateDuty_withRx, ih]

theorem dutyAfter_withRx (r : State × Nat) : dutyAfter (r.1.withRx l, r.2) = (dutyAfter r).withRx l := by
  unfold dutyAfter
  dsimp only
  split
  · rfl
  · rw [State.writeUnitOrders_withRx, repeatDuty_withRx]

/-! ### Feedback -/

theorem State.tripRaised_withRx (s : State) (k : Nat) (u : Compressor) (a : AlertKind) :
    (s.withRx l).tripRaised k u a = (s.tripRaised k u a).withRx l := by
  unfold State.tripRaised
  rw [State.changeUnit_withRx, State.writeUnitOrders_withRx, State.raise_withRx]
  dsimp only
  split
  · rw [State.raise_withRx]
  · rfl

theorem State.tripUnit_withRx (s : State) (k : Nat) (u : Compressor) (a : AlertKind) :
    (s.withRx l).tripUnit k u a = (s.tripUnit k u a).withRx l := by
  rw [State.tripUnit_eq, State.tripUnit_eq, State.tripRaised_withRx, State.stoppedTest_withRx]
  exact dutyAfter_withRx l (_, _)

/-- What a run feedback brings leaves the receive queue out of account. -/
theorem State.feedbackArrival_withRx (s : State) (k value : Nat) :
    (s.withRx l).feedbackArrival k value = (s.feedbackArrival k value).withRx l := by
  have hunit : (s.withRx l).unit k = s.unit k := rfl
  have hstop : dutyAfter ((s.withRx l).stoppedTest k) = (dutyAfter (s.stoppedTest k)).withRx l := by
    rw [State.stoppedTest_withRx, dutyAfter_withRx]
  unfold State.feedbackArrival
  rw [hunit, hstop]
  cases s.unit k with
  | none => rfl
  | some u =>
    have htrip := s.tripUnit_withRx l k u .unitTrip
    have hbegin := fun v => (congrArg (fun x => dutyAfter (x, 1)) (s.changeUnit_withRx l k u v)).trans
      (dutyAfter_withRx l (s.changeUnit k u v, 1))
    cases hu : u.state with
    | starting =>
      simp only [hu, htrip, hbegin]
      split
      · rfl
      · split <;> rfl
    | running =>
      simp only [hu, htrip]
      split <;> rfl
    | stopping =>
      simp only [hu, htrip]
      split
      · rfl
      · split <;> rfl
    | tripped =>
      simp only [hu]
      split <;> rfl
    | _ => simp only [hu]

end Sys2Proof.Machine
end

section
/-! What duty evaluations leave of one unit (08 R131 to R139): its trip count and run seconds, its record while it is
down, and its orders while it runs. -/

open Sys2Proof Sys2Proof.Machine

namespace Sys2Proof.Machine

/-! ### Trip count and run seconds -/

/-- The trip count and the run seconds of unit `k`, which no evaluation moves. -/
def State.wear (s : State) (k : Nat) : Option (Nat × Nat) := (s.unit k).map (fun u => (u.trips, u.runSeconds))

theorem State.wear_congr {s t : State} {k : Nat} (h : t.unit k = s.unit k) : t.wear k = s.wear k := by
  unfold State.wear
  rw [h]

theorem State.wear_changeUnit {s : State} {i : Nat} {x : Compressor} (h : s.unit i = some x) (u : Compressor)
    {v : Compressor} (hv : (v.trips, v.runSeconds) = (x.trips, x.runSeconds)) (k : Nat) :
    (s.changeUnit i u v).wear k = s.wear k := by
  by_cases hk : k = i
  · subst hk
    unfold State.wear
    rw [State.unit_changeUnit h, h]
    exact congrArg some hv
  · exact State.wear_congr (s.unit_changeUnit_of_ne u v hk)

theorem State.wear_readyTest (s : State) (i k : Nat) : (s.readyTest i).1.wear k = s.wear k := by
  unfold State.readyTest
  split
  · next u hu =>
    split
    · exact State.wear_changeUnit hu u (by rfl) k
    · rfl
  · rfl

theorem State.wear_stoppedTest (s : State) (i k : Nat) : (s.stoppedTest i).1.wear k = s.wear k := by
  unfold State.stoppedTest
  split
  · next u hu =>
    split
    · exact (State.wear_readyTest _ i k).trans (State.wear_changeUnit hu u (by rfl) k)
    · rfl
  · rfl

theorem wear_startUnits (n need : Nat) (s : State) (k : Nat) : (startUnits n need s).1.wear k = s.wear k := by
  induction n generalizing s with
  | zero => rfl
  | succ n ih =>
    unfold startUnits
    split
    · split
      · next i u hw => exact (ih _).trans (State.wear_changeUnit (State.leastWorn_ready hw).1 u (by rfl) k)
      · rfl
    · rfl

theorem State.wear_stopUnit (s : State) (k : Nat) : s.stopUnit.wear k = s.wear k := by
  unfold State.stopUnit
  split
  · next i u hw =>
    have hu := (State.stopCandidates_running (List.mem_of_find?_eq_some hw)).1
    exact (State.wear_stoppedTest _ i k).trans (State.wear_changeUnit hu u (by rfl) k)
  · rfl

theorem State.wear_setLoads (s : State) (k : Nat) : s.setLoads.wear k = s.wear k := by
  refine State.forEach_induct (P := fun u => u.wear k = s.wear k) rfl (fun u i _ hu => Eq.trans ?_ hu)
  by_cases hk : k = i
  · subst hk
    unfold State.wear
    rw [State.unit_modUnit]
    cases u.unit k with
    | none => rfl
    | some x =>
      simp only [Option.map_some]
      split <;> rfl
  · exact State.wear_congr (State.unit_modUnit_of_ne _ _ hk)

theorem State.wear_evaluateDuty (s : State) (k : Nat) : s.evaluateDuty.wear k = s.wear k := by
  unfold State.evaluateDuty
  split
  · have hs := wear_startUnits 6 s.need s k
    generalize startUnits 6 s.need s = r at hs ⊢
    refine (State.wear_congr (State.unit_writeUnitOrders _ k)).trans ((State.wear_setLoads _ k).trans ?_)
    split
    · exact hs
    · exact (State.wear_stopUnit _ k).trans hs
  · rfl

theorem wear_dutyAfter (r : State × Nat) (k : Nat) : (dutyAfter r).wear k = r.1.wear k := by
  have hrepeat : ∀ n (s : State), (repeatDuty n s).wear k = s.wear k := by
    intro n
    induction n with
    | zero => exact fun _ => rfl
    | succ n ih => exact fun s => (ih _).trans (s.wear_evaluateDuty k)
  unfold dutyAfter
  split
  · rfl
  · exact (hrepeat _ _).trans (State.wear_congr (State.unit_writeUnitOrders _ k))

/-! ### The evaluations of one event (log 17) -/

theorem dutyAfter_one (s : State) : dutyAfter (s, 1) = s.writeUnitOrders.evaluateDuty := by
  simp [dutyAfter, repeatDuty]

theorem dutyAfter_two (s : State) : dutyAfter (s, 2) = s.writeUnitOrders.evaluateDuty.evaluateDuty := by
  simp [dutyAfter, repeatDuty]

section
variable {k : Nat} {v : Compressor}

theorem repeatDuty_down (n : Nat) {s : State} (hk : k ∈ unitNumbers) (hlen : s.ori.length = 31)
    (h : s.unit k = some v ∧ s.runOrder k = .stop ∧ s.loadOrder k = v.load) (hv : v.state.engaged = false)
    (hr : v.state ≠ .ready) :
    (repeatDuty n s).unit k = some v ∧ (repeatDuty n s).runOrder k = .stop ∧ (repeatDuty n s).loadOrder k = v.load := by
  induction n generalizing s with
  | zero => exact h
  | succ n ih => exact ih (s.evaluateDuty_moved.orders.trans hlen) (State.evaluateDuty_down hk hlen h hv hr)

/-- The evaluations of an event leave a unit that is down as it is, with its orders. -/
theorem dutyAfter_down {s : State} {n : Nat} (hn : n ≠ 0) (hk : k ∈ unitNumbers) (hlen : s.ori.length = 31)
    (h : s.unit k = some v) (hv : v.state.engaged = false) (hr : v.state ≠ .ready) :
    (dutyAfter (s, n)).unit k = some v ∧ (dutyAfter (s, n)).runOrder k = .stop ∧
      (dutyAfter (s, n)).loadOrder k = v.load := by
  unfold dutyAfter
  rw [if_neg hn]
  exact repeatDuty_down n hk (s.writeUnitOrders_ordered.orders.trans hlen) (State.writeUnitOrders_down hk hlen h hv)
    hv hr

/-! ### A unit that runs (08 R132 to R134) -/

theorem State.stopCandidates_minRun {s : State} {x : Nat × Compressor} (h : x ∈ s.stopCandidates) :
    x.2.minRun = none := by
  have key : ∀ y ∈ s.stopCandidates, y.2.minRun = none := by
    unfold State.stopCandidates
    refine List.foldlRecOn (motive := fun acc : List (Nat × Compressor) => ∀ y ∈ acc, y.2.minRun = none)
      unitNumbers _ nofun (fun acc hb k _ => ?_)
    split
    · split
      · next hr =>
        intro y hy
        obtain rfl | hy := mem_insertWorn hy
        · exact hr.2
        · exact hb y hy
      · exact hb
    · exact hb
  exact key x h

/-- A unit that runs is started by no evaluation, and stopped by none while its min-run runs (R133). -/
theorem State.unit_stopUnit_of_minRun {s : State} (h : s.unit k = some v) (hv : v.minRun ≠ none) :
    s.stopUnit.unit k = some v := by
  unfold State.stopUnit
  split
  · next i u hw =>
    have hne : k ≠ i := by
      rintro rfl
      have hc := State.stopCandidates_minRun (List.mem_of_find?_eq_some hw)
      rw [(State.stopCandidates_running (List.mem_of_find?_eq_some hw)).1] at h
      cases h
      exact hv hc
    exact (State.unit_stoppedTest_of_ne _ hne).trans ((s.unit_changeUnit_of_ne _ _ hne).trans h)
  · exact h

/-- Setting the loads changes the load alone. -/
theorem State.unit_setLoads_load {s : State} (h : s.unit k = some v) :
    ∃ n, s.setLoads.unit k = some { v with load := n } := by
  unfold State.setLoads
  refine State.forEach_induct (P := fun u => ∃ n, u.unit k = some { v with load := n }) ⟨v.load, h⟩
    (fun u i _ ⟨n, hu⟩ => ?_)
  by_cases hi : k = i
  · subst hi
    rw [State.unit_modUnit, hu, Option.map_some]
    by_cases hr : v.state = .running
    · exact ⟨_, by rw [if_pos hr]⟩
    · exact ⟨n, by rw [if_neg hr]⟩
  · exact ⟨n, (State.unit_modUnit_of_ne _ _ hi).trans hu⟩

/-- The station is RUNNING, its order image whole, and `v` the record of unit `k`. -/
structure State.Commands (s : State) (k : Nat) (v : Compressor) : Prop where
  unit : s.unit k = some v
  orders : s.ori.length = 31
  station : s.sts.state = .running

theorem State.Commands.ordered {s t : State} (h : s.Commands k v) (ho : Ordered s t) : t.Commands k v :=
  ⟨(ho.unit k).trans h.unit, ho.orders.trans h.orders, (congrArg Station.state ho.sts).trans h.station⟩

theorem State.Commands.runOrder_writeRun {s : State} (h : s.Commands k v) (hk : k ∈ unitNumbers) :
    (s.writeRun k).runOrder k = v.state.runOrder := by
  obtain ⟨h1, h6⟩ := mem_unitNumbers hk
  obtain ⟨x, hx⟩ := State.order_mem h.orders (i := 16 + k) (by omega) (by omega)
  obtain ⟨⟨y, sec, b⟩, hy, rfl⟩ := State.value_writeOrderIfNew (i := runActuator k) hx (.run v.state.runOrder)
  unfold State.writeRun
  rw [h.unit]
  simp only [h.station, bne_self_eq_false, Bool.and_false, Bool.false_eq_true, if_false]
  unfold State.runOrder
  rw [hy]

/-- In RUNNING the orders of a unit follow its state and its load. -/
theorem State.Commands.orders_follow {s : State} (h : s.Commands k v) (hk : k ∈ unitNumbers) :
    s.writeUnitOrders.runOrder k = v.state.runOrder ∧ s.writeUnitOrders.loadOrder k = v.load := by
  obtain ⟨h1, h6⟩ := mem_unitNumbers hk
  obtain ⟨u, hu, -, e⟩ := State.forEach_view (f := State.writeRun) (I := fun u => u.Commands k v)
    (fun u => u.order (16 + k)) hk (by decide) (fun u m _ hu => hu.ordered (u.writeRun_ordered m))
    (fun u m _ hm _ => u.order_writeRun_of_ne (by omega)) h
  have hruns : (s.forEach unitNumbers State.writeRun).Commands k v :=
    State.forEach_induct (P := fun u => u.Commands k v) h (fun u m _ hu => hu.ordered (u.writeRun_ordered m))
  obtain ⟨w, hw, -, e'⟩ := State.forEach_view (f := State.writeLoad) (I := fun u => u.Commands k v)
    (fun u => u.order (22 + k)) hk (by decide) (fun u m _ hu => hu.ordered (u.writeLoad_ordered m))
    (fun u m _ hm _ => u.order_writeLoad_of_ne (by omega)) hruns
  obtain ⟨x, hx⟩ := State.order_mem hw.orders (i := 22 + k) (by omega) (by omega)
  rw [State.writeUnitOrders_eq]
  constructor
  · refine (State.runOrder_congr ?_).trans ((State.runOrder_congr e).trans (hu.runOrder_writeRun hk))
    exact State.order_forEach (fun u m hm => u.order_writeLoad_of_ne (by have := mem_unitNumbers hm; omega)) _
  · exact (State.loadOrder_congr e').trans ((State.load_writeLoad hx).1 v hw.unit)

/-- An evaluation keeps a RUNNING unit whose min-run runs, at the load it sets, and its orders follow. -/
theorem State.evaluateDuty_runs {s : State} (hk : k ∈ unitNumbers) (hlen : s.ori.length = 31)
    (hsts : s.sts.state = .running) (h : s.unit k = some v) (hv : v.state = .running) (hm : v.minRun ≠ none) :
    ∃ n, s.evaluateDuty.unit k = some { v with load := n } ∧ s.evaluateDuty.runOrder k = .start ∧
      s.evaluateDuty.loadOrder k = n := by
  have hstart := State.unit_startUnits 6 s.need h (by rw [hv]; nofun)
  have hstop := State.unit_stopUnit_of_minRun hstart hm
  have ho := startUnits_only 6 s.need s
  unfold State.evaluateDuty
  rw [if_pos hsts]
  generalize startUnits 6 s.need s = r at *
  dsimp only
  have hmid : (if r.2 = true then r.1 else r.1.stopUnit).unit k = some v ∧
      UnitsOnly s (if r.2 = true then r.1 else r.1.stopUnit) := by
    split
    · exact ⟨hstart, ho⟩
    · exact ⟨hstop, ho.trans r.1.stopUnit_only⟩
  generalize (if r.2 = true then r.1 else r.1.stopUnit) = w at *
  obtain ⟨hw, hmoved⟩ := hmid
  obtain ⟨n, hn⟩ := State.unit_setLoads_load hw
  have hl := hmoved.trans w.setLoads_only
  have hcommands : w.setLoads.Commands k { v with load := n } :=
    ⟨hn, (congrArg List.length hl.ori).trans hlen, (congrArg Station.state hl.sts).trans hsts⟩
  obtain ⟨hrun, hload⟩ := hcommands.orders_follow hk
  exact ⟨n, (State.unit_writeUnitOrders _ k).trans hn, hrun.trans (by rw [hv]; rfl), hload⟩

/-- Outside RUNNING no START is decided, so the orders of the units leave a unit that runs its run order (01 R12). -/
theorem State.runOrder_writeUnitOrders {s : State} (hk : k ∈ unitNumbers) (h : s.unit k = some v)
    (hv : v.state.engaged = true)
    (hs : s.sts.state ≠ .running) : s.writeUnitOrders.runOrder k = s.runOrder k := by
  obtain ⟨h1, h6⟩ := mem_unitNumbers hk
  refine State.runOrder_congr ?_
  rw [State.writeUnitOrders_eq]
  refine (State.order_forEach (fun u m hm => u.order_writeLoad_of_ne (by have := mem_unitNumbers hm; omega)) _).trans ?_
  have key := State.forEach_induct (s := s) (ns := unitNumbers) (f := State.writeRun)
    (P := fun u => u.unit k = some v ∧ u.sts = s.sts ∧ u.order (16 + k) = s.order (16 + k)) ⟨h, rfl, rfl⟩
    (fun u m _ ⟨hu, hus, huo⟩ => by
      have hord := u.writeRun_ordered m
      refine ⟨(hord.unit k).trans hu, hord.sts.trans hus, Eq.trans ?_ huo⟩
      by_cases hm : m = k
      · subst hm
        unfold State.writeRun
        rw [hu]
        simp [hv, hus, hs]
      · exact u.order_writeRun_of_ne (by omega))
  exact key.2.2

end

end Sys2Proof.Machine
end

section
/-! A trip of a unit (08 R138, R139), whether its feedback shows STOPPED or not. -/

open Sys2Proof Sys2Proof.Machine

namespace Sys2Proof.Machine

/-! ### A trip whose feedback shows STOPPED -/

/-- After a trip the STOPPED test takes a TRIPPED unit to RESTING or READY, and leaves a locked one. -/
theorem State.stoppedTest_tripped {s : State} {k : Nat} {u : Compressor} (h : s.unit k = some u.tripped)
    (hst : s.showsStopped k = true) :
    (u.config.tripLimit ≤ min 255 (u.trips + 1) → (s.stoppedTest k).1.unit k = some u.tripped) ∧
    (min 255 (u.trips + 1) < u.config.tripLimit → (s.stoppedTest k).1.unit k = some u.tripped.rested) := by
  unfold State.stoppedTest
  rw [h]
  dsimp only
  constructor
  · intro hlim
    have hl : u.tripped.state = .lockedOut := if_pos hlim
    rw [if_neg (by simp [hl])]
    exact h
  · intro hlim
    have hl : u.tripped.state = .tripped := if_neg (by omega)
    rw [if_pos ⟨.inr hl, hst⟩]
    exact State.unit_enterResting h _

/-- A unit below its trip limit that trips at a STOPPED feedback rests for its min-stop, where it has one. -/
theorem Compressor.tripped_rested {u : Compressor} (hm : 0 < u.config.minStop) :
    u.tripped.rested = { u with state := .resting, load := 0, timeout := none, minRun := none
                                trips := min 255 (u.trips + 1), minStop := some u.config.minStop } := by
  have h0 : u.config.minStop ≠ 0 := by omega
  unfold Compressor.rested Compressor.tripped countdown
  simp only [h0, false_and, if_false]

/-- A trip while the feedback shows STOPPED: the unit goes on to RESTING or READY before the evaluations (log 17). -/
theorem State.tripUnit_tookTrip_stopped {s : State} {k : Nat} {u : Compressor} {a : AlertKind} (hk : k ∈ unitNumbers)
    (hlen : s.ori.length = 31) (hals : s.als.length = 23) (h : s.unit k = some u) (hd : a ≠ .reportsDropped)
    (ha : a ≠ .unitLockout) (hst : s.showsStopped k = true) : tookTrip s (s.tripUnit k u a) k u a := by
  have hrest := s.tripUnit_moved k u a
  obtain ⟨hu, ho, hsm, hal, hlk, hdue⟩ := State.tripRaised_spec (a := a) hlen hals h hd ha
  rw [State.tripUnit_eq] at hrest ⊢
  generalize s.tripRaised k u a = w at *
  obtain ⟨hlocked, hrested⟩ := State.stoppedTest_tripped hu ((State.showsStopped_congr hsm k).trans hst)
  have hwear := w.wear_stoppedTest k k
  have hcalm := w.stoppedTest_calm (K := []) k
  have hori := (congrArg List.length (w.stoppedTest_only k).ori).trans ho
  generalize w.stoppedTest k = r at *
  have hcalm := hcalm.trans (dutyAfter_calm (r.1, r.2 + 1))
  have hta := fun b => hcalm.alerts b nofun
  have hworn : (dutyAfter (r.1, r.2 + 1)).wear k = some (min 255 (u.trips + 1), u.runSeconds) := by
    rw [wear_dutyAfter, hwear, State.wear, hu]
    rfl
  have hdown := fun v hv he hr => dutyAfter_down (v := v) (Nat.succ_ne_zero r.2) hk hori hv he hr
  generalize dutyAfter (r.1, r.2 + 1) = t at *
  refine ⟨fun hlim => ?locked, fun hlim => ⟨?_, fun hs => ?_, fun _ hm => ?rested, ?worn⟩, ?_,
    fun hcap => hcalm.due (hdue hcap), hrest.rest⟩
  case locked =>
    obtain ⟨heng, hnr, hload, -⟩ := u.tripped_down
    obtain ⟨h1, h2, h3⟩ := hdown _ (hlocked hlim) heng hnr
    refine ⟨?_, h2, h3.trans hload, ?_⟩
    · rw [h1, Compressor.tripped, if_pos hlim]
    · rw [hta, hlk, if_pos hlim]
  case rested =>
    have hr := hrested hlim
    rw [Compressor.tripped_rested hm] at hr
    exact hdown _ hr rfl nofun
  case worn =>
    obtain ⟨x, hx, hw⟩ := Option.map_eq_some_iff.mp hworn
    exact ⟨x, hx, congrArg Prod.fst hw, congrArg Prod.snd hw⟩
  · rw [hta, hlk, if_neg (by omega)]
  · rw [hst] at hs
    cases hs
  · rw [hta, hal]

/-- A trip by a run feedback, whatever the feedback shows (08 R138). -/
theorem State.tripUnit_unitTrip {s : State} {k : Nat} {u : Compressor} (hs : s.shaped = true) (h : s.unit k = some u) :
    tookTrip s (s.tripUnit k u .unitTrip) k u .unitTrip := by
  obtain ⟨hp, ht⟩ := s.shaped_iff.mp hs
  have hk : k ∈ unitNumbers := hp.unit_number h
  have hori := State.shaped_orders hs
  cases hst : s.showsStopped k with
  | false => exact State.tripUnit_tookTrip hk hori ht.alerts h nofun nofun hst
  | true => exact State.tripUnit_tookTrip_stopped hk hori ht.alerts h nofun nofun hst

end Sys2Proof.Machine
end

section
/-! A SAMPLE of one pair at a run feedback point (02 R29; 08 R137 to R139): what each value brings in each state. -/

open Sys2Proof Sys2Proof.Machine

namespace Sys2Proof.Machine

section
variable {s : State} {k : Nat} {u : Compressor}

/-! ### What an arrival brings -/

/-- The record of a unit whose start ends: RUNNING, with its min-run (08 R137). -/
def Compressor.begun (u : Compressor) : Compressor :=
  { u with state := .running, timeout := none, minRun := countdown u.config.minRun }

theorem State.feedbackArrival_begins (h : s.unit k = some u) (hu : u.state = .starting) :
    s.feedbackArrival k 1 = (s.setUnit k (some u.begun)).writeUnitOrders.evaluateDuty := by
  have hchange : s.changeUnit k u u.begun = s.setUnit k (some u.begun) := by
    have hcap : u.state.capable = true := by rw [hu]; rfl
    unfold State.changeUnit
    dsimp only
    rw [hcap]
    rfl
  rw [← dutyAfter_one, ← hchange]
  unfold State.feedbackArrival
  rw [h]
  simp only [hu, if_true, Compressor.begun]

theorem State.feedbackArrival_trips {v : Nat} (h : s.unit k = some u)
    (hu : (v = 2 ∧ (u.state = .starting ∨ u.state = .running ∨ u.state = .stopping)) ∨ (v = 0 ∧ u.state = .running)) :
    s.feedbackArrival k v = s.tripUnit k u .unitTrip := by
  unfold State.feedbackArrival
  rw [h]
  obtain ⟨rfl, hu | hu | hu⟩ | ⟨rfl, hu⟩ := hu <;> simp [hu]

theorem State.feedbackArrival_rests (h : s.unit k = some u) (hu : u.state = .stopping ∨ u.state = .tripped)
    (hst : s.showsStopped k = true) : s.feedbackArrival k 0 = dutyAfter (s.enterResting k u) := by
  have htest : s.stoppedTest k = s.enterResting k u := by
    unfold State.stoppedTest
    rw [h]
    exact if_pos ⟨hu, hst⟩
  unfold State.feedbackArrival
  rw [h, htest]
  obtain hu | hu := hu <;> simp [hu]

theorem State.feedbackArrival_else {v : Nat} (h : s.unit k = some u) (h1 : ¬ (v = 1 ∧ u.state = .starting))
    (h2 : ¬ ((v = 2 ∧ (u.state = .starting ∨ u.state = .running ∨ u.state = .stopping)) ∨
      (v = 0 ∧ u.state = .running)))
    (h3 : ¬ (v = 0 ∧ (u.state = .stopping ∨ u.state = .tripped))) : s.feedbackArrival k v = s := by
  unfold State.feedbackArrival
  rw [h]
  dsimp only
  split
  case h_1 hu => rw [if_neg (fun e => h1 ⟨e, hu⟩), if_neg (fun e => h2 (.inl ⟨e, .inl hu⟩))]
  case h_2 hu =>
    rw [if_neg (fun e => h2 (e.elim (fun e => .inl ⟨e, .inr (.inl hu)⟩) (fun e => .inr ⟨e, hu⟩)))]
  case h_3 hu => rw [if_neg (fun e => h2 (.inl ⟨e, .inr (.inr hu)⟩)), if_neg (fun e => h3 ⟨e, .inl hu⟩)]
  case h_4 hu => rw [if_neg (fun e => h3 ⟨e, .inr hu⟩)]
  case h_5 => rfl

/-! ### The start that ends (08 R137) -/

/-- In RUNNING the unit runs on through the evaluation, for its min-run runs, and its orders follow. -/
theorem State.begun_runs (hk : k ∈ unitNumbers) (hlen : s.ori.length = 31) (h : s.unit k = some u)
    (hsts : s.sts.state = .running) (hm : 0 < u.config.minRun) :
    ∃ n, (s.setUnit k (some u.begun)).writeUnitOrders.evaluateDuty.unit k = some { u.begun with load := n } ∧
      (s.setUnit k (some u.begun)).writeUnitOrders.evaluateDuty.runOrder k = .start ∧
      (s.setUnit k (some u.begun)).writeUnitOrders.evaluateDuty.loadOrder k = n := by
  have hord := (s.setUnit k (some u.begun)).writeUnitOrders_ordered
  have hmin : u.begun.minRun ≠ none := by
    have h0 : u.config.minRun ≠ 0 := by omega
    simp [Compressor.begun, countdown, h0]
  have hunit := (hord.unit k).trans (State.unit_setUnit (some u.begun) h)
  have hstation := (congrArg Station.state hord.sts).trans hsts
  generalize (s.setUnit k (some u.begun)).writeUnitOrders = w at *
  exact State.evaluateDuty_runs hk (hord.orders.trans hlen) hstation hunit rfl hmin

theorem Ordered.plu {s t : State} (h : Ordered s t) : t.plu = s.plu := congrArg (fun x => x.plu) h.rest

theorem State.evaluateDuty_of_not_running (h : s.sts.state ≠ .running) : s.evaluateDuty = s := by
  unfold State.evaluateDuty
  exact if_neg h

/-- Outside RUNNING the unit is RUNNING by its feedback, and its run order and PLU stand. -/
theorem State.begun_stands (hk : k ∈ unitNumbers) (h : s.unit k = some u) (hsts : s.sts.state ≠ .running) :
    (s.setUnit k (some u.begun)).writeUnitOrders.evaluateDuty.unit k = some u.begun ∧
    (s.setUnit k (some u.begun)).writeUnitOrders.evaluateDuty.runOrder k = s.runOrder k ∧
    (s.setUnit k (some u.begun)).writeUnitOrders.evaluateDuty.plu = s.plu := by
  have hord := (s.setUnit k (some u.begun)).writeUnitOrders_ordered
  have hunit : (s.setUnit k (some u.begun)).unit k = some u.begun := State.unit_setUnit _ h
  rw [State.evaluateDuty_of_not_running (by rw [hord.sts]; exact hsts)]
  refine ⟨(hord.unit k).trans hunit, ?_, hord.plu⟩
  exact State.runOrder_writeUnitOrders hk hunit rfl hsts

/-! ### The unit that comes to rest (08 R139) -/

/-- The record of a unit that enters RESTING, before the READY test. -/
def Compressor.resting (u : Compressor) : Compressor :=
  { u with state := .resting, timeout := none, minStop := countdown u.config.minStop }

theorem State.setUnit_setUnit (x y : Option Compressor) : (s.setUnit k x).setUnit k y = s.setUnit k y := by
  unfold State.setUnit
  simp only [setNth_setNth]

theorem State.changeUnit_resting (hu : u.state.capable = false) :
    s.changeUnit k u u.resting = s.setUnit k (some u.resting) := by
  unfold State.changeUnit
  dsimp only
  rw [hu]
  rfl

theorem State.enterResting_stays (h : s.unit k = some u) (hu : u.state.capable = false)
    (hroom : ¬ (u.config.minStop = 0 ∧ u.startList.length < u.config.startsPerHour)) :
    s.enterResting k u = (s.setUnit k (some u.resting), 1) := by
  have htest : (s.setUnit k (some u.resting)).readyTest k = (s.setUnit k (some u.resting), 0) := by
    unfold State.readyTest
    rw [State.unit_setUnit _ h]
    refine if_neg (fun ⟨_, hm, hl⟩ => hroom ⟨?_, hl⟩)
    by_contra h0
    simp [Compressor.resting, countdown, h0] at hm
  have hchange := State.changeUnit_resting (s := s) (k := k) hu
  unfold Compressor.resting at hchange htest ⊢
  unfold State.enterResting
  rw [hchange]
  dsimp only
  rw [htest]

theorem State.enterResting_goes_on (h : s.unit k = some u) (hu : u.state.capable = false)
    (hroom : u.config.minStop = 0 ∧ u.startList.length < u.config.startsPerHour) :
    s.enterResting k u = ((s.setUnit k (some { u.resting with state := .ready })).makePlanDue, 2) := by
  have htest : (s.setUnit k (some u.resting)).readyTest k =
      ((s.setUnit k (some { u.resting with state := .ready })).makePlanDue, 1) := by
    have hm : u.resting.minStop = none := by simp [Compressor.resting, countdown, hroom.1]
    unfold State.readyTest
    rw [State.unit_setUnit _ h]
    dsimp only
    rw [if_pos ⟨rfl, hm, hroom.2⟩]
    unfold State.changeUnit
    dsimp only
    rw [State.setUnit_setUnit]
    rfl
  have hchange := State.changeUnit_resting (s := s) (k := k) hu
  unfold Compressor.resting at hchange htest ⊢
  unfold State.enterResting
  rw [hchange]
  dsimp only
  rw [htest]

end

/-! ### The records as the manual's table writes them -/

theorem State.setUnit_eq (s : State) {k : Nat} (hk : k ≠ 0) (x : Compressor) : s.setUnit k (some x) =
    { s with cdu := { s.cdu with units := s.cdu.units.set (k - 1) (some x) }
             plu := { s.plu with due := s.plu.due || false } } := by
  simp [State.setUnit, setNth, hk]

theorem State.setUnit_makePlanDue_eq (s : State) {k : Nat} (hk : k ≠ 0) (x : Compressor) :
    (s.setUnit k (some x)).makePlanDue =
      { s with cdu := { s.cdu with units := s.cdu.units.set (k - 1) (some x) }
               plu := { s.plu with due := s.plu.due || true } } := by
  simp [State.setUnit, State.makePlanDue, setNth, hk]

/-! ### The SAMPLE -/

theorem UnitsMoved.rx {s t : State} (h : UnitsMoved s t) : t.slk.rx = s.slk.rx :=
  (congrArg (fun x : State => x.slk.rx) h.rest :)

theorem pointKind_feedbackPoint {k : Nat} (hk : k ∈ unitNumbers) : pointKind (28 + k) = some (.runFeedback k) :=
  (by decide : ∀ k ∈ unitNumbers, pointKind (28 + k) = some (.runFeedback k)) k hk

/-- A run feedback is stored and delivered; its new quality is GOOD, which brings nothing (08 R138). -/
theorem State.storeSample_feedback (s : State) (k v : Nat) : s.storeSample (28 + k) (.runFeedback k) v false =
    (s.setPoint (28 + k) ⟨v, 0, .good, false⟩).feedbackArrival k v := by
  unfold State.storeSample
  dsimp only
  split
  · rfl
  · exact State.feedbackQuality_of_not_stale (q := .good) nofun k

theorem State.sample_feedback {s : State} {k v : Nat} (hk : k ∈ unitNumbers) (hu : (s.unit k).isSome = true)
    (hv : v < 3) :
    s.sample [(28 + k, v)] =
      { state := (s.setPoint (28 + k) ⟨v, 0, .good, false⟩).feedbackArrival k v, result := .ok
        items := [.u8 1, .u8 (28 + k), .u8 0, .u32 v] } := by
  have hpair : s.takePair (28 + k) v =
      ((s.setPoint (28 + k) ⟨v, 0, .good, false⟩).feedbackArrival k v, .taken, v) := by
    have hc : s.pointConfigured (.runFeedback k) = true := hu
    have hs : storedValue (.runFeedback k) v = some (v, false) := if_pos hv
    unfold State.takePair
    rw [pointKind_feedbackPoint hk]
    simp only [hc, hs, if_true, State.storeSample_feedback]
    rfl
  unfold State.sample State.takePairs
  simp only [hpair, State.takePairs]
  rfl

/-- A SAMPLE of one run feedback leaves what the arrival brings, and its reply last. -/
theorem exec_sample_feedback {s : State} {tag k v : Nat} (h : s.receptive = true) (hk : k ∈ unitNumbers)
    (hu : (s.unit k).isSome = true) (hv : v < 3) :
    exec (.sample tag [(28 + k, v)]) s = .next
      (((s.setPoint (28 + k) ⟨v, 0, .good, false⟩).feedbackArrival k v).sends
        ⟨0x45, tag, [.u8 0, .u8 1, .u8 (28 + k), .u8 0, .u32 v]⟩) := by
  let r : Request := ⟨tag, .sample [(28 + k, v)]⟩
  have hrx := (State.receptive_parts h).2.1
  have hsample := State.sample_feedback (s := s.withRx [r]) hk hu hv
  have hcomm := State.feedbackArrival_withRx [r] (s.setPoint (28 + k) ⟨v, 0, .good, false⟩) k v
  have hkeep := ((s.setPoint (28 + k) ⟨v, 0, .good, false⟩).feedbackArrival_moved k v).rx
  have hanswer : (s.withRx [r]).answer r.body =
      { state := ((s.setPoint (28 + k) ⟨v, 0, .good, false⟩).feedbackArrival k v).withRx [r], result := .ok
        items := [.u8 1, .u8 (28 + k), .u8 0, .u32 v] } := by
    have hlen : (s.withRx [r]).answer r.body = (s.withRx [r]).sample [(28 + k, v)] :=
      State.answer_sample _ (Nat.le_refl 1) (by simp)
    rw [← hcomm]
    exact hlen.trans hsample
  refine (exec_answered_to (c := .sample tag [(28 + k, v)]) (b := r.body) rfl h (s.held_of_kind rfl) nofun rfl hanswer
    rfl).trans ?_
  rw [State.withRx_withRx, State.withRx_self (hkeep.trans hrx)]
  rfl

theorem State.setPoint_shaped {s : State} (h : s.shaped = true) (p : Nat) (x : Point) :
    (s.setPoint p x).shaped = true := by
  obtain ⟨hp, ht⟩ := s.shaped_iff.mp h
  exact (State.shaped_iff _).mpr ⟨hp.with_smt _, ht.with_smt List.length_set⟩

theorem State.showsStopped_setPoint {s : State} (h : s.shaped = true) {k : Nat} (hk : k ∈ unitNumbers) :
    (s.setPoint (28 + k) ⟨0, 0, .good, false⟩).showsStopped k = true := by
  have hlen : 28 + k < s.smt.length := by
    have := mem_unitNumbers hk
    rw [(s.shaped_iff.mp h).2.points]
    omega
  have hx : (s.setPoint (28 + k) ⟨0, 0, .good, false⟩).point (feedbackPoint k) = ⟨0, 0, .good, false⟩ := by
    simp [State.point, State.setPoint, feedbackPoint, hlen]
  rw [State.showsStopped, hx]
  rfl

/-- Settles O50: each value, by the unit's state, begins a run (`State.feedbackArrival_begins`), trips the unit
(`State.tripUnit_unitTrip`), brings it to rest (`State.feedbackArrival_rests`), or brings nothing. -/
theorem runFeedbackMovesTheUnit : Obligations.RunFeedbackMovesTheUnit := by
  intro tag k v u s hrec hshape hu hv stored reply put timer running trips rests begun rested room
  have hk : k ∈ unitNumbers := (s.shaped_iff.mp hshape).1.unit_number hu
  have hk0 : k ≠ 0 := by have := mem_unitNumbers hk; omega
  have hori := State.shaped_orders hshape
  have hunit : stored.unit k = some u := hu
  refine ⟨stored.feedbackArrival k v, exec_sample_feedback hrec hk (Option.isSome_of_eq_some hu) hv, ?begins, ?runs,
    ?stands, ?trips, ?rests, ?readies, ?others, ?stale⟩
  case begins =>
    rintro ⟨hv1, hs⟩
    rw [hv1, State.feedbackArrival_begins hunit hs, State.setUnit_eq _ hk0]
    rfl
  case runs =>
    rintro ⟨hv1, hs⟩ hsts hm
    rw [hv1, State.feedbackArrival_begins hunit hs]
    obtain ⟨n, h1, h2, h3⟩ := State.begun_runs (s := stored) hk hori hunit hsts hm
    have hmin : countdown u.config.minRun = some u.config.minRun := if_neg (by omega)
    refine ⟨_, h1, ?_, h2, h3⟩
    simp only [Compressor.begun, hmin]
  case stands =>
    rintro ⟨hv1, hs⟩ hsts
    rw [hv1, State.feedbackArrival_begins hunit hs]
    exact State.begun_stands (s := stored) hk hunit hsts
  case trips =>
    intro ht
    rw [State.feedbackArrival_trips hunit ht]
    exact State.tripUnit_unitTrip (State.setPoint_shaped hshape _ _) hunit
  case rests =>
    rintro ⟨hv0, hs⟩ hroom
    have hst : stored.showsStopped k = true := by
      subst hv0
      exact State.showsStopped_setPoint hshape hk
    have hcap : u.state.capable = false := by obtain hs | hs := hs <;> rw [hs] <;> rfl
    rw [hv0, State.feedbackArrival_rests hunit hs hst,
      State.enterResting_stays hunit hcap hroom]
    have hdown := dutyAfter_down (s := stored.setUnit k (some u.resting)) (v := u.resting) Nat.one_ne_zero hk hori
      (State.unit_setUnit _ hunit) rfl nofun
    rw [dutyAfter_one] at hdown ⊢
    refine ⟨hdown.1, ?_⟩
    rw [State.setUnit_eq _ hk0]
    rfl
  case readies =>
    rintro ⟨hv0, hs⟩ hroom
    have hst : stored.showsStopped k = true := by
      subst hv0
      exact State.showsStopped_setPoint hshape hk
    have hcap : u.state.capable = false := by obtain hs | hs := hs <;> rw [hs] <;> rfl
    rw [hv0, State.feedbackArrival_rests hunit hs hst,
      State.enterResting_goes_on hunit hcap hroom, dutyAfter_two, State.setUnit_makePlanDue_eq _ hk0]
    rfl
  case others => exact fun h1 h2 h3 => State.feedbackArrival_else hunit h1 h2 h3
  case stale =>
    intro hs
    have hq : s.feedbackQuality k .stale = s.tripUnit k u .unitTrip := by
      unfold State.feedbackQuality
      rw [hu]
      exact if_pos ⟨rfl, hs⟩
    rw [hq]
    exact State.tripUnit_unitTrip hshape hu

end Sys2Proof.Machine
end

section
/-! The metering second (03 R34 to R42): what MTU chooses, what it puts into each accumulator, and that nothing after it
in the second event touches the meter. -/

open Sys2Proof Sys2Proof.Machine

namespace Sys2Proof.Machine

/-! ### The choice for the ended second (03 R35 to R37) -/

/-- Rate and direction item by item; the second is meter-estimated unless both points are usable. -/
theorem State.meterChoice_eq (s : State) :
    s.meterChoice =
      { rate := if (s.point 0).usable then (s.point 0).value else s.planTarget
        dir := if (s.point 0).usable ∧ (s.point 1).usable then meterDir (s.point 1).value else s.planDir
        estimated := !((s.point 0).usable && (s.point 1).usable) } := by
  unfold State.meterChoice
  by_cases hrate : (s.point 0).usable = true
  · by_cases hdir : (s.point 1).usable = true <;> simp [hrate, hdir]
  · simp [hrate]

/-! ### The accumulators (03 R39, R42) -/

/-- The energy goes to the accumulator of the direction, and with HOLD to none. -/
theorem Meter.addEnergy_eq (m : Meter) (dir : Option Dir) (p : Nat) :
    m.addEnergy dir p =
      { m with injection := if dir = some .inject then m.injection.add p else m.injection
               withdrawal := if dir = some .withdraw then m.withdrawal.add p else m.withdrawal } := by
  obtain _ | _ | _ := dir <;> rfl

/-- The metering unit after the ended second, item by item. -/
theorem State.meterAfter_eq (s : State) :
    s.meterAfter =
      { injection := if s.meterChoice.dir = some .inject then
            s.mtu.injection.add (s.meterChoice.rate * s.calorific) else s.mtu.injection
        withdrawal := if s.meterChoice.dir = some .withdraw then
            s.mtu.withdrawal.add (s.meterChoice.rate * s.calorific) else s.mtu.withdrawal
        use := s.mtu.use.add ((s.fuelRate + s.drc.rate) * s.calorific)
        fuel := s.mtu.fuel.add (s.fuelRate * s.calorific)
        regen := s.mtu.regen.add (s.drc.rate * s.calorific)
        estimated := if s.meterChoice.estimated then satAdd 65535 s.mtu.estimated 1 else s.mtu.estimated
        cvDefault := if (s.point 2).usable then s.mtu.cvDefault else satAdd 65535 s.mtu.cvDefault 1 } := by
  unfold State.meterAfter
  dsimp only
  rw [Meter.addEnergy_eq]
  rfl

/-! ### The meter in the second event (log 4) -/

/-- CVC, CDU and DRC leave the meter. -/
theorem PlantMoved.mtu {s t : State} (h : PlantMoved s t) : t.mtu = s.mtu := congrArg (fun x => x.mtu) h.rest

/-- MTU acts on what the event found: the clock's second before it touches nothing that it reads. -/
theorem State.clockSecond_meterSecond_mtu (s : State) :
    s.clockSecond.meterSecond.mtu = if s.sts.state = .blank then s.mtu else s.meterAfter := by
  unfold State.meterSecond
  by_cases h : s.sts.state = .blank
  · rw [if_pos h, if_pos (show s.clockSecond.sts.state = .blank from h)]
    rfl
  · rw [if_neg h, if_neg (show ¬ s.clockSecond.sts.state = .blank from h)]
    rfl

theorem State.agePoints_mtu (s : State) : s.agePoints.mtu = s.mtu := (s.gradeAll_plant _).mtu

theorem State.statusSecond_mtu (s : State) : s.statusSecond.mtu = s.mtu := by rw [State.statusSecond_eq]

/-- After MTU no block of the second event touches the meter. -/
theorem State.second_mtu (s : State) : s.second.mtu = if s.sts.state = .blank then s.mtu else s.meterAfter := by
  rw [State.second_eq, State.agePoints_mtu, State.statusSecond_mtu, (State.plantSecond_plant _).mtu,
    State.clockSecond_meterSecond_mtu]

/-- Settles O27: the meter of the second event is the one MTU forms (`State.second_mtu`), with the choices of R35 to
R37 as the manual words them. -/
theorem secondIntegratesTheMeter : Obligations.SecondIntegratesTheMeter := by
  intro s hq
  refine ⟨s.second, congrArg Host.Outcome.next (external_of_quiet hq _), ?_⟩
  rw [State.second_mtu, State.meterAfter_eq, State.meterChoice_eq]
  have hest : ∀ n : Nat, (if (!((s.point 0).usable && (s.point 1).usable)) = true then satAdd 65535 n 1 else n) =
      if (s.point 0).usable = true ∧ (s.point 1).usable = true then n else min 65535 (n + 1) := by
    intro n
    cases (s.point 0).usable <;> cases (s.point 1).usable <;> rfl
  dsimp only
  rw [hest]
  rfl

end Sys2Proof.Machine
end

section
/-! CVC's operations do not read CDU: they commute with a change of it, so the gas-day rollover may zero the trip counts
before the caps are formed again (01 R2, 07 R123, 08 R142). -/

open Sys2Proof Sys2Proof.Machine

namespace Sys2Proof.Machine

/-- The state with another CDU. -/
def State.withCdu (s : State) (x : Duty) : State := { s with cdu := x }

variable (x : Duty)

theorem State.withCdu_ite (p : Prop) [Decidable p] (a b : State) :
    (if p then a.withCdu x else b.withCdu x) = (if p then a else b).withCdu x :=
  (apply_ite (State.withCdu · x) p a b).symm

theorem State.forEach_withCdu {f : State → Nat → State} (h : ∀ u n, f (u.withCdu x) n = (f u n).withCdu x)
    (ns : List Nat) (s : State) : (s.withCdu x).forEach ns f = (s.forEach ns f).withCdu x := by
  induction ns generalizing s with
  | nil => rfl
  | cons n ns ih => exact (congrArg (fun u => State.forEach u ns f) (h s n)).trans (ih _)

/-! ### Alerts and orders (11 R175 to R178) -/

theorem State.offerReport_withCdu (s : State) (r : Record) :
    (s.withCdu x).offerReport r = (s.offerReport r).withCdu x := by
  have hdrop : (s.withCdu x).noteDropped = s.noteDropped.withCdu x :=
    State.withCdu_ite x ((s.alert .reportsDropped).reports = true)
      ((s.recordAlert .reportsDropped 0).recordAlert .reportsDropped 0) (s.recordAlert .reportsDropped 0)
  unfold State.offerReport
  rw [hdrop]
  exact State.withCdu_ite x (s.occupancy < 28) (s.pushRecord r) s.noteDropped

theorem State.raise_withCdu (s : State) (k : AlertKind) (o : Nat) :
    (s.withCdu x).raise k o = (s.raise k o).withCdu x := by
  have e := State.withCdu_ite x ((s.alert k).reports = true)
    ((s.recordAlert k o).offerReport ((s.recordAlert k o).alertReport k)) (s.recordAlert k o)
  rw [← State.offerReport_withCdu] at e
  exact e

theorem State.writeOrder_withCdu (s : State) (i : Nat) (v : OrderValue) :
    (s.withCdu x).writeOrder i v = (s.writeOrder i v).withCdu x := by
  have hoffer : ∀ u : State, (u.withCdu x).offerOrder i = (u.offerOrder i).withCdu x := by
    intro u
    have hord : (u.withCdu x).order i = u.order i := rfl
    unfold State.offerOrder
    rw [hord]
    cases u.order i with
    | none => rfl
    | some e =>
      exact State.withCdu_ite x (u.occupancy < 38)
        { u.pushRecord (orderReport i e) with ori := setNth u.ori i { e with unsent := false } }
        { u with ori := setNth u.ori i { e with unsent := true } }
  have hord : (s.withCdu x).order i = s.order i := rfl
  unfold State.writeOrder
  rw [hord]
  cases s.order i with
  | none => rfl
  | some e => exact hoffer { s with ori := setNth s.ori i { e with value := v, second := s.clk.stationSeconds } }

theorem State.writeRate_withCdu (s : State) (j n : Nat) :
    (s.withCdu x).writeRate j n = (s.writeRate j n).withCdu x := by
  have hord : (s.withCdu x).order (rateActuator j) = s.order (rateActuator j) := rfl
  unfold State.writeRate State.writeOrderIfNew
  rw [hord]
  cases s.order (rateActuator j) with
  | none => rfl
  | some e =>
    dsimp only
    rw [State.writeOrder_withCdu]
    exact State.withCdu_ite x _ _ _

/-! ### Flow changes of a cavern (07 R108 to R111, R120) -/

theorem State.modCavern_withCdu (s : State) (j : Nat) (f : Cavern → Cavern) :
    (s.withCdu x).modCavern j f = (s.modCavern j f).withCdu x := by
  have hcav : (s.withCdu x).cavern j = s.cavern j := rfl
  unfold State.modCavern
  rw [hcav]
  cases s.cavern j <;> rfl

theorem State.writeValve_withCdu (s : State) (j : Nat) (v : Valve) :
    (s.withCdu x).writeValve j v = (s.writeValve j v).withCdu x := by
  unfold State.writeValve
  rw [State.writeOrder_withCdu, State.modCavern_withCdu]
  exact State.withCdu_ite x _ _ _

theorem State.enterSettling_withCdu (s : State) (j : Nat) :
    (s.withCdu x).enterSettling j = (s.enterSettling j).withCdu x := by
  unfold State.enterSettling State.shutCavern
  rw [State.writeValve_withCdu, State.writeRate_withCdu, State.modCavern_withCdu, State.modCavern_withCdu]
  rfl

theorem State.orderFlow_withCdu (s : State) (j : Nat) (d : Dir) (share : Nat) :
    (s.withCdu x).orderFlow j d share = (s.orderFlow j d share).withCdu x := by
  unfold State.orderFlow
  rw [State.modCavern_withCdu, State.writeValve_withCdu, State.writeRate_withCdu]

theorem State.enterFlow_withCdu (s : State) (j : Nat) (c : Cavern) (d : Dir) (share : Nat) :
    (s.withCdu x).enterFlow j c d share = (s.enterFlow j c d share).withCdu x := by
  unfold State.enterFlow
  dsimp only
  rw [State.modCavern_withCdu, State.raise_withCdu, State.withCdu_ite, State.modCavern_withCdu,
    State.orderFlow_withCdu]
  rfl

theorem State.reenterFlow_withCdu (s : State) (j : Nat) (d : Dir) (share : Nat) :
    (s.withCdu x).reenterFlow j d share = (s.reenterFlow j d share).withCdu x := by
  unfold State.reenterFlow
  rw [State.modCavern_withCdu, State.orderFlow_withCdu]
  rfl

theorem State.adjustFlow_withCdu (s : State) (j : Nat) (c : Cavern) (d : Dir) (share : Nat) :
    (s.withCdu x).adjustFlow j c d share = (s.adjustFlow j c d share).withCdu x := by
  unfold State.adjustFlow
  dsimp only
  rw [State.modCavern_withCdu, State.writeRate_withCdu]
  exact State.withCdu_ite x _ _ _

/-! ### The split and the caps (07 R118 to R120) -/

theorem State.applyShare_withCdu (s : State) (j share : Nat) :
    (s.withCdu x).applyShare j share = (s.applyShare j share).withCdu x := by
  have hcav : (s.withCdu x).cavern j = s.cavern j := rfl
  have hdir : (s.withCdu x).planDir = s.planDir := rfl
  unfold State.applyShare
  rw [hcav, hdir]
  cases s.cavern j with
  | none => rfl
  | some c =>
    cases s.planDir with
    | none => simp only [State.enterSettling_withCdu, State.withCdu_ite]
    | some d =>
      simp only [State.enterSettling_withCdu, State.adjustFlow_withCdu, State.enterFlow_withCdu,
        State.reenterFlow_withCdu, State.withCdu_ite]

theorem State.runSplit_withCdu (s : State) : (s.withCdu x).runSplit = s.runSplit.withCdu x :=
  State.forEach_withCdu x (fun u j => u.applyShare_withCdu x j _) cavernNumbers s

theorem State.formCaps_withCdu (s : State) (j : Nat) :
    (s.withCdu x).formCaps j = ((s.formCaps j).1.withCdu x, (s.formCaps j).2) := by
  have hcav : (s.withCdu x).cavern j = s.cavern j := rfl
  have hcap : ∀ c d, (s.withCdu x).formCap j c d = s.formCap j c d := fun _ _ => rfl
  have hdir : (s.withCdu x).planDir = s.planDir := rfl
  have hset : ∀ c, (s.withCdu x).setCavern j c = (s.setCavern j c).withCdu x := fun _ => rfl
  have hdue : ∀ u : State, (u.withCdu x).makePlanDue = u.makePlanDue.withCdu x := fun _ => rfl
  unfold State.formCaps
  rw [hcav]
  cases s.cavern j with
  | none => rfl
  | some c => simp only [hcap, hdir, hset, hdue, State.withCdu_ite]

theorem State.formAllCaps_withCdu (s : State) :
    (s.withCdu x).formAllCaps = (s.formAllCaps.1.withCdu x, s.formAllCaps.2) := by
  have key : ∀ (ns : List Nat) (acc : State × Bool),
      ns.foldl (fun (acc : State × Bool) j =>
        let (s', ch) := acc.1.formCaps j
        (s', acc.2 || ch)) (acc.1.withCdu x, acc.2) =
      (fun r : State × Bool => (r.1.withCdu x, r.2)) (ns.foldl (fun (acc : State × Bool) j =>
        let (s', ch) := acc.1.formCaps j
        (s', acc.2 || ch)) acc) := by
    intro ns
    induction ns with
    | nil => exact fun _ => rfl
    | cons n ns ih =>
      intro acc
      have hn := acc.1.formCaps_withCdu x n
      have hrest := ih ((acc.1.formCaps n).1, acc.2 || (acc.1.formCaps n).2)
      refine Eq.trans ?_ hrest
      simp only [List.foldl_cons, hn]
  exact key cavernNumbers (s, false)

theorem settleCaps_withCdu (n : Nat) (s : State) : settleCaps n (s.withCdu x) = (settleCaps n s).withCdu x := by
  induction n generalizing s with
  | zero =>
    unfold settleCaps
    rw [State.formAllCaps_withCdu]
  | succ n ih =>
    unfold settleCaps
    rw [State.formAllCaps_withCdu]
    cases s.formAllCaps with
    | mk s' changed =>
      have hsts : (s'.withCdu x).sts = s'.sts := rfl
      dsimp only
      rw [State.runSplit_withCdu, ih, hsts, State.withCdu_ite]

theorem State.cavernsChanged_withCdu (s : State) :
    (s.withCdu x).cavernsChanged = s.cavernsChanged.withCdu x := settleCaps_withCdu x 8 s

end Sys2Proof.Machine
end

section
/-! What the splits of one event leave of a cavern (07 R109 to R111, R119, R120): its volumes, its remainders and its
book stand, and at most one new reversal is counted, since the direction of the plan does not change within the event. -/

open Sys2Proof Sys2Proof.Machine

namespace Sys2Proof.Machine

/-! ### A cavern directed by the plan -/

/-- `c'` follows `c` under plan direction `p`: what it has metered stands, it flowed last as `c` did or as the plan
directs, and a reversal is counted at most once, for a turn into the plan direction. -/
structure Directed (p : Option Dir) (c c' : Cavern) : Prop where
  volumes : (c'.volInject, c'.volWithdraw) = (c.volInject, c.volWithdraw)
  remainders : (c'.qInject, c'.qWithdraw) = (c.qInject, c.qWithdraw)
  booked : c'.booked = c.booked
  turns : (c'.reversals = c.reversals ∧ (c'.lastDir = c.lastDir ∨ c'.lastDir = p)) ∨
    (c'.reversals = c.reversals + 1 ∧ c'.lastDir = p ∧ c.lastDir ≠ p)

theorem Directed.of_same {p : Option Dir} {c c' : Cavern}
    (hv : (c'.volInject, c'.volWithdraw) = (c.volInject, c.volWithdraw))
    (hq : (c'.qInject, c'.qWithdraw) = (c.qInject, c.qWithdraw)) (hb : c'.booked = c.booked)
    (hr : c'.reversals = c.reversals) (hl : c'.lastDir = c.lastDir) : Directed p c c' :=
  ⟨hv, hq, hb, .inl ⟨hr, .inl hl⟩⟩

theorem Directed.refl (p : Option Dir) (c : Cavern) : Directed p c c := .of_same rfl rfl rfl rfl rfl

/-- A cavern that has turned into the plan direction does not turn again. -/
theorem Directed.trans {p : Option Dir} {a b c : Cavern} (h1 : Directed p a b) (h2 : Directed p b c) :
    Directed p a c := by
  refine ⟨h2.volumes.trans h1.volumes, h2.remainders.trans h1.remainders, h2.booked.trans h1.booked, ?_⟩
  obtain ⟨hr1, hl1⟩ | ⟨hr1, hl1, hn1⟩ := h1.turns <;> obtain ⟨hr2, hl2⟩ | ⟨hr2, hl2, hn2⟩ := h2.turns
  · refine .inl ⟨hr2.trans hr1, ?_⟩
    obtain hl2 | hl2 := hl2
    · rwa [hl2]
    · exact .inr hl2
  · refine .inr ⟨by omega, hl2, ?_⟩
    rwa [hl1.resolve_right hn2] at hn2
  · refine .inr ⟨by omega, ?_, hn1⟩
    exact hl2.elim (fun e => e.trans hl1) id
  · exact absurd hl1 hn2

/-- The new state of an entry from IDLE to flow in the plan direction (R109). -/
theorem Directed.entered (c : Cavern) (d : Dir) (st : CavernState) (full empty : Bool) :
    Directed (some d) c
      { c with reversals := if c.lastDir == some (opposite d) then c.reversals + 1 else c.reversals
               lastDir := some d, state := st, full := full, empty := empty } := by
  refine ⟨rfl, rfl, rfl, ?_⟩
  by_cases h : c.lastDir = some (opposite d)
  · refine .inr ⟨by simp [h], rfl, ?_⟩
    rw [h]
    cases d <;> decide
  · exact .inl ⟨by simp [h], .inr rfl⟩

/-! ### CVC's operations under one plan -/

/-- The plan direction stands, and every configured cavern of `t` follows the one of `s` under it. -/
structure FlowMoved (s t : State) : Prop where
  plan : t.planDir = s.planDir
  caverns : ∀ j c, s.cavern j = some c → ∃ c', t.cavern j = some c' ∧ Directed s.planDir c c'

theorem FlowMoved.of_cvc {s t : State} (hp : t.planDir = s.planDir) (hc : t.cvc = s.cvc) : FlowMoved s t :=
  ⟨hp, fun j c h => ⟨c, (State.cavern_congr hc j).trans h, .refl _ c⟩⟩

theorem FlowMoved.refl (s : State) : FlowMoved s s := .of_cvc rfl rfl

theorem FlowMoved.trans {s t u : State} (h1 : FlowMoved s t) (h2 : FlowMoved t u) : FlowMoved s u := by
  refine ⟨h2.plan.trans h1.plan, fun j c h => ?_⟩
  obtain ⟨b, hb, d1⟩ := h1.caverns j c h
  obtain ⟨a, ha, d2⟩ := h2.caverns j b hb
  exact ⟨a, ha, d1.trans (h1.plan ▸ d2)⟩

theorem FlowMoved.ite {s a b : State} {p : Prop} [Decidable p] (h1 : FlowMoved s a) (h2 : FlowMoved s b) :
    FlowMoved s (if p then a else b) := by split <;> assumption

theorem Ordered.flowMoved {s t : State} (h : Ordered s t) : FlowMoved s t :=
  .of_cvc (congrArg State.planDir h.rest :) (congrArg State.cvc h.rest :)

theorem Reported.flowMoved {s t : State} (h : Reported s t) : FlowMoved s t :=
  .of_cvc (congrArg State.planDir h.rest :) (congrArg State.cvc h.rest :)

theorem State.makePlanDue_flowMoved (s : State) : FlowMoved s s.makePlanDue := .of_cvc rfl rfl

theorem State.planDir_modCavern (s : State) (j : Nat) (f : Cavern → Cavern) :
    (s.modCavern j f).planDir = s.planDir := by
  unfold State.planDir
  rw [(s.modCavern_moved j f).plant.planRecord]

theorem State.setCavern_flowMoved {s : State} {j : Nat} {c x : Cavern} (h : s.cavern j = some c)
    (hx : Directed s.planDir c x) : FlowMoved s (s.setCavern j (some x)) := by
  refine ⟨rfl, fun i a ha => ?_⟩
  by_cases hi : i = j
  · subst hi
    obtain rfl : c = a := Option.some.inj (h.symm.trans ha)
    exact ⟨x, State.cavern_setCavern _ h, hx⟩
  · exact ⟨a, (s.cavern_setCavern_of_ne _ hi).trans ha, .refl _ a⟩

theorem State.modCavern_flowMoved (s : State) (j : Nat) {f : Cavern → Cavern}
    (hf : ∀ c, Directed s.planDir c (f c)) : FlowMoved s (s.modCavern j f) := by
  obtain ⟨c, h, e⟩ | ⟨_, e⟩ := s.modCavern_eq j f <;> rw [e]
  · exact State.setCavern_flowMoved h (hf c)
  · exact .refl s

theorem State.writeValve_flowMoved (s : State) (j : Nat) (v : Valve) : FlowMoved s (s.writeValve j v) :=
  .ite (.refl s) ((s.writeOrder_ordered _ _).flowMoved.trans
    (State.modCavern_flowMoved _ j (fun _ => .of_same rfl rfl rfl rfl rfl)))

theorem State.shutCavern_flowMoved (s : State) (j : Nat) : FlowMoved s (s.shutCavern j) := by
  refine ((s.writeValve_flowMoved j .shut).trans (State.writeRate_ordered _ j 0).flowMoved).trans ?_
  exact State.modCavern_flowMoved _ j (fun _ => .of_same rfl rfl rfl rfl rfl)

theorem State.enterSettling_flowMoved (s : State) (j : Nat) : FlowMoved s (s.enterSettling j) := by
  have hsettle : ∀ p c, Directed p c (if c.config.settleTime = 0 then { c with state := .idle, settle := none }
      else { c with state := .settling, settle := some (c.config.settleTime * 60) }) := by
    intro p c
    split <;> exact .of_same rfl rfl rfl rfl rfl
  refine ((s.shutCavern_flowMoved j).trans ?_).trans (State.makePlanDue_flowMoved _)
  exact State.modCavern_flowMoved _ j (hsettle _)

theorem State.orderFlow_flowMoved (s : State) (j : Nat) (d : Dir) (share : Nat) :
    FlowMoved s (s.orderFlow j d share) := by
  refine .trans (.trans ?_ (State.writeValve_flowMoved _ j _)) (State.writeRate_ordered _ j share).flowMoved
  exact s.modCavern_flowMoved j (fun _ => .of_same rfl rfl rfl rfl rfl)

theorem State.enterFlow_flowMoved {s : State} {j : Nat} {c : Cavern} {d : Dir} (h : s.cavern j = some c)
    (hd : s.planDir = some d) (share : Nat) : FlowMoved s (s.enterFlow j c d share) := by
  unfold State.enterFlow
  dsimp only
  refine .trans (.trans ?_ (State.orderFlow_flowMoved _ j d share)) (State.makePlanDue_flowMoved _)
  generalize hn : (if c.lastDir == some (opposite d) then c.reversals + 1 else c.reversals) = n
  generalize hu : s.modCavern j (fun c => { c with reversals := n }) = u
  have hcount : u.cavern j = some { c with reversals := n } := hu ▸ State.cavern_modCavern _ h
  have hothers : ∀ i, i ≠ j → u.cavern i = s.cavern i := fun i hi => hu ▸ s.cavern_modCavern_of_ne _ hi
  generalize hw : (if (c.lastDir == some (opposite d) && n == c.config.maxReversals) = true then
    u.raise .reversalLimit j else u) = w
  have hraise : Reported u w := hw ▸ .ite (u.raise_reported _ _) (.refl u)
  have hcav : ∀ i, w.cavern i = u.cavern i := State.cavern_congr (congrArg State.cvc hraise.rest :)
  refine ⟨?_, fun i a ha => ?_⟩
  · rw [State.planDir_modCavern, hraise.flowMoved.plan, ← hu, State.planDir_modCavern]
  · by_cases hi : i = j
    · subst hi
      obtain rfl : c = a := Option.some.inj (h.symm.trans ha)
      refine ⟨_, State.cavern_modCavern _ ((hcav i).trans hcount), ?_⟩
      rw [hd, ← hn]
      exact Directed.entered c d _ _ _
    · exact ⟨a, (w.cavern_modCavern_of_ne _ hi).trans ((hcav i).trans ((hothers i hi).trans ha)), .refl _ a⟩

theorem State.reenterFlow_flowMoved (s : State) (j : Nat) (d : Dir) (share : Nat) :
    FlowMoved s (s.reenterFlow j d share) := by
  refine .trans (.trans ?_ (State.orderFlow_flowMoved _ j d share)) (State.makePlanDue_flowMoved _)
  exact s.modCavern_flowMoved j (fun _ => .of_same rfl rfl rfl rfl rfl)

theorem State.adjustFlow_flowMoved (s : State) (j : Nat) (c : Cavern) (d : Dir) (share : Nat) :
    FlowMoved s (s.adjustFlow j c d share) := by
  have hset : FlowMoved s (s.modCavern j (fun c => { c with setPoint := share })) :=
    s.modCavern_flowMoved j (fun _ => .of_same rfl rfl rfl rfl rfl)
  exact .ite (hset.trans (State.writeRate_ordered _ j share).flowMoved) hset

theorem State.applyShare_flowMoved (s : State) (j share : Nat) : FlowMoved s (s.applyShare j share) := by
  unfold State.applyShare
  cases hc : s.cavern j with
  | none => exact .refl s
  | some c =>
    cases hd : s.planDir with
    | none => exact .ite (.ite (s.enterSettling_flowMoved j) (.refl s)) (.ite (.refl s) (.refl s))
    | some d =>
      exact .ite (.ite (s.enterSettling_flowMoved j) (.ite (s.adjustFlow_flowMoved j c d _) (.refl s)))
        (.ite (.refl s) (.ite (State.enterFlow_flowMoved hc hd _) (.ite (s.reenterFlow_flowMoved j d _) (.refl s))))

theorem State.runSplit_flowMoved (s : State) : FlowMoved s s.runSplit :=
  State.forEach_induct (P := FlowMoved s) (.refl s) (fun u j _ h => h.trans (u.applyShare_flowMoved j _))

theorem State.formCaps_flowMoved (s : State) (j : Nat) : FlowMoved s (s.formCaps j).1 := by
  cases h : s.cavern j with
  | none => simp only [State.formCaps, h]; exact .refl s
  | some c =>
    have hset : FlowMoved s (s.setCavern j (some (s.capsFormed j c))) :=
      State.setCavern_flowMoved h (.of_same rfl rfl rfl rfl rfl)
    obtain e | e := State.formCaps_eq h <;> rw [e]
    · exact hset
    · exact hset.trans (State.makePlanDue_flowMoved _)

theorem State.formAllCaps_flowMoved (s : State) : FlowMoved s s.formAllCaps.1 :=
  State.formAllCaps_keeps (P := FlowMoved s) (fun u j _ h => h.trans (u.formCaps_flowMoved j)) (.refl s)

theorem settleCaps_flowMoved (n : Nat) (s : State) : FlowMoved s (settleCaps n s) := by
  induction n generalizing s with
  | zero => exact s.formAllCaps_flowMoved
  | succ n ih =>
    have h := s.formAllCaps_flowMoved
    unfold settleCaps
    cases hx : s.formAllCaps with
    | mk s' changed =>
      rw [hx] at h
      exact .ite ((FlowMoved.trans h s'.runSplit_flowMoved).trans (ih _)) h

/-- However many splits an event brings (log 14), each cavern follows under the one plan direction. -/
theorem State.cavernsChanged_flowMoved (s : State) : FlowMoved s s.cavernsChanged := settleCaps_flowMoved 8 s

end Sys2Proof.Machine
end

section
/-! HOUR_BOUNDARY (03 R43, 07 R122, R123, 08 R142, 01 R2): the records of a table changed all at once, the hand-over of
the ended hour, and the gas-day rollover. -/

open Sys2Proof Sys2Proof.Machine

namespace Sys2Proof.Machine

/-! ### Every cavern and every unit changed -/

/-- Changing a configured record by its number is modifying the table there. -/
theorem modify_map_some {α : Type} (l : List (Option α)) (n : Nat) (f : α → α) :
    l.modify n (Option.map f) = match (nth l (n + 1)).join with
      | some c => setNth l (n + 1) (some (f c))
      | none => l := by
  simp only [nth_succ, setNth_succ]
  refine List.ext_getElem? (fun i => ?_)
  rw [List.getElem?_modify]
  by_cases hi : n = i
  · subst hi
    obtain hl | ⟨_ | c, hl⟩ : l[n]? = none ∨ ∃ o, l[n]? = some o := by cases l[n]? <;> simp
    · simp [hl]
    · simp [hl]
    · simp [hl, List.getElem?_set_self']
  · cases (l[n]?).join <;> simp [hi]

theorem State.modCavern_modify (s : State) (j : Nat) (f : Cavern → Cavern) :
    s.modCavern (j + 1) f = { s with cvc := s.cvc.modify j (Option.map f) } := by
  rw [modify_map_some]
  unfold State.modCavern State.cavern State.setCavern
  cases (nth s.cvc (j + 1)).join <;> rfl

theorem State.modUnit_modify (s : State) (k : Nat) (f : Compressor → Compressor) :
    s.modUnit (k + 1) f = { s with cdu := { s.cdu with units := s.cdu.units.modify k (Option.map f) } } := by
  rw [modify_map_some]
  unfold State.modUnit State.unit State.setUnit
  cases (nth s.cdu.units (k + 1)).join <;> rfl

theorem getElem?_foldl_modify {α : Type} (g : α → α) {ns : List Nat} (hd : ns.Nodup) (l : List α) (i : Nat) :
    (ns.foldl (fun l n => l.modify n g) l)[i]? = if i ∈ ns then l[i]?.map g else l[i]? := by
  induction ns generalizing l with
  | nil => rfl
  | cons n ns ih =>
    obtain ⟨hn, hd⟩ := List.nodup_cons.mp hd
    rw [List.foldl_cons, ih hd, List.getElem?_modify]
    by_cases hi : n = i
    · subst hi
      simp [hn]
    · simp [hi, Ne.symm hi]

/-- Modifying each place in turn is a change of the whole list. -/
theorem foldl_modify_range {α : Type} (g : α → α) (l : List α) :
    (List.range l.length).foldl (fun l n => l.modify n g) l = l.map g := by
  refine List.ext_getElem? (fun i => ?_)
  rw [getElem?_foldl_modify g List.nodup_range, List.getElem?_map]
  by_cases hi : i < l.length
  · rw [if_pos (List.mem_range.mpr hi)]
  · rw [if_neg (fun hm => hi (List.mem_range.mp hm)), List.getElem?_eq_none (Nat.le_of_not_lt hi)]
    rfl

/-- A change of each cavern in turn is a change of CVC's whole table. -/
theorem State.forEach_modCavern {s : State} (h : s.cvc.length = 8) (f : Cavern → Cavern) :
    s.forEach cavernNumbers (fun s j => s.modCavern j f) = { s with cvc := s.cvc.map (·.map f) } := by
  rw [← foldl_modify_range, h]
  simp only [cavernNumbers, State.forEach_cons, State.forEach_nil, State.modCavern_modify]
  rfl

theorem State.forEach_modUnit {s : State} (h : s.cdu.units.length = 6) (f : Compressor → Compressor) :
    s.forEach unitNumbers (fun s k => s.modUnit k f) =
      { s with cdu := { s.cdu with units := s.cdu.units.map (·.map f) } } := by
  rw [← foldl_modify_range, h]
  simp only [unitNumbers, State.forEach_cons, State.forEach_nil, State.modUnit_modify]
  rfl

/-! ### The hand-over (03 R43, 07 R122) -/

/-- The state whose hour is handed over: the hand-over joins the waiting ones (log 20). -/
def State.handedOver (s : State) : State :=
  { s with hcu := { s.hcu with handOvers := s.hcu.handOvers ++ [s.handOver s.endedHour] }
           mtu := s.mtu.newHour
           cvc := s.cvc.map (·.map (fun c => { c with volInject := 0, volWithdraw := 0 })) }

theorem State.zeroVolumes_eq {s : State} (h : s.cvc.length = 8) :
    s.zeroVolumes = { s with cvc := s.cvc.map (·.map (fun c => { c with volInject := 0, volWithdraw := 0 })) } := by
  unfold State.zeroVolumes
  rw [State.forEach_modCavern h]

theorem State.handHour_eq {s : State} (h : s.cvc.length = 8) :
    s.handHour = if s.sts.state = .blank then s else s.handedOver := by
  unfold State.handHour State.isBlank
  simp only [beq_iff_eq]
  by_cases hb : s.sts.state = .blank
  · rw [if_pos hb, if_pos hb]
  · rw [if_neg hb, if_neg hb, State.zeroVolumes_eq]
    · rfl
    · exact h

/-- A hand-over touches HCU's waiting list, the meter and CVC alone. -/
theorem State.handHour_rest {s : State} (h : s.cvc.length = 8) :
    { s.handHour with hcu := s.hcu, mtu := s.mtu, cvc := s.cvc } = s := by
  rw [State.handHour_eq h]
  split <;> rfl

/-- The hour volumes of a cavern return to 0 with the hand-over; its remainders, its book and its last direction
stand. -/
structure VolumesHanded (blank : Prop) (c c' : Cavern) : Prop where
  volumes : ¬ blank → c'.volInject = 0 ∧ c'.volWithdraw = 0
  remainders : (c'.qInject, c'.qWithdraw) = (c.qInject, c.qWithdraw)
  booked : c'.booked = c.booked
  lastDir : c'.lastDir = c.lastDir

theorem State.volumesHanded {s : State} {j : Nat} (hj : j ∈ cavernNumbers) {c : Cavern} (h : s.cavern j = some c) :
    ∃ c', s.handHour.cavern j = some c' ∧ VolumesHanded (s.sts.state = .blank) c c' := by
  unfold State.handHour State.isBlank
  simp only [beq_iff_eq]
  by_cases hb : s.sts.state = .blank
  · rw [if_pos hb]
    exact ⟨c, h, fun hn => absurd hb hn, rfl, rfl, rfl⟩
  · rw [if_neg hb]
    refine ⟨_, (State.cavern_forEach_modCavern _ _ hj).trans (congrArg (Option.map _) h), ?_⟩
    exact ⟨fun _ => ⟨rfl, rfl⟩, rfl, rfl, rfl⟩

/-! ### The gas-day rollover (07 R123, 08 R142) -/

/-- The state with every reversal count and every trip count at 0. -/
def State.countsZeroed (s : State) : State :=
  { s with cvc := s.cvc.map (·.map (fun c => { c with reversals := 0 }))
           cdu := { s.cdu with units := s.cdu.units.map (·.map (fun u => { u with trips := 0 })) } }

/-- The rollover zeroes both kinds of count, and then the caps formed again bring what they bring: they do not read
the trip counts. -/
theorem State.gasDayRollover_eq {s : State} (hc : s.cvc.length = 8) (hu : s.cdu.units.length = 6) :
    s.gasDayRollover = s.countsZeroed.cavernsChanged := by
  unfold State.gasDayRollover State.cavernRollover
  rw [State.forEach_modCavern hc]
  generalize hv : ({ s with cvc := s.cvc.map (·.map (fun c => { c with reversals := 0 })) } : State) = v
  have hcdu : v.cavernsChanged.cdu = s.cdu := v.cavernsChanged_moved.cdu.trans (by rw [← hv])
  have hz : s.countsZeroed =
      v.withCdu { s.cdu with units := s.cdu.units.map (·.map (fun u => { u with trips := 0 })) } := by
    rw [← hv]
    rfl
  rw [hz, State.cavernsChanged_withCdu]
  generalize v.cavernsChanged = w at hcdu
  unfold State.unitRollover
  rw [State.forEach_modUnit (by rw [hcdu, hu]), hcdu]
  rfl

theorem State.cavern_countsZeroed {s : State} {j : Nat} {c : Cavern} (h : s.cavern j = some c) :
    s.countsZeroed.cavern j = some { c with reversals := 0 } := by
  refine (nth_join_map _ s.cvc j).trans ?_
  rw [show (nth s.cvc j).join = some c from h]
  rfl

/-- What the metering and the books hold of a cavern stands, and its reversal count is 0, or, while RUNNING, 1 for a
turn out of the direction in which it flowed last. -/
structure RolledOver (running : Prop) (c c' : Cavern) : Prop where
  volumes : (c'.volInject, c'.volWithdraw) = (c.volInject, c.volWithdraw)
  remainders : (c'.qInject, c'.qWithdraw) = (c.qInject, c.qWithdraw)
  booked : c'.booked = c.booked
  still : ¬ running → c'.reversals = 0
  turns : c'.reversals ≤ 1
  turned : c'.reversals = 1 → c'.lastDir ≠ c.lastDir

theorem State.rolledOver {s : State} {j : Nat} (hj : j ∈ cavernNumbers) {c : Cavern} (h : s.cavern j = some c) :
    ∃ c', s.countsZeroed.cavernsChanged.cavern j = some c' ∧ RolledOver (s.sts.state = .running) c c' := by
  have hzero := State.cavern_countsZeroed h
  obtain ⟨c', hc', hdir⟩ := s.countsZeroed.cavernsChanged_flowMoved.caverns j _ hzero
  refine ⟨c', hc', hdir.volumes, hdir.remainders, hdir.booked, fun hrun => ?_, ?_, fun hone => ?_⟩
  · rw [State.cavernsChanged_of_not_running (s := s.countsZeroed) hrun, State.cavern_formAllCaps _ hj, hzero] at hc'
    obtain rfl := Option.some.inj hc'
    rfl
  · obtain ⟨hr, _⟩ | ⟨hr, _⟩ := hdir.turns
    · exact hr ▸ Nat.zero_le 1
    · exact hr ▸ Nat.le_refl 1
  · obtain ⟨hr, _⟩ | ⟨_, hl, hne⟩ := hdir.turns
    · exact absurd (hr.symm.trans hone) Nat.zero_ne_one
    · rw [hl]
      exact hne.symm

/-! ### The boundary (01 R2, R4) -/

/-- The state at a boundary that is taken: the mark and the trim sum cleared. -/
def State.boundaryTaken (s : State) : State := { s with clk := { s.clk with boundaryDue := false, trimSum := 0 } }

theorem stepBoundary_of_due {s : State} (h : s.clk.boundaryDue = true) :
    stepBoundary s =
      if s.clk.second = 0 then s.boundaryTaken.handHour.gasDayRollover else s.boundaryTaken.handHour :=
  if_pos h

/-- What a boundary leaves when it hands the hour over: CDU, and every block that is not CLK, HCU, MTU or CVC. -/
theorem State.boundaryTaken_handHour_kept {s : State} (h : s.cvc.length = 8) {u : State}
    (hu : s.boundaryTaken.handHour = u) :
    u.cdu = s.cdu ∧
    (u.sts, u.sns, u.cfg, u.smt, u.act, u.nst, u.drc, u.plu.record, u.plu.eval, u.slk.rx) =
      (s.sts, s.sns, s.cfg, s.smt, s.act, s.nst, s.drc, s.plu.record, s.plu.eval, s.slk.rx) := by
  have hrest := s.boundaryTaken.handHour_rest h
  rw [hu] at hrest
  exact ⟨(congrArg State.cdu hrest :), (congrArg (fun x : State =>
    (x.sts, x.sns, x.cfg, x.smt, x.act, x.nst, x.drc, x.plu.record, x.plu.eval, x.slk.rx)) hrest :)⟩

/-- Settles O29: the hand-over (`State.handHour_eq`), and at second 0 of a day the rollover
(`State.gasDayRollover_eq`), whose splits `State.rolledOver` bounds. -/
theorem hourBoundaryHandsOver : Obligations.HourBoundaryHandsOver := by
  intro s hreset hshape hdue rest midnight handed rolled
  obtain ⟨hsized, -⟩ := s.shaped_iff.mp hshape
  have hhanded : s.boundaryTaken.handHour = handed := State.handHour_eq (s := s.boundaryTaken) hsized.caverns
  have hexec : exec .hourBoundary s = .next (if s.clk.second = 0 then handed.gasDayRollover else handed) := by
    rw [← hhanded, ← stepBoundary_of_due hdue]
    exact congrArg Host.Outcome.next (internal_of_released hreset _)
  obtain ⟨hcdu, hkept⟩ := State.boundaryTaken_handHour_kept hsized.caverns hhanded
  have hsts : handed.sts = s.sts := congrArg Prod.fst hkept
  have hcav : ∀ j ∈ cavernNumbers, ∀ c, s.cavern j = some c → ∃ c1, handed.cavern j = some c1 ∧
      VolumesHanded (s.sts.state = .blank) c c1 := fun j hj c hc =>
    hhanded ▸ State.volumesHanded (s := s.boundaryTaken) hj hc
  by_cases hm : s.clk.second = 0
  · rw [if_pos hm] at hexec
    obtain ⟨hsize, -⟩ := handed.shaped_iff.mp (hhanded ▸ (s.boundaryTaken.handHour_held hshape).1)
    have hrolled : rolled = handed.countsZeroed := by
      unfold State.countsZeroed
      rw [hcdu]
    rw [State.gasDayRollover_eq hsize.caverns hsize.units] at hexec
    rw [hrolled]
    have hmoved := handed.countsZeroed.cavernsChanged_moved
    have hplant := hmoved.plant
    have hroll := fun j (hj : j ∈ cavernNumbers) c => State.rolledOver (s := handed) hj (c := c)
    generalize handed.countsZeroed.cavernsChanged = t at *
    refine ⟨t, hexec, fun h => absurd hm h, fun _ => rfl, ?_, fun _ => hmoved.cdu, fun j hj c hc => ?_, ?_⟩
    · rw [hplant.clk, hplant.hcu, hplant.mtu]
      rfl
    · obtain ⟨c1, hc1, h1⟩ := hcav j hj c hc
      obtain ⟨c2, hc2, h2⟩ := hroll j hj c1 hc1
      obtain ⟨hvi, hvw⟩ := Prod.mk.inj h2.volumes
      obtain ⟨hqi, hqw⟩ := Prod.mk.inj (h2.remainders.trans h1.remainders)
      exact ⟨c2, hc2, fun hb => ⟨hvi.trans (h1.volumes hb).1, hvw.trans (h1.volumes hb).2⟩, hqi, hqw,
        h2.booked.trans h1.booked, fun _ hrun => h2.still (hsts ▸ hrun),
        fun _ => ⟨h2.turns, fun hone => h1.lastDir ▸ h2.turned hone⟩⟩
    · rw [hplant.sts, hplant.sns, hplant.cfg, hplant.smt, hplant.act, hplant.nst, hmoved.drc, hplant.planRecord,
        hplant.planEval, hplant.rx]
      exact hkept
  · rw [if_neg hm] at hexec
    refine ⟨handed, hexec, fun _ => rfl, fun h => absurd h hm, rfl, fun h => absurd h hm, fun j hj c hc => ?_,
      hkept⟩
    obtain ⟨c1, hc1, h1⟩ := hcav j hj c hc
    obtain ⟨hqi, hqw⟩ := Prod.mk.inj h1.remainders
    exact ⟨c1, hc1, h1.volumes, hqi, hqw, h1.booked, fun h => absurd h hm, fun h => absurd h hm⟩

end Sys2Proof.Machine
end

section
/-! Every imbalance lies within plus or minus its limit (04 R56), in the account table and in the stored snapshots: what
each operation does to the accounts, and that every step keeps the law. -/

open Sys2Proof Sys2Proof.Machine

namespace Sys2Proof.Machine

/-! ### The law, table by table -/

/-- The accounts, and those of the stored snapshots, have their imbalances within their limits. -/
structure ImbalancesWithin (s : State) : Prop where
  accounts : ∀ a ∈ s.act.accounts, a.within = true
  content : ∀ c ∈ s.sns.content, ∀ a ∈ c.act.accounts, a.within = true
  copy : ∀ c ∈ s.sns.copy, ∀ a ∈ c.act.accounts, a.within = true

theorem State.imbalanceLaw_iff (s : State) : s.imbalanceLaw = true ↔ ImbalancesWithin s := by
  simp only [State.imbalanceLaw, Bool.and_eq_true, List.all_eq_true, Option.all_eq_true]
  exact ⟨fun ⟨⟨ha, hs⟩, hc⟩ => ⟨ha, hs, hc⟩, fun ⟨ha, hs, hc⟩ => ⟨⟨ha, hs⟩, hc⟩⟩

/-- From `s` to `t` the imbalances stay within their limits. -/
def KeepsWithin (s t : State) : Prop := ImbalancesWithin s → ImbalancesWithin t

theorem KeepsWithin.refl (s : State) : KeepsWithin s s := id

theorem KeepsWithin.trans {s t u : State} (h1 : KeepsWithin s t) (h2 : KeepsWithin t u) : KeepsWithin s u :=
  fun h => h2 (h1 h)

theorem KeepsWithin.ite {s a b : State} {p : Prop} [Decidable p] (h1 : KeepsWithin s a) (h2 : KeepsWithin s b) :
    KeepsWithin s (if p then a else b) := by split <;> assumption

theorem KeepsWithin.forEach {f : State → Nat → State} {ns : List Nat} (h : ∀ u n, KeepsWithin u (f u n)) (s : State) :
    KeepsWithin s (s.forEach ns f) :=
  State.forEach_induct (P := KeepsWithin s) (.refl s) (fun u n _ hu => hu.trans (h u n))

/-- What leaves the accounts and the snapshots leaves their imbalances. -/
theorem KeepsWithin.of_eq {s t : State} (ha : t.act.accounts = s.act.accounts)
    (hs : t.sns.content = s.sns.content) (hc : t.sns.copy = s.sns.copy) : KeepsWithin s t :=
  fun h => ⟨ha ▸ h.accounts, hs ▸ h.content, hc ▸ h.copy⟩

theorem KeepsWithin.of_clk (s : State) (x : Clock) : KeepsWithin s { s with clk := x } := .of_eq rfl rfl rfl
theorem KeepsWithin.of_sts (s : State) (x : Station) : KeepsWithin s { s with sts := x } := .of_eq rfl rfl rfl
theorem KeepsWithin.of_smt (s : State) (x : List Point) : KeepsWithin s { s with smt := x } := .of_eq rfl rfl rfl
theorem KeepsWithin.of_mtu (s : State) (x : Meter) : KeepsWithin s { s with mtu := x } := .of_eq rfl rfl rfl
theorem KeepsWithin.of_plu (s : State) (x : Planner) : KeepsWithin s { s with plu := x } := .of_eq rfl rfl rfl
theorem KeepsWithin.of_hcu (s : State) (x : Closer) : KeepsWithin s { s with hcu := x } := .of_eq rfl rfl rfl
theorem KeepsWithin.of_slk (s : State) (x : Link) : KeepsWithin s { s with slk := x } := .of_eq rfl rfl rfl
theorem KeepsWithin.of_ori (s : State) (x : List OrderEntry) : KeepsWithin s { s with ori := x } := .of_eq rfl rfl rfl

/-- A change of the station account and the transfers alone. -/
theorem KeepsWithin.of_act (s : State) {a : Accounts} (h : a.accounts = s.act.accounts) :
    KeepsWithin s { s with act := a } := .of_eq h rfl rfl

theorem PlantMoved.keepsWithin {s t : State} (h : PlantMoved s t) : KeepsWithin s t :=
  .of_eq (congrArg Accounts.accounts h.act) (congrArg Store.content h.sns) (congrArg Store.copy h.sns)

theorem Reported.keepsWithin {s t : State} (h : Reported s t) : KeepsWithin s t := h.plant.keepsWithin

theorem State.raise_keepsWithin (s : State) (k : AlertKind) (o : Nat) : KeepsWithin s (s.raise k o) :=
  (s.raise_reported k o).keepsWithin

theorem State.makePlanDue_keepsWithin (s : State) : KeepsWithin s s.makePlanDue := .of_eq rfl rfl rfl

theorem State.makeSnapshotDue_keepsWithin (s : State) : KeepsWithin s s.makeSnapshotDue := .of_eq rfl rfl rfl

/-! ### One account changed (04 R52, R56) -/

theorem Account.within_iff (a : Account) :
    a.within = true ↔ -(a.rights.imbalanceLimit : Int) ≤ a.imbalance ∧ a.imbalance ≤ a.rights.imbalanceLimit := by
  simp only [Account.within, decide_eq_true_eq]
  omega

theorem Account.within_vacant : Account.vacant.within = true := rfl

/-- A held value is the value cut at both limits. -/
theorem holdWithin_eq (limit : Nat) (x : Int) : holdWithin limit x = max (-(limit : Int)) (min (limit : Int) x) := by
  unfold holdWithin
  split
  · omega
  · split <;> omega

theorem holdWithin_bounds (limit : Nat) (x : Int) :
    -(limit : Int) ≤ holdWithin limit x ∧ holdWithin limit x ≤ limit := by
  rw [holdWithin_eq]
  omega

/-- A moved imbalance lies within the limit, whatever it was and by how much it moves. -/
theorem Account.within_moveImbalance (a : Account) (delta : Int) : (a.moveImbalance delta).1.within = true :=
  (Account.within_iff _).mpr (holdWithin_bounds a.rights.imbalanceLimit (a.imbalance + delta))

/-- A posting moves the imbalance alone of what the law reads. -/
theorem Account.within_post (a : Account) (r : ShipperResult) : (a.post r).1.within = true :=
  a.within_moveImbalance (r.line.allocated - r.line.confirmed)

theorem ImbalancesWithin.accountOf {s : State} (h : ImbalancesWithin s) (n : Nat) : (s.accountOf n).within = true := by
  unfold State.accountOf
  cases ha : s.account n with
  | none => exact Account.within_vacant
  | some a =>
    unfold State.account at ha
    split at ha
    · exact h.accounts a (nth_mem ha)
    · cases ha

/-- An element of a list with one record written is the record written or one that stood. -/
theorem mem_setNth {α : Type} {l : List α} {n : Nat} {x y : α} (h : y ∈ setNth l n x) : y = x ∨ y ∈ l := by
  cases n with
  | zero => exact .inr h
  | succ n => exact (List.mem_or_eq_of_mem_set h).symm

/-- A record written keeps the law where it lies within its limit, which it may draw from the record that stood. -/
theorem State.setAccount_keepsWithin (s : State) (n : Nat) {a : Account}
    (ha : (s.accountOf n).within = true → a.within = true) : KeepsWithin s (s.setAccount n a) := fun h =>
  ⟨fun x hx => (mem_setNth hx).elim (fun e => e ▸ ha (h.accountOf n)) (h.accounts x), h.content, h.copy⟩

theorem State.setRights_keepsWithin (s : State) (n : Nat) (r : Rights) : KeepsWithin s (s.setRights n r) := by
  have hset := s.setAccount_keepsWithin n (fun _ =>
    Account.within_moveImbalance { s.accountOf n with rights := appliedRights r } 0)
  exact .ite (hset.trans (State.raise_keepsWithin _ _ _)) hset

theorem State.setAccountState_keepsWithin (s : State) (n : Nat) (st : AccountState) :
    KeepsWithin s (s.setAccountState n st) :=
  .ite (.refl s) ((s.setAccount_keepsWithin n (a := { s.accountOf n with state := st }) id).trans
    (State.makePlanDue_keepsWithin _))

theorem State.forgetShipper_keepsWithin (s : State) (n : Nat) : KeepsWithin s (s.forgetShipper n) := by
  unfold State.forgetShipper
  repeat' split
  · exact .of_eq rfl rfl rfl
  · exact .refl s
  · exact .refl s

theorem State.shipperAction_keepsWithin (s : State) (n action : Nat) (r : Rights) :
    KeepsWithin s (s.shipperAction n action r).1 := by
  refine KeepsWithin.trans ?_ (State.makeSnapshotDue_keepsWithin _)
  have hvacant := s.setAccount_keepsWithin n (fun _ => Account.within_vacant)
  refine .ite ?opened (.ite (s.setRights_keepsWithin n r) (.ite (s.setAccountState_keepsWithin n _)
    (.ite (s.setAccountState_keepsWithin n _) ?closed)))
  case opened =>
    have hnew : ({ Account.vacant with state := .active, rights := appliedRights r } : Account).within = true :=
      (Account.within_iff _).mpr ⟨by simp [Account.vacant], by simp [Account.vacant]⟩
    exact (s.setAccount_keepsWithin n (fun _ => hnew)).trans (State.makePlanDue_keepsWithin _)
  case closed => exact (hvacant.trans (State.forgetShipper_keepsWithin _ n)).trans (State.makePlanDue_keepsWithin _)

theorem State.loadInventory_keepsWithin (s : State) (n inventory : Nat) :
    KeepsWithin s (s.loadInventory n inventory) := by
  have hset := s.setAccount_keepsWithin (a := { s.accountOf n with inventory := inventory }) n id
  have hput := hset.trans (KeepsWithin.of_act _
    (a := { (s.setAccount n { s.accountOf n with inventory := inventory }).act with
      station := s.act.station - ((inventory : Int) - ((s.accountOf n).inventory : Int)) }) rfl)
  exact KeepsWithin.trans (.ite (hput.trans (State.raise_keepsWithin _ _ _)) hput)
    (State.makeSnapshotDue_keepsWithin _)

/-! ### The nominations stand beside the accounts -/

theorem State.checkWarning_keepsWithin (s : State) (n before : Nat) : KeepsWithin s (s.checkWarning n before) := by
  have hset := fun p => KeepsWithin.of_eq (s := s) (t := s.setPartition n p) rfl rfl rfl
  exact .ite ((hset _).trans (State.raise_keepsWithin _ _ _)) (.ite (hset _) (.refl s))

theorem State.setPartition_keepsWithin (s : State) (n before : Nat) (p : Partition) :
    KeepsWithin s ((s.setPartition n p).checkWarning n before) :=
  KeepsWithin.trans (t := s.setPartition n p) (.of_eq rfl rfl rfl) (State.checkWarning_keepsWithin _ n before)

theorem State.retireHours_keepsWithin (s : State) (h : Nat) : KeepsWithin s (s.retireHours h) :=
  .forEach (fun u n => u.setPartition_keepsWithin n _ _) s

theorem State.applyNomination_keepsWithin (s : State) (n : Nat) (e : NomEntry) :
    KeepsWithin s (s.applyNomination n e) := by
  have h := s.setPartition_keepsWithin n (s.partition n).entries.length
    { s.partition n with entries := s.editedList n e }
  exact KeepsWithin.trans (.ite (h.trans (State.makePlanDue_keepsWithin _)) h) (State.makeSnapshotDue_keepsWithin _)

/-! ### The completions (06 R97, 10 R168) -/

theorem postShipper_keepsWithin (rs : List (Option ShipperResult)) (s : State) (n : Nat) :
    KeepsWithin s (postShipper rs s n) := by
  unfold postShipper
  split
  · next r _ =>
    have hset := s.setAccount_keepsWithin n (fun _ => (s.accountOf n).within_post r)
    exact .ite (hset.trans (State.raise_keepsWithin _ _ _)) hset
  · exact .refl s

theorem State.completeClose_keepsWithin (s : State) : KeepsWithin s s.completeClose := by
  unfold State.completeClose
  split
  · exact .refl s
  · dsimp only
    refine KeepsWithin.trans ?_ (State.makeSnapshotDue_keepsWithin _)
    refine KeepsWithin.trans ?_ (State.makePlanDue_keepsWithin _)
    refine KeepsWithin.trans ?_ (State.retireHours_keepsWithin _ _)
    refine KeepsWithin.trans ?_ (KeepsWithin.of_hcu _ _)
    refine KeepsWithin.trans ?_ (State.offerReport_reported _ _).keepsWithin
    refine KeepsWithin.trans ?_ (State.raiseClose_reported _ _).keepsWithin
    refine KeepsWithin.trans ?_ (KeepsWithin.of_hcu _ _)
    refine KeepsWithin.trans ?_ (.forEach (fun u j => (postCavern_moved _ u j).plant.keepsWithin) _)
    exact (KeepsWithin.forEach (postShipper_keepsWithin _) s).trans (.of_act _ rfl)

/-- Confirmations are no part of what the law reads. -/
theorem writeConf_within (x : EvalShipper) (p : Option Confirmation × Option Confirmation) (a : Account) :
    (writeConf x p a).within = a.within := by
  unfold writeConf
  split <;> rfl

theorem writeConfs_within (xs : List EvalShipper) (cs ns : List (Option Confirmation)) {as : List Account}
    (h : ∀ a ∈ as, a.within = true) : ∀ a ∈ writeConfs xs cs ns as, a.within = true := by
  induction xs generalizing cs ns as with
  | nil => exact h
  | cons x xs ih =>
    unfold writeConfs
    split
    · next heq =>
      cases heq
      obtain ⟨ha, has⟩ := List.forall_mem_cons.mp h
      exact List.forall_mem_cons.mpr ⟨(writeConf_within _ _ _).trans ha, ih _ _ has⟩
    · exact h

theorem State.completePlan_keepsWithin (s : State) : KeepsWithin s s.completePlan := by
  unfold State.completePlan
  split
  · exact .refl s
  · next e _ =>
    refine .ite ?_ (.of_plu s _)
    refine KeepsWithin.trans ?_ (State.planTaken_plant _).keepsWithin
    unfold State.applyPlan
    dsimp only
    refine KeepsWithin.trans ?_ (KeepsWithin.of_plu _ _)
    refine KeepsWithin.trans ?_ (State.offerReport_reported _ _).keepsWithin
    have h : ∀ p, KeepsWithin s { s with
        act := { s.act with accounts := writeConfs e.shippers e.work.current e.work.next s.act.accounts }, plu := p } :=
      fun p hs => ⟨writeConfs_within _ _ _ hs.accounts, hs.content, hs.copy⟩
    exact .ite ((h _).trans (State.raise_keepsWithin _ _ _)) (h _)

/-! ### The snapshots (01 R14, R16, R17) -/

theorem State.beginWrite_keepsWithin (s : State) : KeepsWithin s s.beginWrite := fun h =>
  ⟨h.accounts, fun _ hc => (Option.not_mem_none _ hc).elim, fun _ hc => by cases hc; exact h.accounts⟩

/-- A store whose snapshots were in the store that stood. -/
theorem KeepsWithin.of_sns (s : State) {x : Store}
    (hs : ∀ c ∈ x.content, c ∈ s.sns.content ∨ c ∈ s.sns.copy) (hc : x.copy = none) :
    KeepsWithin s { s with sns := x } :=
  fun h => ⟨h.accounts, fun c hx => (hs c hx).elim (h.content c) (h.copy c),
    fun c hx => (Option.not_mem_none c (hc ▸ hx)).elim⟩

theorem State.completeWrite_keepsWithin (s : State) (v : Bool) : KeepsWithin s (s.completeWrite v) := by
  unfold State.completeWrite
  refine .ite (.ite (.of_sns s (fun _ => .inr) rfl) ?_) (.refl s)
  exact KeepsWithin.trans (.of_sns s (fun c hc => (Option.not_mem_none c hc).elim) rfl) (State.raise_keepsWithin _ _ _)

/-- The store read at a reset holds the content that stood, or none. -/
theorem Store.read_content (x : Store) (crc : Bool) :
    (∀ c ∈ (x.read crc).content, c ∈ x.content) ∧ (x.read crc).copy = none := by
  have none_holds : ∀ c ∈ (none : Option Snapshot), c ∈ x.content := fun c hc => (Option.not_mem_none c hc).elim
  unfold Store.read
  repeat' split
  · exact ⟨none_holds, rfl⟩
  · exact ⟨fun _ hc => hc, rfl⟩
  · exact ⟨none_holds, rfl⟩
  · exact ⟨none_holds, rfl⟩
  · exact ⟨none_holds, rfl⟩

/-- A state with the accounts of a reset and the store read at it. -/
theorem ImbalancesWithin.read {s t : State} (h : ImbalancesWithin s) {crc : Bool}
    (ha : t.act.accounts = State.reset.act.accounts) (hs : t.sns = s.sns.read crc) : ImbalancesWithin t := by
  obtain ⟨hread, hnone⟩ := s.sns.read_content crc
  refine ⟨?_, ?_, ?_⟩
  · rw [ha]
    exact ((State.imbalanceLaw_iff State.reset).mp (by decide)).accounts
  · rw [hs]
    exact fun c hc => h.content c (hread c hc)
  · rw [hs, hnone]
    exact fun c hc => (Option.not_mem_none c hc).elim

theorem State.release_keepsWithin (s : State) (crc trip b1 b0 : Bool) : KeepsWithin s (s.release crc trip b1 b0) := by
  intro h
  have h0 : ImbalancesWithin { s.released trip b1 b0 with sns := s.sns.read crc } := h.read rfl rfl
  unfold State.release
  dsimp only
  split
  · next c _ hc =>
    have h1 : ImbalancesWithin (restored { s.released trip b1 b0 with sns := s.sns.read crc } c) :=
      ⟨h0.content c hc, h0.content, h0.copy⟩
    refine (State.serveHeater_moved _).plant.keepsWithin ?_
    split
    · exact (KeepsWithin.of_sts _ _).trans (State.tripEntry_plant _).keepsWithin h1
    · exact h1
  · repeat' split
    · exact State.raise_keepsWithin _ _ _ (State.raise_keepsWithin _ _ _ h0)
    · exact State.raise_keepsWithin _ _ _ h0
    · exact State.raise_keepsWithin _ _ _ h0
    · exact h0

/-! ### Time -/

theorem State.gradeAll_keepsWithin (s : State) (f : PointKind → Point → Point) : KeepsWithin s (s.gradeAll f) :=
  (KeepsWithin.of_smt s _).trans (s.gradeAll_plant f).keepsWithin

theorem State.gasDayRollover_keepsWithin (s : State) : KeepsWithin s s.gasDayRollover :=
  s.gasDayRollover_plant.keepsWithin

theorem State.second_keepsWithin (s : State) : KeepsWithin s s.second := by
  rw [State.second_eq]
  obtain ⟨m, hm⟩ := s.clockSecond.meterSecond_eq
  have hmeter : KeepsWithin s s.clockSecond.meterSecond := hm ▸ (KeepsWithin.of_clk s _).trans (.of_mtu _ m)
  have hstatus : ∀ u : State, KeepsWithin u u.statusSecond := fun u => u.statusSecond_eq ▸ .of_slk u _
  exact ((hmeter.trans (State.plantSecond_plant _).keepsWithin).trans (hstatus _)).trans
    (State.gradeAll_keepsWithin _ _)

theorem State.testRequirement_keepsWithin (s : State) : KeepsWithin s s.testRequirement := by
  unfold State.testRequirement
  dsimp only
  repeat' split
  · exact .refl s
  · exact .refl s
  · exact .of_eq rfl rfl rfl

theorem stepMinute_keepsWithin (s : State) : KeepsWithin s (stepMinute s) := by
  unfold stepMinute
  split
  · exact ((KeepsWithin.of_clk s _).trans (State.cavernMinute_moved _).plant.keepsWithin).trans
      (State.testRequirement_keepsWithin _)
  · exact .refl s

theorem State.handHour_keepsWithin (s : State) : KeepsWithin s s.handHour := by
  unfold State.handHour
  split
  · exact .refl s
  · exact ((KeepsWithin.of_hcu s _).trans (.of_mtu _ _)).trans (State.zeroVolumes_moved _).plant.keepsWithin

theorem stepBoundary_keepsWithin (s : State) : KeepsWithin s (stepBoundary s) := by
  unfold stepBoundary
  split
  · have h : KeepsWithin s s.boundaryTaken.handHour :=
      (KeepsWithin.of_clk s _).trans (State.handHour_keepsWithin _)
    exact .ite (h.trans (State.gasDayRollover_keepsWithin _)) h
  · exact .refl s

theorem stepStatus_keepsWithin (s : State) : KeepsWithin s (stepStatus s) := by
  unfold stepStatus
  split
  · exact (s.offerReport_reported _).keepsWithin.trans (.of_slk _ _)
  · exact .refl s

theorem stepCloseBegin_keepsWithin (s : State) : KeepsWithin s (stepCloseBegin s) := by
  unfold stepCloseBegin
  repeat' split
  · exact .of_hcu s _
  · exact .refl s
  · exact .refl s

theorem State.acceptClock_keepsWithin (s : State) (d t : Nat) : KeepsWithin s (s.acceptClock d t) := by
  have h := ((KeepsWithin.of_clk s { s.clk with valid := true, gasDay := d, second := t, trimSum := 0 }).trans
    (State.retireHours_keepsWithin _ (hourPred (hourOf d t)))).trans
    ((State.makePlanDue_keepsWithin _).trans (State.makeSnapshotDue_keepsWithin _))
  exact .ite h (h.trans (State.gasDayRollover_keepsWithin _))

/-! ### The station and the plant requests -/

theorem State.tripAsserted_keepsWithin (s : State) : KeepsWithin s s.tripAsserted := by
  obtain ⟨st, h⟩ := s.tripAsserted_plant
  exact (KeepsWithin.of_sts s _).trans h.keepsWithin

theorem State.command_keepsWithin (s : State) (action : Nat) : KeepsWithin s (s.command action) := by
  obtain ⟨st, h⟩ := s.command_plant action
  exact (KeepsWithin.of_sts s _).trans h.keepsWithin

theorem State.acceptSettings_keepsWithin (s : State) (f : Settings) : KeepsWithin s (s.acceptSettings f) := by
  have hgrade : KeepsWithin s (s.regraded f) :=
    KeepsWithin.trans (t := s.applySettings f) (.of_eq rfl rfl rfl) (State.gradeAll_keepsWithin _ _)
  obtain ⟨st, h⟩ := (s.regraded f).leaveBlank_plant
  exact (hgrade.trans ((KeepsWithin.of_sts _ _).trans h.keepsWithin)).trans (State.makeSnapshotDue_keepsWithin _)

theorem State.clearPoints_keepsWithin (s : State) (ps : List Nat) : KeepsWithin s (s.clearPoints ps) := by
  rw [State.clearPoints_eq]
  exact .of_smt s _

theorem State.takePairs_keepsWithin (ps : List (Nat × Nat)) (s : State) : KeepsWithin s (s.takePairs ps).1 :=
  State.takePairs_keeps (P := KeepsWithin s)
    (fun u p k v c hu => hu.trans ((KeepsWithin.of_smt u _).trans (u.storeSample_plant p k v c).keepsWithin))
    ps (.refl s)

theorem State.applyCavern_keepsWithin (s : State) (j : Nat) (f : CavernConfig) (ia : Nat) (v : Int) :
    KeepsWithin s (s.applyCavern j f ia v) := by
  have hset := fun c => (s.setCavern_moved j c).plant.keepsWithin
  unfold State.applyCavern
  dsimp only
  split
  · refine KeepsWithin.trans ?_ (State.cavernsChanged_moved _).plant.keepsWithin
    exact (hset _).trans (.of_act _ rfl)
  · exact (hset _).trans (State.cavernsChanged_moved _).plant.keepsWithin

theorem State.dropCavern_keepsWithin (s : State) (j : Nat) : KeepsWithin s (s.dropCavern j) :=
  ((s.setCavern_moved j none).plant.keepsWithin.trans (State.clearPoints_keepsWithin _ _)).trans
    (State.cavernsChanged_moved _).plant.keepsWithin

theorem State.cavernAction_keepsWithin (s : State) (j action : Nat) (f : CavernConfig) (ia : Nat) (v : Int) :
    KeepsWithin s (s.cavernAction j action f ia v).1 := by
  unfold State.cavernAction
  split
  · exact (s.applyCavern_keepsWithin j f ia v).trans (State.makeSnapshotDue_keepsWithin _)
  · exact (s.dropCavern_keepsWithin j).trans (State.makeSnapshotDue_keepsWithin _)

theorem State.cavernModeAction_keepsWithin (s : State) (j action : Nat) :
    KeepsWithin s (s.cavernModeAction j action) := by
  refine KeepsWithin.trans ?_ (State.makeSnapshotDue_keepsWithin _)
  exact .ite (s.cavernInService_moved j).plant.keepsWithin
    (.ite (s.cavernOutOfService_moved j).plant.keepsWithin (s.abandonSettle_moved j).plant.keepsWithin)

theorem State.unitAction_keepsWithin (s : State) (k action : Nat) (f : UnitFields) :
    KeepsWithin s (s.unitAction k action f).1 := by
  have hset := fun u => (s.setUnit_moved k u).plant.keepsWithin
  unfold State.unitAction
  split
  · exact (hset _).trans (State.makeSnapshotDue_keepsWithin _)
  · exact ((hset none).trans (State.clearPoints_keepsWithin _ _)).trans (State.makeSnapshotDue_keepsWithin _)

theorem State.unitModeAction_keepsWithin (s : State) (k action : Nat) : KeepsWithin s (s.unitModeAction k action) := by
  refine KeepsWithin.trans ?_ (State.makeSnapshotDue_keepsWithin _)
  exact .ite (s.unitAvailable_moved k).plant.keepsWithin
    (.ite (s.unitUnavailable_moved k).plant.keepsWithin (s.unitRelease_moved k).plant.keepsWithin)

theorem State.trainAction_keepsWithin (s : State) (t action : Nat) (f : TrainFields) :
    KeepsWithin s (s.trainAction t action f).1 := by
  unfold State.trainAction
  split
  · exact (s.applyTrain_moved t f).plant.keepsWithin.trans (State.makeSnapshotDue_keepsWithin _)
  · refine KeepsWithin.trans ?_ (State.makeSnapshotDue_keepsWithin _)
    refine KeepsWithin.trans ?_ (State.writeTrainStep_ordered _ _ _).plant.keepsWithin
    refine KeepsWithin.trans ?_ (State.writeTrainBed_ordered _ _ _).plant.keepsWithin
    exact (s.setTrain_moved t none).plant.keepsWithin.trans (State.clearPoints_keepsWithin _ _)

theorem State.trainModeAction_keepsWithin (s : State) (t action : Nat) :
    KeepsWithin s (s.trainModeAction t action) := by
  refine KeepsWithin.trans ?_ (State.makeSnapshotDue_keepsWithin _)
  exact .ite (s.trainInService_moved t).plant.keepsWithin
    (.ite (s.trainOutOfService_moved t).plant.keepsWithin (s.trainSwitch_moved t).plant.keepsWithin)

theorem State.controlAlerts_keepsWithin (s : State) (set clear pend : Nat) :
    KeepsWithin s (s.controlAlerts set clear pend) := .ite (.of_eq rfl rfl rfl) (.of_eq rfl rfl rfl)

theorem State.clearLink_keepsWithin (s : State) : KeepsWithin s s.clearLink :=
  State.clearLink_keeps (P := KeepsWithin s) (fun u _ hu => hu.trans (.of_slk u _))
    (fun u _ _ hu _ => hu.trans (.of_ori u _)) (.refl s)

/-! ### Every step -/

theorem State.answer_keepsWithin (b : ReqBody) (s : State) : KeepsWithin s (s.answer b).state := by
  have by_checks {refusal : Option Result} {effect : State × Result} {items : State → List Item}
      (he : KeepsWithin s effect.1) : KeepsWithin s (answerBy s refusal effect items).state :=
    answerBy_keeps (P := KeepsWithin s) (.refl s) (fun _ => he)
  cases b <;> simp only [State.answer]
  case setClock d t =>
    unfold State.setClock
    split
    · exact by_checks (.of_clk s _)
    · exact by_checks (s.acceptClock_keepsWithin d t)
  case stationCommand a => exact by_checks (s.command_keepsWithin a)
  case configureStation f => exact by_checks (s.acceptSettings_keepsWithin f)
  case sample ps =>
    split
    · exact s.takePairs_keepsWithin ps
    · exact .refl s
  case pointQuery f c => unfold State.pointQuery; split <;> exact .refl s
  case configureShipper n a r => exact by_checks (s.shipperAction_keepsWithin n a r)
  case loadBalance n x => exact by_checks (s.loadInventory_keepsWithin n x)
  case transfer a b x y =>
    unfold State.requestTransfer
    dsimp only
    split
    · exact .refl s
    · exact .of_eq rfl rfl rfl
  case accountQuery n c =>
    unfold State.accountQuery
    repeat' split
    · exact .refl s
    · exact .refl s
    · exact s.setAccount_keepsWithin n (a := { s.accountOf n with saturated := false }) id
    · exact .refl s
  case nominate n f sp d q =>
    unfold State.nominate
    dsimp only
    repeat' split
    · exact .refl s
    · exact .refl s
    · exact s.applyNomination_keepsWithin n _
  case nominationQuery n f => unfold State.nominationQuery; split <;> exact .refl s
  case configureCavern j a f ia v => exact by_checks (s.cavernAction_keepsWithin j a f ia v)
  case cavernMode j a =>
    unfold State.cavernMode
    dsimp only
    split
    · exact .refl s
    · exact s.cavernModeAction_keepsWithin j a
  case configureUnit k a f => exact by_checks (s.unitAction_keepsWithin k a f)
  case unitMode k a =>
    unfold State.unitMode
    dsimp only
    split
    · exact .refl s
    · exact s.unitModeAction_keepsWithin k a
  case configureTrain t a f => exact by_checks (s.trainAction_keepsWithin t a f)
  case trainMode t a => exact by_checks (s.trainModeAction_keepsWithin t a)
  case orderQuery f c => unfold State.orderQuery; split <;> exact .refl s
  case alertControl a b c => exact by_checks (s.controlAlerts_keepsWithin a b c)
  case linkReset => exact s.clearLink_keepsWithin
  all_goals exact .refl s

theorem imbalancesWithin_stepLaw : StepLaw ImbalancesWithin where
  link s l := KeepsWithin.of_slk s l
  resend s := s.resendUnsent_ordered.plant.keepsWithin
  settleExpiry j s := (stepSettleExpiry_moved j s).plant.keepsWithin
  valveFault j s := (stepValveFault_moved j s).plant.keepsWithin
  timeoutExpiry k s := (stepTimeoutExpiry_moved k s).plant.keepsWithin
  minRunExpiry k s := (stepMinRunExpiry_moved k s).plant.keepsWithin
  minStopExpiry k s := (stepMinStopExpiry_moved k s).plant.keepsWithin
  startListDrop k s := (stepStartListDrop_moved k s).plant.keepsWithin
  heatingExpiry s := (stepHeatingExpiry_moved s).plant.keepsWithin
  coolingExpiry t s := (stepCoolingExpiry_moved t s).plant.keepsWithin
  offspecEntry t s := (stepOffspecEntry_moved t s).plant.keepsWithin
  offspecRecovery t s := (stepOffspecRecovery_moved t s).plant.keepsWithin
  minute s := stepMinute_keepsWithin s
  boundary s := stepBoundary_keepsWithin s
  status s := stepStatus_keepsWithin s
  closeBegin s := stepCloseBegin_keepsWithin s
  planBegin s := KeepsWithin.ite (.of_plu s _) (.refl s)
  snapshotBegin s := KeepsWithin.ite s.beginWrite_keepsWithin (.refl s)
  completeClose s := s.completeClose_keepsWithin
  completePlan s := s.completePlan_keepsWithin
  completeWrite v s := s.completeWrite_keepsWithin v
  second s := s.second_keepsWithin
  assertReset _ h := h.read rfl rfl
  release crc trip b1 b0 s := s.release_keepsWithin crc trip b1 b0
  tripPin s h _ := (KeepsWithin.of_sts s _).trans (State.tripAsserted_keepsWithin _) h
  tripRelease s := KeepsWithin.of_sts s _
  answer b s := s.answer_keepsWithin b

/-- Settles O7: every written record has its imbalance held within its limit (`Account.within_moveImbalance`) or takes
imbalance and limit from a record or a snapshot that stood. -/
theorem stepKeepsImbalanceWithinLimit : Obligations.StepKeepsImbalanceWithinLimit := fun s t hs ht =>
  t.imbalanceLaw_iff.mpr
    (imbalancesWithin_stepLaw.step (fun _ _ h => ⟨h.accounts, h.content, h.copy⟩) (s.imbalanceLaw_iff.mp hs) ht)

end Sys2Proof.Machine
end

section
/-! Requests of ACT: how an accepted request acts in a receptive state, and CONFIGURE SHIPPER, LOAD BALANCE and TRANSFER
settled whole (04 R47, R51 to R56, R62, R63). -/

open Sys2Proof Sys2Proof.Machine

namespace Sys2Proof.Machine

/-! ### A request that is accepted (11 R174) -/

/-- The first check decides, or the checks after it do. -/
theorem firstFailure_cons (b : Bool) (r : Result) (cs : List (Bool × Result)) :
    firstFailure ((b, r) :: cs) = if b = true then some r else firstFailure cs := by
  cases b <;> rfl

theorem firstFailure_nil : firstFailure [] = none := rfl

/-- One check of a statement: what is said of its refusal, or what is said once the checks after it decide. -/
theorem ite_of_check {p : Prop} [Decidable p] {o rest : Option Result} {r : Result} {refused passed : Prop}
    (h : o = if p then some r else rest) (hr : o = some r → refused) (hp : ¬ p → o = rest → passed) :
    if p then refused else passed := by
  split
  · next hx => exact hr (h.trans (if_pos hx))
  · next hx => exact hp hx (h.trans (if_neg hx))

/-- A request whose effect is the same whatever the receive queue holds leaves that effect and its reply. -/
theorem exec_accepted {c : Instr} {tag : Nat} {b : ReqBody} {s u : State} {res : Result} {items : List Item}
    (hc : requestOf c = some ⟨tag, b⟩) (h : s.receptive = true) (hh : s.held ⟨tag, b⟩ = false) (hl : b ≠ .linkReset)
    (hk : ReqBody.replyKind b = b.kind + 0x40) (hu : u.slk.rx = s.slk.rx)
    (ha : (s.withRx [⟨tag, b⟩]).answer b = { state := u.withRx [⟨tag, b⟩], result := res, items := items }) :
    exec c s = .next (u.replied b.kind tag res items) := by
  obtain ⟨_, hr, _⟩ := State.receptive_parts h
  rw [exec_taken hc h hh hl]
  simp only [ha, replyTo, hk]
  exact congrArg Host.Outcome.next (congrArg (State.sends · _) (State.withRx_self (hu.trans hr)))

/-! ### The accounts by number (04 R47) -/

/-- A number from 1 to P. -/
def State.namesShipper (s : State) (n : Nat) : Prop := ¬ (n = 0 ∨ s.shippers < n)

theorem State.noShipper_iff (s : State) (n : Nat) : s.noShipper n = true ↔ n = 0 ∨ s.shippers < n := by
  simp [State.noShipper]

theorem State.namesShipper.noShipper {s : State} {n : Nat} (h : s.namesShipper n) : s.noShipper n = false :=
  Bool.eq_false_iff.mpr (fun hn => h ((s.noShipper_iff n).mp hn))

theorem State.shippers_le (s : State) : s.shippers ≤ 16 := by
  unfold State.shippers shipperCount
  repeat' split
  all_goals decide

/-- A number that names no account reads as the VACANT record. -/
theorem State.accountOf_unnamed {s : State} {n : Nat} (h : n = 0 ∨ s.shippers < n) :
    s.accountOf n = Account.vacant := by
  unfold State.accountOf State.account
  split
  · next hn =>
    obtain rfl : n = 0 := h.resolve_right (Nat.not_lt.mpr hn)
    rfl
  · rfl

theorem State.accountOf_congr {s t : State} (ha : t.act.accounts = s.act.accounts) (hc : t.cfg = s.cfg) (n : Nat) :
    t.accountOf n = s.accountOf n := by
  unfold State.accountOf State.account State.shippers
  rw [ha, hc]

theorem State.accountOf_raise (s : State) (k : AlertKind) (o n : Nat) : (s.raise k o).accountOf n = s.accountOf n :=
  have h := (s.raise_reported k o).plant
  State.accountOf_congr (congrArg Accounts.accounts h.act) h.cfg n

section
variable {s : State} {n : Nat} (hn : s.namesShipper n) (hs : s.shaped = true)
include hn hs

theorem State.nth_accountOf : nth s.act.accounts n = some (s.accountOf n) := by
  obtain ⟨h0, hp⟩ := not_or.mp hn
  have hle := s.shippers_le
  have hsome := nth_isSome (l := s.act.accounts) (n := n) |>.mpr
    ⟨Nat.pos_of_ne_zero h0, by rw [(s.shaped_iff.mp hs).2.accounts]; omega⟩
  obtain ⟨a, ha⟩ := Option.isSome_iff_exists.mp hsome
  unfold State.accountOf State.account
  rw [if_pos (Nat.not_lt.mp hp), ha]
  rfl

theorem State.accountOf_setAccount (a : Account) : (s.setAccount n a).accountOf n = a := by
  have hset : nth (s.setAccount n a).act.accounts n = some a := nth_setNth_self a (State.nth_accountOf hn hs)
  have hp : n ≤ (s.setAccount n a).shippers := Nat.not_lt.mp (not_or.mp hn).2
  unfold State.accountOf State.account
  rw [if_pos hp, hset]
  rfl

theorem State.setAccount_accountOf : s.setAccount n (s.accountOf n) = s := by
  unfold State.setAccount
  rw [setNth_of_nth (State.nth_accountOf hn hs)]

end

theorem setNth_of_ne_zero {α : Type} (l : List α) {n : Nat} (h : n ≠ 0) (x : α) : setNth l n x = l.set (n - 1) x :=
  if_neg h

theorem State.setAccount_eq (s : State) {n : Nat} (h : n ≠ 0) (a : Account) :
    s.setAccount n a = { s with act := { s.act with accounts := s.act.accounts.set (n - 1) a } } := by
  rw [← setNth_of_ne_zero _ h]
  rfl

/-- A change of the one record a number names. -/
theorem modify_of_nth {α : Type} {l : List α} {n : Nat} {x : α} (h : nth l n = some x) (f : α → α) :
    l.modify (n - 1) f = setNth l n (f x) := by
  cases n with
  | zero => simp at h
  | succ n =>
    rw [nth_succ] at h
    simp [List.modify_eq_set_getElem?, h]

/-- A report reads and writes nothing of SNS. -/
theorem State.raise_makeSnapshotDue (s : State) (k : AlertKind) (o : Nat) :
    s.makeSnapshotDue.raise k o = (s.raise k o).makeSnapshotDue := by
  simp only [State.raise, State.offerReport, State.noteDropped, apply_ite State.makeSnapshotDue]
  rfl

/-! ### CONFIGURE SHIPPER (04 R51 to R54) -/

/-- The reply's items: the shipper, its state and its rights (R51). -/
def shipperReply (n : Nat) (a : Account) : List Item := .u8 n :: .u8 (accountCode a.state) :: rightsItems a.rights

theorem State.configureShipper_refused {s : State} {n action : Nat} {res : Result}
    (hr : s.shipperRefusal n action = some res) (r : Rights) :
    s.configureShipper n action r = { state := s, result := res, items := shipperReply n (s.accountOf n) } :=
  answerBy_refused hr _ _

theorem State.configureShipper_accepted {s : State} {n action : Nat} (hr : s.shipperRefusal n action = none)
    (r : Rights) :
    s.configureShipper n action r =
      let e := s.shipperAction n action r
      { state := e.1, result := e.2, items := shipperReply n (e.1.accountOf n) } :=
  answerBy_accepted hr _ _

section
variable {c : Instr} {tag n action : Nat} {r : Rights} {s : State}
  (hc : requestOf c = some ⟨tag, .configureShipper n action r⟩) (h : s.receptive = true) (hcl : s.hcu.close = none)
include hc h hcl

theorem exec_configureShipper_refused {res : Result} (hr : s.shipperRefusal n action = some res) :
    exec c s = .next (s.replied 0x08 tag res (shipperReply n (s.accountOf n))) :=
  exec_answered hc h (State.held_of_no_close hcl _) nofun rfl
    (State.configureShipper_refused (s := s.withRx [⟨tag, .configureShipper n action r⟩]) hr r)

/-- An accepted action: its change, SNS due, and the reply from the record it leaves. -/
theorem exec_configureShipper_accepted {f : State → State} {res : Result} (hr : s.shipperRefusal n action = none)
    (hf : ∀ u : State, u.shipperAction n action r = ((f u).makeSnapshotDue, res))
    (hl : ∀ l, f (s.withRx l) = (f s).withRx l) (hrx : (f s).slk.rx = s.slk.rx) :
    exec c s = .next ((f s).makeSnapshotDue.replied 0x08 tag res (shipperReply n ((f s).accountOf n))) := by
  refine exec_accepted (u := (f s).makeSnapshotDue) hc h (State.held_of_no_close hcl _) nofun rfl hrx ?_
  refine (State.configureShipper_accepted (s := s.withRx [⟨tag, .configureShipper n action r⟩]) hr r).trans ?_
  rw [hf, hl]
  rfl

end

/-- The checks once the station is out of BLANK and the number names an account: the table of R51. -/
theorem State.shipperRefusal_named {s : State} {n : Nat} (hb : s.sts.state ≠ .blank) (hn : s.namesShipper n)
    {action : Nat} (ha : action ≤ 4) : s.shipperRefusal n action =
      if (s.accountOf n).state = .vacant then (if action = 0 then none else some .noSuch)
      else if action = 0 ∨ (action = 4 ∧ s.accountIdle n = false) then some .notIdle else none := by
  unfold State.shipperRefusal
  simp only [firstFailure_cons, firstFailure_nil, hn.noShipper]
  by_cases hv : (s.accountOf n).state = .vacant
  · by_cases h0 : action = 0 <;> simp [State.isBlank, hb, hv, h0, Nat.not_lt.mpr ha]
  · by_cases h0 : action = 0
    · simp [State.isBlank, hb, hv, h0]
    · by_cases h4 : action = 4 <;> cases s.accountIdle n <;> simp [State.isBlank, hb, hv, h0, h4, Nat.not_lt.mpr ha]

theorem State.shipperRefusal_unnamed {s : State} {n : Nat} (hb : s.sts.state ≠ .blank) (hn : n = 0 ∨ s.shippers < n)
    (action : Nat) : s.shipperRefusal n action = some .noSuch := by
  unfold State.shipperRefusal
  rw [firstFailure_cons, firstFailure_cons, if_neg (by simpa [State.isBlank] using hb),
    if_pos ((s.noShipper_iff n).mpr hn)]

theorem State.accountIdle_iff (s : State) (n : Nat) : s.accountIdle n = true ↔
    (s.accountOf n).inventory = 0 ∧ (s.partition n).entries = [] ∧
      ∀ x ∈ s.act.transfers, x.source ≠ n ∧ x.target ≠ n := by
  simp [State.accountIdle, Transfer.names, and_assoc]

theorem acceptedResult_rights (r : Rights) :
    acceptedResult (appliedRights r != r) = if appliedRights r = r then .ok else .clamped := by
  unfold acceptedResult
  by_cases h : appliedRights r = r <;> simp [h]

/-- The imbalance that a new limit leaves (R56). -/
def Account.heldBy (a : Account) (r : Rights) : Int :=
  max (-(r.imbalanceLimit : Int)) (min (r.imbalanceLimit : Int) a.imbalance)

/-- The record that a SET leaves (R52, R56). -/
def Account.withRights (a : Account) (r : Rights) : Account :=
  { a with rights := r, imbalance := a.heldBy r, saturated := a.saturated || a.heldBy r != a.imbalance }

/-- SET writes the record, and raises its alert where the imbalance is cut. -/
theorem State.setRights_eq (s : State) (n : Nat) (r : Rights) : s.setRights n r =
    let t := s.setAccount n ((s.accountOf n).withRights (appliedRights r))
    if (s.accountOf n).heldBy (appliedRights r) = (s.accountOf n).imbalance then t
    else t.raise .imbalanceSaturated n := by
  simp only [State.setRights, Account.moveImbalance, Int.add_zero, holdWithin_eq]
  by_cases h : (s.accountOf n).heldBy (appliedRights r) = (s.accountOf n).imbalance
  · rw [if_pos h]
    exact if_neg (by simpa [Account.heldBy] using h)
  · rw [if_neg h]
    exact if_pos (by simpa [Account.heldBy] using h)

theorem State.setRights_withRx (s : State) (l : List Request) (n : Nat) (r : Rights) :
    (s.withRx l).setRights n r = (s.setRights n r).withRx l := by
  rw [State.setRights_eq, State.setRights_eq]
  dsimp only
  rw [apply_ite (State.withRx · l), ← State.raise_withRx]
  rfl

theorem State.setRights_rx (s : State) (n : Nat) (r : Rights) : (s.setRights n r).slk.rx = s.slk.rx := by
  rw [State.setRights_eq]
  dsimp only
  split
  · rfl
  · exact State.raise_rx _ _ _

theorem State.setAccountState_withRx (s : State) (l : List Request) (n : Nat) (st : AccountState) :
    (s.withRx l).setAccountState n st = (s.setAccountState n st).withRx l := by
  unfold State.setAccountState
  rw [apply_ite (State.withRx · l)]
  rfl

theorem State.setAccountState_rx (s : State) (n : Nat) (st : AccountState) :
    (s.setAccountState n st).slk.rx = s.slk.rx := by
  unfold State.setAccountState
  dsimp only
  split <;> rfl

section
variable {s : State} {n : Nat} (hn : s.namesShipper n) (hs : s.shaped = true)
include hn hs

theorem State.accountOf_setRights (r : Rights) :
    (s.setRights n r).accountOf n = (s.accountOf n).withRights (appliedRights r) := by
  have hset := State.accountOf_setAccount hn hs ((s.accountOf n).withRights (appliedRights r))
  rw [State.setRights_eq]
  dsimp only
  split
  · exact hset
  · exact (State.accountOf_raise _ _ _ _).trans hset

theorem State.accountOf_setAccountState (st : AccountState) :
    (s.setAccountState n st).accountOf n = { s.accountOf n with state := st } := by
  unfold State.setAccountState
  dsimp only
  split
  · next e => rw [← e]
  · exact State.accountOf_setAccount hn hs { s.accountOf n with state := st }

end

/-- The evaluation in flight once an account is closed: its completion writes nothing there (06 R97, log 26). -/
def Evaluation.forget (e : Evaluation) (n : Nat) : Evaluation :=
  { e with shippers := e.shippers.modify (n - 1) (fun x => { x with writable := false }) }

theorem State.forgetShipper_eq (s : State) {n : Nat} (h0 : n ≠ 0) :
    s.forgetShipper n = { s with plu := { s.plu with eval := s.plu.eval.map (·.forget n) } } := by
  have keep : ∀ o, s.plu.eval = o → s = { s with plu := { s.plu with eval := o } } := by rintro o rfl; rfl
  unfold State.forgetShipper
  cases he : s.plu.eval with
  | none => exact keep _ he
  | some e =>
    dsimp only [Option.map_some, Evaluation.forget]
    cases hx : nth e.shippers n with
    | some x => rw [modify_of_nth hx]
    | none =>
      have hlen : e.shippers.length ≤ n - 1 := by
        have hnone : ¬ (1 ≤ n ∧ n ≤ e.shippers.length) := by rw [← nth_isSome, hx]; exact nofun
        omega
      rw [List.modify_eq_self hlen]
      exact keep _ he

theorem State.closeAccount_withRx (s : State) (l : List Request) {n : Nat} (h0 : n ≠ 0) :
    (s.withRx l).closeAccount n = (s.closeAccount n).withRx l := by
  unfold State.closeAccount
  rw [State.forgetShipper_eq _ h0, State.forgetShipper_eq _ h0]
  rfl

theorem State.closeAccount_eq (s : State) {n : Nat} (h0 : n ≠ 0) : s.closeAccount n =
    { (s.setAccount n Account.vacant).makePlanDue with
      plu := { record := s.plu.record, due := true, eval := s.plu.eval.map (·.forget n) } } := by
  unfold State.closeAccount
  rw [State.forgetShipper_eq _ h0]
  rfl

/-- Settles O30: the checks by account state (`State.shipperRefusal_named`), and the record each action writes. -/
theorem configureShipperActsByAccountState : Obligations.ConfigureShipperActsByAccountState := by
  intro tag n r s h hcl hb hs a rights put due reply limited same
  split
  · next hn =>
    have refused {c action r'} (hc : requestOf c = some ⟨tag, .configureShipper n action r'⟩) :
        exec c s = .next (s.replied 0x08 tag .noSuch (reply .vacant ⟨0, 0, 0, 0⟩)) := by
      rw [exec_configureShipper_refused hc h hcl (State.shipperRefusal_unnamed hb hn action),
        State.accountOf_unnamed hn]
      rfl
    simp only [List.forall_mem_cons]
    exact ⟨refused rfl, refused rfl, refused rfl, refused rfl, refused rfl, List.forall_mem_nil _⟩
  · next hn =>
    have h0 : n ≠ 0 := (not_or.mp hn).1
    have table := fun action ha => State.shipperRefusal_named (action := action) hb hn ha
    have hput (x : Account) : put x = (s.setAccount n x).makeSnapshotDue := by rw [State.setAccount_eq s h0]; rfl
    have hacct := State.accountOf_setAccount hn hs
    have refused {c action r' res} (hc : requestOf c = some ⟨tag, .configureShipper n action r'⟩)
        (hr : s.shipperRefusal n action = some res) : exec c s = same res := exec_configureShipper_refused hc h hcl hr
    have taken (hv : a.state ≠ .vacant) (action) (ha : 0 < action ∧ action < 4) : s.shipperRefusal n action = none :=
      (table action (by omega)).trans ((if_neg hv).trans (if_neg (by omega)))
    have moved {st c action} (hv : a.state ≠ .vacant)
        (hc : requestOf c = some ⟨tag, .configureShipper n action Rights.zero⟩) (ha : 0 < action ∧ action < 4)
        (hf : ∀ u : State, u.shipperAction n action Rights.zero = ((u.setAccountState n st).makeSnapshotDue, .ok)) :
        exec c s = .next ((if a.state = st then put a else due (put { a with state := st })).replied 0x08 tag .ok
          (reply st a.rights)) := by
      rw [exec_configureShipper_accepted (f := (·.setAccountState n st)) hc h hcl (taken hv action ha) hf
        (fun l => s.setAccountState_withRx l n st) (s.setAccountState_rx n st), State.accountOf_setAccountState hn hs,
        hput, hput, State.setAccount_accountOf hn hs]
      unfold State.setAccountState
      rw [apply_ite State.makeSnapshotDue]
      rfl
    refine ⟨?opened, fun hv => ?vacant, fun hv => ⟨?set, ?suspend, ?reactivate, ?close⟩⟩
    case opened =>
      split
      · next hv =>
        have hr := (table 0 (by decide)).trans (if_pos hv)
        rw [exec_configureShipper_accepted (f := (·.openAccount n r)) rfl h hcl hr
          (fun _ => congrArg (Prod.mk _) (acceptedResult_rights r)) (fun _ => rfl) rfl, hput]
        show Host.Outcome.next (State.replied _ _ _ _ (shipperReply n ((s.setAccount n _).accountOf n))) = _
        rw [hacct]
        rfl
      · next hv => exact refused rfl ((table 0 (by decide)).trans ((if_neg hv).trans (if_pos (.inl rfl))))
    case vacant =>
      have noSuch (action) (ha : action ≤ 4) (h0 : action ≠ 0) : s.shipperRefusal n action = some .noSuch :=
        (table action ha).trans ((if_pos hv).trans (if_neg h0))
      exact ⟨refused rfl (noSuch 1 (by decide) nofun), refused rfl (noSuch 2 (by decide) nofun),
        refused rfl (noSuch 3 (by decide) nofun), refused rfl (noSuch 4 (by decide) nofun)⟩
    case set =>
      intro held t
      have hset : (s.setRights n r).makeSnapshotDue =
          if held = a.imbalance then t else t.raise .imbalanceSaturated n := by
        rw [State.setRights_eq, show t = _ from hput _, State.raise_makeSnapshotDue]
        exact apply_ite State.makeSnapshotDue _ _ _
      rw [exec_configureShipper_accepted (action := 1) (f := (·.setRights n r)) rfl h hcl (taken hv 1 (by decide))
        (fun _ => congrArg (Prod.mk _) (acceptedResult_rights r)) (fun l => s.setRights_withRx l n r)
        (s.setRights_rx n r), State.accountOf_setRights hn hs, hset]
      rfl
    case suspend => exact moved hv rfl (by decide) (fun _ => rfl)
    case reactivate => exact moved hv rfl (by decide) (fun _ => rfl)
    case close =>
      split
      · next hi =>
        have hr := (table 4 (by decide)).trans ((if_neg hv).trans
          (if_neg (by simp [(s.accountIdle_iff n).mpr hi])))
        rw [exec_configureShipper_accepted (f := (·.closeAccount n)) rfl h hcl hr (fun _ => rfl)
          (fun l => s.closeAccount_withRx l h0) (by rw [s.closeAccount_eq h0]; rfl), s.closeAccount_eq h0, hput]
        show Host.Outcome.next (State.replied _ _ _ _ (shipperReply n ((s.setAccount n _).accountOf n))) = _
        rw [hacct]
        rfl
      · next hi =>
        have hidle : s.accountIdle n = false := Bool.eq_false_iff.mpr (fun h => hi ((s.accountIdle_iff n).mp h))
        exact refused rfl ((table 4 (by decide)).trans ((if_neg hv).trans (if_pos (.inr ⟨rfl, hidle⟩))))

/-! ### LOAD BALANCE (04 R55) -/

/-- The account with its new inventory, and the station account with the opposite change. -/
def State.loaded (s : State) (n inventory : Nat) : State :=
  let s1 := s.setAccount n { s.accountOf n with inventory := inventory }
  { s1 with act := { s1.act with station := s.act.station - ((inventory : Int) - ((s.accountOf n).inventory : Int)) } }

theorem State.loadInventory_eq (s : State) (n inventory : Nat) : s.loadInventory n inventory =
    if (s.accountOf n).rights.space < inventory then (s.loaded n inventory).makeSnapshotDue.raise .shipperOverSpace n
    else (s.loaded n inventory).makeSnapshotDue := by
  rw [State.raise_makeSnapshotDue]
  exact apply_ite State.makeSnapshotDue _ _ _

/-- What a LOAD BALANCE leaves of the account, the station account and the receive queue. -/
theorem State.loadInventory_spec {s : State} {n : Nat} (hn : s.namesShipper n) (hs : s.shaped = true) (x : Nat) :
    ((s.loadInventory n x).accountOf n).inventory = x ∧
    (s.loadInventory n x).act.station = s.act.station - ((x : Int) - ((s.accountOf n).inventory : Int)) ∧
    (s.loadInventory n x).slk.rx = s.slk.rx := by
  have hacct : ((s.loaded n x).accountOf n).inventory = x :=
    congrArg Account.inventory (State.accountOf_setAccount hn hs { s.accountOf n with inventory := x })
  rw [State.loadInventory_eq]
  split
  · have hr := ((s.loaded n x).makeSnapshotDue.raise_reported .shipperOverSpace n).plant
    exact ⟨(congrArg Account.inventory (State.accountOf_raise _ _ _ _)).trans hacct,
      congrArg Accounts.station hr.act, hr.rx⟩
  · exact ⟨hacct, rfl, rfl⟩

theorem State.loadInventory_withRx (s : State) (l : List Request) (n x : Nat) :
    (s.withRx l).loadInventory n x = (s.loadInventory n x).withRx l := by
  rw [State.loadInventory_eq, State.loadInventory_eq, apply_ite (State.withRx · l), ← State.raise_withRx]
  rfl

/-- The checks of LOAD BALANCE; the one of BLANK is within the one of PARKED. -/
theorem State.loadRefusal_eq (s : State) (n x : Nat) : s.loadRefusal n x =
    if s.sts.state ≠ .parked then some .wrongState
    else if n = 0 ∨ s.shippers < n ∨ (s.accountOf n).state = .vacant then some .noSuch
    else if 2 ^ 47 - 1 < x then some .badRange else none := by
  unfold State.loadRefusal
  simp only [firstFailure_cons, firstFailure_nil, State.isBlank, State.noShipper, Bool.or_eq_true, beq_iff_eq,
    decide_eq_true_eq, bne_iff_ne, ite_or]
  by_cases hp : s.sts.state = .parked
  · rw [if_neg (by rw [hp]; nofun)]
    rfl
  · rw [if_pos hp, ite_self, if_pos hp]

theorem State.loadBalance_refused {s : State} {n x : Nat} {res : Result} (hr : s.loadRefusal n x = some res) :
    s.loadBalance n x =
      { state := s, result := res
        items := [.u8 n, .u64 (s.accountOf n).inventory, .u64 (s.accountOf n).inventory, .i64 s.act.station] } :=
  answerBy_refused hr _ _

theorem State.loadBalance_accepted {s : State} {n x : Nat} (hr : s.loadRefusal n x = none) :
    s.loadBalance n x =
      let t := s.loadInventory n x
      { state := t, result := .ok
        items := [.u8 n, .u64 (s.accountOf n).inventory, .u64 (t.accountOf n).inventory, .i64 t.act.station] } :=
  answerBy_accepted hr _ _

/-- Settles O31: each check answers with the books as they stand, and else both accounts move by the same amount
(`State.loadInventory_spec`). -/
theorem loadBalanceMovesTheStationAccount : Obligations.LoadBalanceMovesTheStationAccount := by
  intro tag n x s h hcl hs a same
  have hcheck := s.loadRefusal_eq n x
  have refused {res} (hr : s.loadRefusal n x = some res) : exec (.loadBalance tag n x) s = same res :=
    exec_answered (b := .loadBalance n x) rfl h (State.held_of_no_close hcl _) nofun rfl
      (State.loadBalance_refused (s := s.withRx [⟨tag, .loadBalance n x⟩]) hr)
  refine ite_of_check hcheck refused fun _ hc => ite_of_check hc refused fun hn hc =>
    ite_of_check hc refused fun _ hc => ?_
  intro station t
  have hname : s.namesShipper n := fun h => hn (h.imp_right .inl)
  obtain ⟨hinv, hstation, hrx⟩ := State.loadInventory_spec hname hs x
  have ht : t = (s.loaded n x).makeSnapshotDue := by
    unfold State.loaded
    rw [State.setAccount_eq s (not_or.mp hname).1]
    rfl
  rw [ht, ← State.loadInventory_eq]
  refine exec_accepted (b := .loadBalance n x) rfl h (State.held_of_no_close hcl _) nofun rfl hrx ?_
  refine (State.loadBalance_accepted (s := s.withRx [⟨tag, .loadBalance n x⟩]) hc).trans ?_
  rw [State.loadInventory_withRx]
  show Answer.mk _ _ [_, _, .u64 ((s.loadInventory n x).accountOf n).inventory,
    .i64 (s.loadInventory n x).act.station] = _
  rw [hinv, hstation]
  rfl

/-! ### TRANSFER (04 R62, R63) -/

/-- The checks of TRANSFER for an hour number of R2 (log 11). -/
theorem State.transferRefusal_eq (s : State) (src tgt amount : Nat) {hour : Nat} (hh : hour < 1572864) :
    s.transferRefusal src tgt amount hour =
      if s.sts.state = .blank ∨ s.clk.valid = false then some .wrongState
      else if src = 0 ∨ s.shippers < src ∨ tgt = 0 ∨ s.shippers < tgt then some .noSuch
      else if src = tgt ∨ amount = 0 ∨ 1000000000 < amount then some .badRange
      else if hourBefore hour s.currentHour = true then some .tooLate
      else if hourAfter hour s.nextDayEnd = true then some .badRange
      else if (s.accountOf src).state = .vacant ∨ (s.accountOf tgt).state = .vacant then some .noSuch
      else if 16 ≤ s.act.transfers.length then some .storeFull else none := by
  have hin : hourOutside hour = false := decide_eq_false (Nat.not_le.mpr hh)
  unfold State.transferRefusal
  simp only [firstFailure_cons, firstFailure_nil, hin, Bool.not_false, Bool.true_and, Bool.false_or, State.isBlank,
    State.noShipper, Bool.or_eq_true, Bool.not_eq_true', beq_iff_eq, decide_eq_true_eq, ite_or]

theorem State.requestTransfer_refused {s : State} {src tgt amount hour : Nat} {res : Result}
    (hr : s.transferRefusal src tgt amount hour = some res) :
    s.requestTransfer src tgt amount hour =
      { state := s, result := res, items := [.u8 0, .u8 s.act.transfers.length] } := by
  unfold State.requestTransfer
  rw [hr]

/-- An accepted transfer, at its place in the list (`insertTransfer_spec`). -/
theorem State.requestTransfer_accepted {s : State} {src tgt amount hour : Nat} {before after : List Transfer}
    (hr : s.transferRefusal src tgt amount hour = none) (hlist : s.act.transfers = before ++ after)
    (hins : insertTransfer ⟨src, tgt, amount, hour⟩ s.act.transfers = before ++ ⟨src, tgt, amount, hour⟩ :: after)
    (hpos : insertPosition ⟨src, tgt, amount, hour⟩ s.act.transfers = before.length + 1) :
    s.requestTransfer src tgt amount hour =
      { state := ({ s with act := { s.act with transfers := before ++ [⟨src, tgt, amount, hour⟩] ++ after } } :
          State).makeSnapshotDue
        result := .ok, items := [.u8 (before.length + 1), .u8 (s.act.transfers.length + 1)] } := by
  unfold State.requestTransfer
  rw [hr]
  dsimp only
  rw [hins, hpos, hlist]
  simp [Nat.add_assoc]

/-- Settles O32: the checks in their order (`State.transferRefusal_eq`), and else the place of `insertTransfer_spec`. -/
theorem transferJoinsThePendingList : Obligations.TransferJoinsThePendingList := by
  intro tag src tgt amount hour s h hcl hh run refused
  have hcheck := s.transferRefusal_eq src tgt amount hh
  have refuse {res} (hr : s.transferRefusal src tgt amount hour = some res) : run = refused res :=
    exec_answered (b := .transfer src tgt amount hour) rfl h (State.held_of_no_close hcl _) nofun rfl
      (State.requestTransfer_refused (s := s.withRx [⟨tag, .transfer src tgt amount hour⟩]) hr)
  refine ite_of_check hcheck refuse fun _ hc => ite_of_check hc refuse fun _ hc => ite_of_check hc refuse fun _ hc =>
    ite_of_check hc refuse fun _ hc => ite_of_check hc refuse fun _ hc => ite_of_check hc refuse fun _ hc =>
    ite_of_check hc refuse fun _ hc => ?_
  obtain ⟨before, after, hlist, hins, hpos, hlast, hafter⟩ :=
    insertTransfer_spec ⟨src, tgt, amount, hour⟩ s.act.transfers
  refine ⟨before, after, hlist, hlast, hafter, ?_⟩
  exact exec_accepted (b := .transfer src tgt amount hour) rfl h (State.held_of_no_close hcl _) nofun rfl rfl
    (State.requestTransfer_accepted (s := s.withRx [⟨tag, .transfer src tgt amount hour⟩]) hc hlist hins hpos)

end Sys2Proof.Machine
end

section
/-! The queries of the books and the plan, each shown field by field: ACCOUNT, ALLOCATION, PLAN, POINT and NOMINATION
QUERY (04 R47, R59, R60, R62, R64, R65, 10 R169, 06 R101, 02 R31, 05 R82). -/

open Sys2Proof Sys2Proof.Machine

namespace Sys2Proof.Machine

/-! ### Parts of a record (11 R172) -/

theorem optionalItems_eq (part : Option (List Item)) (zero : List Item) :
    optionalItems part zero = .u8 (markCode part.isSome) :: part.getD zero := by
  cases part <;> rfl

theorem markCode_decide (p : Prop) [Decidable p] : markCode (decide p) = if p then 1 else 0 := by
  by_cases h : p <;> simp [markCode, h]

/-! ### ACCOUNT QUERY (04 R64) -/

/-- The clear option clears one saturated mark; without it the record stands. -/
theorem State.cleared_eq {s : State} {n : Nat} (hn : s.namesShipper n) (hs : s.shaped = true) (clear : Bool) :
    (if clear then s.clearSaturated n else s) =
      { s with act := { s.act with accounts := s.act.accounts.modify (n - 1) (fun a =>
        { a with saturated := a.saturated && !clear }) } } := by
  rw [modify_of_nth (State.nth_accountOf hn hs)]
  cases clear with
  | true =>
    simp only [Bool.not_true, Bool.and_false]
    rfl
  | false =>
    simp only [Bool.not_false, Bool.and_true]
    exact (State.setAccount_accountOf hn hs).symm

/-- ACCOUNT QUERY, by what its number names. -/
theorem exec_accountQuery {tag n : Nat} {clear : Bool} {s : State} (h : s.receptive = true) (hcl : s.hcu.close = none)
    (hs : s.shaped = true) : exec (.accountQuery tag n clear) s =
      if n = 0 then
        .next (s.replied 0x0B tag .ok (.i64 s.act.station :: listItems transferItems s.act.transfers))
      else if s.shippers < n then .next (s.replied 0x0B tag .noSuch (s.accountReply n))
      else .next (({ s with act := { s.act with accounts := s.act.accounts.modify (n - 1) (fun a =>
        { a with saturated := a.saturated && !clear }) } } : State).replied 0x0B tag .ok (s.accountReply n)) := by
  have shown {res items} (ha : (s.withRx [⟨tag, .accountQuery n clear⟩]).accountQuery n clear =
      { state := s.withRx [⟨tag, .accountQuery n clear⟩], result := res, items := items }) :
      exec (.accountQuery tag n clear) s = .next (s.replied 0x0B tag res items) :=
    exec_answered (b := .accountQuery n clear) rfl h (State.held_of_no_close hcl _) nofun rfl ha
  split
  · next h0 => exact shown (if_pos h0)
  · next h0 =>
    split
    · next hp => exact shown ((if_neg h0).trans (if_pos hp))
    · next hp =>
      rw [← State.cleared_eq (not_or.mpr ⟨h0, hp⟩) hs]
      refine exec_accepted (b := .accountQuery n clear) (u := if clear then s.clearSaturated n else s) rfl h
        (State.held_of_no_close hcl _) nofun rfl ?_ (((if_neg h0).trans (if_neg hp)).trans ?_)
      · cases clear <;> rfl
      · cases clear <;> rfl

/-! ### ALLOCATION QUERY (04 R65) -/

theorem exec_allocationQuery {tag sel n : Nat} {s : State} (h : s.receptive = true) (hcl : s.hcu.close = none) :
    exec (.allocationQuery tag sel n) s = .next (s.replied 0x0C tag (s.allocationResult sel n)
      (s.allocationQuery sel n).items) :=
  exec_answered (b := .allocationQuery sel n) rfl h (State.held_of_no_close hcl _) nofun rfl rfl

/-- The result for the three selectors: a number refused is one that the selector has no line for. -/
theorem State.allocationResult_eq (s : State) {sel : Nat} (n : Nat) (hs : sel < 3) (hr : s.hcu.record.isSome = true) :
    s.allocationResult sel n =
      if (sel = 1 ∧ (n = 0 ∨ s.shippers < n)) ∨ (sel = 2 ∧ (n = 0 ∨ 8 < n)) then .noSuch else .ok := by
  obtain ⟨r, hr⟩ := Option.isSome_iff_exists.mp hr
  unfold State.allocationResult
  rw [hr]
  obtain rfl | rfl | rfl : sel = 0 ∨ sel = 1 ∨ sel = 2 := by omega
  · rfl
  · by_cases hn : n = 0 ∨ s.shippers < n <;> simp [s.noShipper_iff, hn]
  · simp

/-- The header of a record, and the zeros of an absent one. -/
theorem headerItems_eq (r : CloseRecord) : headerItems r =
    [.u32 r.hour, .u8 (markCode r.first), .u8 (if 0 < r.hand.estimated then 1 else 0),
     .u8 (if 0 < r.hand.cvDefault then 1 else 0), .u64 r.hand.injection, .u64 r.hand.withdrawal,
     .i64 ((r.hand.injection : Int) - (r.hand.withdrawal : Int)), .u64 r.hand.fuel, .u64 r.hand.regen,
     .u64 r.hand.use, .i64 r.net, .i64 r.deviation, .i64 r.residue, .i64 r.guardTotal, .i64 r.stationChange,
     .u16 r.hand.estimated, .u16 r.hand.cvDefault] := by
  simp only [headerItems, markCode_decide]

theorem nth_nil {α : Type} (n : Nat) : nth ([] : List α) n = none := by
  cases n <;> rfl

/-! ### PLAN, POINT and NOMINATION QUERY (06 R101, 02 R31, 05 R82) -/

theorem exec_planQuery {tag : Nat} {s : State} (h : s.receptive = true) :
    exec (.planQuery tag) s = .next (s.replied 0x14 tag .ok s.planQuery.items) :=
  exec_answered (b := .planQuery) rfl h (s.held_of_kind rfl) nofun rfl rfl

theorem State.pointQuery_refused {s : State} {first count : Nat} (h : 40 < first ∨ count = 0 ∨ 16 < count) :
    s.pointQuery first count = { state := s, result := .badRange, items := [.u8 0] } := by
  have hr : firstFailure [(decide (40 < first), .badRange), (count == 0 || decide (16 < count), .badRange)] =
      some .badRange := by
    simp only [firstFailure_cons, firstFailure_nil, Bool.or_eq_true, beq_iff_eq, decide_eq_true_eq]
    rw [← ite_or, if_pos h]
  unfold State.pointQuery
  rw [hr]
  rfl

theorem State.pointQuery_accepted {s : State} {first count : Nat} (h : ¬ (40 < first ∨ count = 0 ∨ 16 < count)) :
    s.pointQuery first count =
      { state := s, result := .ok
        items := .u8 (min count (41 - first)) ::
          (List.range' first (min count (41 - first))).flatMap s.pointLine } := by
  have hr : firstFailure [(decide (40 < first), .badRange), (count == 0 || decide (16 < count), .badRange)] = none := by
    simp only [firstFailure_cons, firstFailure_nil, Bool.or_eq_true, beq_iff_eq, decide_eq_true_eq]
    rw [← ite_or, if_neg h]
  unfold State.pointQuery
  rw [hr]
  simp only [listItems, runOf, List.length_range']

/-- The two refusals and the entries shown, from the one asked for on (R82). -/
theorem State.nominationQuery_eq (s : State) (n first : Nat) : s.nominationQuery n first =
    if s.noShipper n = true then { state := s, result := .noSuch, items := s.nominationItems n [] }
    else if first = 0 then { state := s, result := .badRange, items := s.nominationItems n [] }
    else { state := s, result := .ok
           items := s.nominationItems n (((s.partition n).entries.drop (first - 1)).take 16) } := by
  unfold State.nominationQuery
  cases hn : s.noShipper n with
  | true => rfl
  | false =>
    by_cases hf : first = 0
    · subst hf
      rfl
    · simp [firstFailure, hf]

/-- Settles O33: each query replies with the items of its record, and ACCOUNT QUERY clears what `State.cleared_eq`
says. -/
theorem bookAndPlanQueriesShowTheRecords : Obligations.BookAndPlanQueriesShowTheRecords := by
  unfold Obligations.BookAndPlanQueriesShowTheRecords
  intro optional line
  refine ⟨fun tag n sel clear s h hcl hs => ⟨?account, fun hsel => ?allocation⟩,
    fun tag first count n s h => ⟨?plan, ?point, fun hcl => ?nomination⟩⟩
  case account =>
    intro confirmation account naming cleared
    have hreply : s.accountReply n = account (s.accountOf n) ++ [naming] := by
      simp only [State.accountReply, accountItems, optionalItems_eq]
      rfl
    rw [exec_accountQuery h hcl hs, hreply]
    split
    · rfl
    · split
      · next hp => rw [State.accountOf_unnamed (.inr hp)]
      · rfl
  case allocation =>
    intro header chosen blank
    have hchosen (r : CloseRecord) : selectorItems (some r) sel n = chosen r := by
      simp only [selectorItems, shipperLineItems, cavernLineItems, optionalItems_eq]
      rfl
    rw [exec_allocationQuery h hcl]
    unfold State.allocationQuery
    cases hr : s.hcu.record with
    | none =>
      have hblank : selectorItems none sel n = chosen blank := by
        rw [← hchosen]
        simp [selectorItems, blank, nth_nil]
      dsimp only
      rw [show s.allocationResult sel n = .noSuch by simp [State.allocationResult, hr], hblank]
      rfl
    | some r =>
      dsimp only
      rw [s.allocationResult_eq n hsel (by rw [hr]; rfl), headerItems_eq, hchosen]
  case plan =>
    intro plan
    rw [exec_planQuery h]
    simp only [State.planQuery, optionalItems_eq]
    rfl
  case point =>
    have shown {res items} (ha : (s.withRx [⟨tag, .pointQuery first count⟩]).pointQuery first count =
        { state := s.withRx [⟨tag, .pointQuery first count⟩], result := res, items := items }) :
        exec (.pointQuery tag first count) s = .next (s.replied 0x06 tag res items) :=
      exec_answered (b := .pointQuery first count) rfl h (s.held_of_kind rfl) nofun rfl ha
    split
    · next hx => exact shown (State.pointQuery_refused hx)
    · next hx => exact shown (State.pointQuery_accepted hx)
  case nomination =>
    intro named entries head shown entry
    have hnamed : s.noShipper n = true ↔ ¬ named := by
      rw [s.noShipper_iff]
      omega
    have hcount : s.entryCount n = if named then entries.length else 0 := by
      by_cases hn : named
      · rw [if_pos hn]
        exact if_neg (fun h => hnamed.mp h hn)
      · rw [if_neg hn]
        exact if_pos (hnamed.mpr hn)
    have hitems (es : List NomEntry) : s.nominationItems n es = head ++ .u8 es.length :: es.flatMap entry := by
      unfold State.nominationItems
      rw [hcount]
      rfl
    have replies {res es} (hq : (s.withRx [⟨tag, .nominationQuery n first⟩]).nominationQuery n first =
        { state := s.withRx [⟨tag, .nominationQuery n first⟩], result := res, items := s.nominationItems n es }) :
        exec (.nominationQuery tag n first) s =
          .next (s.replied 0x11 tag res (head ++ .u8 es.length :: es.flatMap entry)) :=
      hitems es ▸ exec_answered (b := .nominationQuery n first) rfl h (State.held_of_no_close hcl _) nofun rfl hq
    have hquery := (s.withRx [⟨tag, .nominationQuery n first⟩]).nominationQuery_eq n first
    split
    · next hn => exact replies (es := []) (hquery.trans (if_pos (hnamed.mpr hn)))
    · next hn =>
      have hquery := hquery.trans (if_neg (fun h => hn (hnamed.mp h)))
      split
      · next hf => exact replies (es := []) (hquery.trans (if_pos hf))
      · next hf => exact replies (hquery.trans (if_neg hf))

end Sys2Proof.Machine
end

section
/-! Hours counted from a base hour across the wrap (01 R2), and what a list of nominations in order of such hours is:
its order, its overlaps, its joins and the hours it covers (05 R68, R69). -/

open Sys2Proof Sys2Proof.Machine

namespace Sys2Proof.Machine

/-! ### Hours counted from a base hour (01 R2) -/

theorem hourDiff_eq (y x : Nat) : hourDiff y x = (y + (1572864 - x % 1572864)) % 1572864 := rfl

theorem hourDiff_lt (y x : Nat) : hourDiff y x < 1572864 := Nat.mod_lt _ (by decide)

theorem hourDiff_congr {b c : Nat} (h : b % 1572864 = c % 1572864) (y : Nat) : hourDiff y b = hourDiff y c := by
  rw [hourDiff_eq, hourDiff_eq, h]

theorem hourDiff_self (b : Nat) : hourDiff b b = 0 := by
  rw [hourDiff_eq]
  omega

/-- Hours counted by way of another hour: the two counts add up, or pass once round all hours. -/
theorem hourDiff_rebase (y b c : Nat) :
    hourDiff y c + hourDiff c b = hourDiff y b ∨
    (hourDiff y b < hourDiff c b ∧ hourDiff y c + hourDiff c b = hourDiff y b + 1572864) := by
  simp only [hourDiff_eq]
  omega

theorem hourDiff_hourAdd (y n b : Nat) : hourDiff (hourAdd y n) b = (hourDiff y b + n) % 1572864 := by
  simp only [hourDiff_eq, hourAdd, hourCount]
  omega

theorem hourDiff_hourAdd_of_lt {y n b : Nat} (h : hourDiff y b + n < 1572864) :
    hourDiff (hourAdd y n) b = hourDiff y b + n := by
  rw [hourDiff_hourAdd, Nat.mod_eq_of_lt h]

/-- Two hour numbers as far from a base hour are the same. -/
theorem eq_of_hourDiff_eq {x y b : Nat} (hx : x < 1572864) (hy : y < 1572864) (h : hourDiff x b = hourDiff y b) :
    x = y := by
  simp only [hourDiff_eq] at h
  omega

theorem hourAdd_lt (x n : Nat) : hourAdd x n < 1572864 := Nat.mod_lt _ (by decide)

/-- Hour `y` is at or before hour `x` where fewer than half of all hours lead from it to `x`. -/
theorem hourAtOrBefore_iff_lt {y x : Nat} : hourAtOrBefore y x = true ↔ hourDiff x y < 786432 := by
  rw [hourAtOrBefore, decide_eq_true_iff, hourDiff_eq, hourCount]
  omega

/-- Hour `y` is not after hour `x` unless at most half of all hours lead from `x` to it. -/
theorem hourAtOrBefore_iff_le {y x : Nat} : hourAtOrBefore y x = true ↔ 786432 ≤ hourDiff y (hourAdd x 1) := by
  rw [hourAtOrBefore_iff_lt]
  simp only [hourDiff_eq, hourAdd, hourCount]
  omega

/-- Within half of the hours from a base hour on, the hours compare as they are counted. -/
theorem hourAtOrBefore_iff {y x b : Nat} (hy : hourDiff y b < 786432) (hx : hourDiff x b < 786432) :
    hourAtOrBefore y x = true ↔ hourDiff y b ≤ hourDiff x b := by
  rw [hourAtOrBefore_iff_lt]
  have h := hourDiff_rebase x b y
  omega

theorem hourAfter_iff {y x b : Nat} (hy : hourDiff y b < 786432) (hx : hourDiff x b < 786432) :
    hourAfter y x = true ↔ hourDiff x b < hourDiff y b := by
  rw [hourAfter, Bool.not_eq_true', ← Bool.not_eq_true, hourAtOrBefore_iff hy hx, Nat.not_le]

theorem hourBefore_iff {y x b : Nat} (hy : hourDiff y b < 786432) (hx : hourDiff x b < 786432) :
    hourBefore y x = true ↔ hourDiff y b < hourDiff x b := by
  rw [hourBefore, Bool.and_eq_true, hourAtOrBefore_iff hy hx, bne_iff_ne]
  simp only [hourDiff_eq, hourCount] at *
  omega

/-! ### An entry in hours counted from a base hour (05 R68) -/

/-- The hours from `b` to the first hour of an entry. -/
def NomEntry.start (e : NomEntry) (b : Nat) : Nat := hourDiff e.first b

/-- The hours from `b` to the hour after the last one of an entry. -/
def NomEntry.stop (e : NomEntry) (b : Nat) : Nat := e.start b + e.span

/-- An entry that covers some hours, all within half of the hours from `b` on, with an hour number as its first. -/
structure NomEntry.Placed (e : NomEntry) (b : Nat) : Prop where
  span : 1 ≤ e.span
  stop : e.stop b ≤ 786432
  first : e.first < 1572864

/-- An entry covers the `k`th hour from `b` on. -/
abbrev NomEntry.On (e : NomEntry) (b k : Nat) : Prop := e.start b ≤ k ∧ k < e.stop b

/-- An entry ends at the first hour of another or before it. -/
def NomEntry.Precedes (b : Nat) (e f : NomEntry) : Prop := e.stop b ≤ f.start b

section
variable {e f : NomEntry} {b : Nat} (he : e.Placed b)
include he

theorem NomEntry.Placed.start_lt : e.start b < 786432 := by
  have h1 := he.span
  have h2 := he.stop
  rw [NomEntry.stop] at h2
  omega

theorem NomEntry.Placed.start_lt_stop : e.start b < e.stop b := by
  have h1 := he.span
  rw [NomEntry.stop]
  omega

theorem NomEntry.Placed.last : hourDiff e.last b = e.stop b - 1 := by
  have h1 := he.span
  have h2 := he.stop
  rw [NomEntry.stop, NomEntry.start] at *
  rw [NomEntry.last, hourDiff_hourAdd_of_lt (by omega)]
  omega

theorem NomEntry.Placed.last_lt : hourDiff e.last b < 786432 := by
  rw [he.last]
  have h1 := he.stop
  have h2 := he.start_lt_stop
  omega

theorem NomEntry.Placed.covers_iff {x : Nat} (hx : hourDiff x b < 786432) :
    e.covers x = true ↔ e.On b (hourDiff x b) := by
  rw [NomEntry.covers, Bool.and_eq_true, hourAtOrBefore_iff he.start_lt hx, hourAtOrBefore_iff hx he.last_lt, he.last,
    NomEntry.On, NomEntry.start]
  have h := he.start_lt_stop
  omega

/-- Two entries are adjacent where the hour after one is the first of the other. -/
theorem NomEntry.Placed.joins_iff (hf : f.Placed b) :
    e.joins f = true ↔ e.stop b = f.start b ∧ e.dir = f.dir ∧ e.quantity = f.quantity := by
  have hlast : hourDiff (hourAdd e.last 1) b = e.stop b := by
    have h1 := he.stop
    have h2 := he.start_lt_stop
    rw [hourDiff_hourAdd_of_lt] <;> rw [he.last] <;> omega
  have hadj : hourAdd e.last 1 = f.first ↔ e.stop b = f.start b := by
    rw [← hlast]
    exact ⟨fun h => by rw [h]; rfl, eq_of_hourDiff_eq (hourAdd_lt _ _) hf.first⟩
  rw [NomEntry.joins, Bool.and_eq_true, Bool.and_eq_true, beq_iff_eq, beq_iff_eq, beq_iff_eq, hadj, and_assoc]

end

/-! ### Entries in order (05 R68, R69) -/

/-- The entries lie in order from `b` on, and none overlaps another (05 R68). -/
structure InOrder (b : Nat) (es : List NomEntry) : Prop where
  placed : ∀ e ∈ es, e.Placed b
  order : es.Pairwise (NomEntry.Precedes b)

theorem inOrder_nil (b : Nat) : InOrder b [] := ⟨List.forall_mem_nil _, .nil⟩

theorem inOrder_cons {b : Nat} {e : NomEntry} {es : List NomEntry} :
    InOrder b (e :: es) ↔ e.Placed b ∧ (∀ f ∈ es, e.Precedes b f) ∧ InOrder b es := by
  constructor
  · rintro ⟨hp, ho⟩
    obtain ⟨he, hes⟩ := List.forall_mem_cons.mp hp
    obtain ⟨hef, ho⟩ := List.pairwise_cons.mp ho
    exact ⟨he, hef, hes, ho⟩
  · rintro ⟨he, hef, hes, ho⟩
    exact ⟨List.forall_mem_cons.mpr ⟨he, hes⟩, List.pairwise_cons.mpr ⟨hef, ho⟩⟩

theorem inOrderFrom_iff {b : Nat} {es : List NomEntry} (hn : ∀ e ∈ es, e.first < 1572864) :
    inOrderFrom b es = true ↔ InOrder b es := by
  simp only [inOrderFrom, Bool.and_eq_true, List.all_eq_true, decide_eq_true_eq]
  exact ⟨fun ⟨hp, ho⟩ => ⟨fun e he => ⟨(hp e he).1, (hp e he).2, hn e he⟩, ho⟩,
    fun ⟨hp, ho⟩ => ⟨fun e he => ⟨(hp e he).span, (hp e he).stop⟩, ho⟩⟩

/-- Some entry gives the `k`th hour from `b` on a direction and a quantity. -/
def Nominates (b : Nat) (es : List NomEntry) (k : Nat) (v : Dir × Nat) : Prop :=
  ∃ e ∈ es, e.On b k ∧ (e.dir, e.quantity) = v

theorem nominates_cons {b k : Nat} {e : NomEntry} {es : List NomEntry} {v : Dir × Nat} :
    Nominates b (e :: es) k v ↔ (e.On b k ∧ (e.dir, e.quantity) = v) ∨ Nominates b es k v := by
  simp only [Nominates, List.mem_cons, or_and_right, exists_or, exists_eq_left]

/-- In a list in order the first entry that covers an hour is the only one, so the nomination is what some entry
gives. -/
theorem InOrder.nomination_iff {b x : Nat} {p : Partition} {v : Dir × Nat} (h : InOrder b p.entries)
    (hx : hourDiff x b < 786432) : p.nomination x = some v ↔ Nominates b p.entries (hourDiff x b) v := by
  unfold Partition.nomination
  induction hp : p.entries generalizing p with
  | nil => simp [Nominates]
  | cons e es ih =>
    obtain ⟨he, hef, hes⟩ := inOrder_cons.mp (hp ▸ h)
    rw [nominates_cons]
    by_cases hc : e.covers x = true
    · have hon := (he.covers_iff hx).mp hc
      have hrest : ¬ Nominates b es (hourDiff x b) v := fun ⟨f, hf, hfon, _⟩ =>
        Nat.not_lt.mpr ((hef f hf).trans hfon.1) hon.2
      simp only [List.find?_cons, hc, Option.map_some, Option.some.injEq]
      exact ⟨fun hv => .inl ⟨hon, hv⟩, fun hv => (hv.resolve_right hrest).2⟩
    · have hoff : ¬ e.On b (hourDiff x b) := fun hon => hc ((he.covers_iff hx).mpr hon)
      simp only [List.find?_cons, Bool.eq_false_iff.mpr hc]
      exact (ih (p := { p with entries := es }) hes rfl).trans ⟨.inr, fun hv => hv.resolve_left (fun h => hoff h.1)⟩

/-! ### What an edit leaves of an entry (05 R72) -/

/-- The hours of an entry before those of another. -/
def NomEntry.headBefore (e new : NomEntry) (b : Nat) : NomEntry := { e with span := new.start b - e.start b }

/-- The hours of an entry after those of another. -/
def NomEntry.tailAfter (e new : NomEntry) (b : Nat) : NomEntry :=
  { e with first := hourAdd new.last 1, span := e.stop b - new.stop b }

section
variable {e new : NomEntry} {b : Nat} (he : e.Placed b) (hn : new.Placed b)

theorem NomEntry.headBefore_stop (h : e.start b < new.start b) : (e.headBefore new b).stop b = new.start b :=
  Nat.add_sub_of_le (Nat.le_of_lt h)

include hn in
theorem NomEntry.Placed.tailAfter_start (e : NomEntry) : (e.tailAfter new b).start b = new.stop b := by
  have h1 := hn.stop
  have h2 := hn.start_lt_stop
  show hourDiff (hourAdd new.last 1) b = new.stop b
  rw [hourDiff_hourAdd_of_lt] <;> rw [hn.last] <;> omega

include hn in
theorem NomEntry.Placed.tailAfter_stop (h : new.stop b < e.stop b) : (e.tailAfter new b).stop b = e.stop b :=
  (congrArg (· + (e.stop b - new.stop b)) (hn.tailAfter_start e)).trans (Nat.add_sub_of_le (Nat.le_of_lt h))

include he hn

/-- An edit leaves an entry that lies apart as it is, and of any other the hours before and after the edit span. -/
theorem NomEntry.Placed.cut_eq : e.cut new.first new.last =
    if e.stop b ≤ new.start b ∨ new.stop b ≤ e.start b then [e]
    else (if e.start b < new.start b then [e.headBefore new b] else []) ++
      (if new.stop b < e.stop b then [e.tailAfter new b] else []) := by
  have h1 := he.start_lt_stop
  have h2 := hn.start_lt_stop
  have hlast := he.last
  have hlast' := hn.last
  have happart : (hourBefore e.last new.first || hourAfter e.first new.last) = true ↔
      e.stop b ≤ new.start b ∨ new.stop b ≤ e.start b := by
    rw [Bool.or_eq_true, hourBefore_iff he.last_lt hn.start_lt, hourAfter_iff he.start_lt hn.last_lt, hlast, hlast']
    simp only [NomEntry.start] at *
    omega
  have hhead : hourBefore e.first new.first = true ↔ e.start b < new.start b := hourBefore_iff he.start_lt hn.start_lt
  have htail : hourAfter e.last new.last = true ↔ new.stop b < e.stop b := by
    rw [hourAfter_iff he.last_lt hn.last_lt, hlast, hlast']
    omega
  have hspan (h : e.start b < new.start b) : hourDiff new.first e.first = new.start b - e.start b := by
    have hbase := hourDiff_rebase new.first b e.first
    unfold NomEntry.start at *
    omega
  have hrest (h : new.stop b < e.stop b) : hourDiff e.last new.last = e.stop b - new.stop b := by
    have hbase := hourDiff_rebase e.last b new.last
    omega
  simp only [NomEntry.cut, happart, hhead, htail]
  congr 2
  · split
    · next h => rw [hspan h]; rfl
    · rfl
  · split
    · next h => rw [hrest h]; rfl
    · rfl

/-- Each part that an edit leaves of an entry: its hours lie within those of the entry and apart from the edit span. -/
theorem NomEntry.Placed.mem_cut {g : NomEntry} (hg : g ∈ e.cut new.first new.last) :
    g.Placed b ∧ (g.dir, g.quantity) = (e.dir, e.quantity) ∧ e.start b ≤ g.start b ∧ g.stop b ≤ e.stop b ∧
    (g.stop b ≤ new.start b ∨ new.stop b ≤ g.start b) := by
  have hstart := he.start_lt_stop
  have hstop := he.stop
  have hspan := hn.start_lt_stop
  rw [he.cut_eq hn] at hg
  split at hg
  · next h =>
    obtain rfl := List.mem_singleton.mp hg
    exact ⟨he, rfl, Nat.le_refl _, Nat.le_refl _, h⟩
  · next h =>
    obtain ⟨h1, rfl⟩ | ⟨h1, rfl⟩ :
        (e.start b < new.start b ∧ g = e.headBefore new b) ∨ (new.stop b < e.stop b ∧ g = e.tailAfter new b) := by
      simpa using hg
    · have hend := NomEntry.headBefore_stop h1
      exact ⟨⟨Nat.sub_pos_of_lt h1, by omega, he.first⟩, rfl, Nat.le_refl _, by omega, by omega⟩
    · have hfirst := hn.tailAfter_start e
      have hend := hn.tailAfter_stop h1
      exact ⟨⟨Nat.sub_pos_of_lt h1, by omega, hourAdd_lt _ _⟩, rfl, by omega, by omega, by omega⟩

/-- The parts that an edit leaves of an entry lie in order. -/
theorem NomEntry.Placed.cut_inOrder : InOrder b (e.cut new.first new.last) := by
  refine ⟨fun g hg => (he.mem_cut hn hg).1, ?_⟩
  have hspan := hn.start_lt_stop
  rw [he.cut_eq hn]
  repeat' split
  all_goals simp only [List.nil_append, List.append_nil, List.singleton_append, List.pairwise_cons, List.Pairwise.nil,
    List.not_mem_nil, false_implies, List.mem_singleton, forall_eq, implies_true, and_self, and_true]
  next h1 h2 =>
    rw [NomEntry.Precedes, NomEntry.headBefore_stop h1, hn.tailAfter_start]
    exact Nat.le_of_lt hspan

/-- The hours that an edit leaves of an entry are those outside the edit span. -/
theorem NomEntry.Placed.cut_on {k : Nat} :
    (∃ g ∈ e.cut new.first new.last, g.On b k) ↔ e.On b k ∧ ¬ new.On b k := by
  constructor
  · rintro ⟨g, hg, h1, h2⟩
    obtain ⟨-, -, hs, ht, hapart⟩ := he.mem_cut hn hg
    exact ⟨⟨by omega, by omega⟩, fun ⟨h3, h4⟩ => by omega⟩
  · rintro ⟨⟨h1, h2⟩, hoff⟩
    have hoff : k < new.start b ∨ new.stop b ≤ k := by
      by_contra h
      exact hoff ⟨by omega, by omega⟩
    rw [he.cut_eq hn]
    split
    · exact ⟨e, List.mem_singleton_self e, h1, h2⟩
    · next h =>
      rcases hoff with hk | hk
      · have hlt : e.start b < new.start b := by omega
        refine ⟨e.headBefore new b, by simp [hlt], h1, ?_⟩
        rwa [NomEntry.headBefore_stop hlt]
      · have hlt : new.stop b < e.stop b := by omega
        refine ⟨e.tailAfter new b, by simp [hlt], ?_, ?_⟩
        · rwa [hn.tailAfter_start]
        · rwa [hn.tailAfter_stop hlt]

end

/-! ### The edited list (05 R72 to R74) -/

section
variable {b : Nat} {es : List NomEntry} {new : NomEntry} (h : InOrder b es) (hn : new.Placed b)
include h hn

/-- What an edit leaves of a list in order is in order, and apart from the edit span. -/
theorem InOrder.cut : InOrder b (es.flatMap (fun e => e.cut new.first new.last)) := by
  refine ⟨fun g hg => ?_, List.pairwise_flatMap.mpr ⟨fun e he => ((h.placed e he).cut_inOrder hn).order, ?_⟩⟩
  · obtain ⟨e, he, hg⟩ := List.mem_flatMap.mp hg
    exact ((h.placed e he).mem_cut hn hg).1
  · refine List.Pairwise.imp_of_mem (fun {e f} he hf hef g hg g' hg' => ?_) h.order
    obtain ⟨-, -, -, hstop, -⟩ := (h.placed e he).mem_cut hn hg
    obtain ⟨-, -, hstart, -, -⟩ := (h.placed f hf).mem_cut hn hg'
    exact (hstop.trans hef).trans hstart

theorem InOrder.cut_apart : ∀ g ∈ es.flatMap (fun e => e.cut new.first new.last),
    g.Precedes b new ∨ new.Precedes b g := fun g hg => by
  obtain ⟨e, he, hg⟩ := List.mem_flatMap.mp hg
  obtain ⟨-, -, -, -, hapart⟩ := (h.placed e he).mem_cut hn hg
  exact hapart

theorem InOrder.nominates_cut {k : Nat} {v : Dir × Nat} :
    Nominates b (es.flatMap (fun e => e.cut new.first new.last)) k v ↔ Nominates b es k v ∧ ¬ new.On b k := by
  constructor
  · rintro ⟨g, hg, hon, hv⟩
    obtain ⟨e, he, hg⟩ := List.mem_flatMap.mp hg
    obtain ⟨heon, hoff⟩ := ((h.placed e he).cut_on hn).mp ⟨g, hg, hon⟩
    exact ⟨⟨e, he, heon, ((h.placed e he).mem_cut hn hg).2.1.symm.trans hv⟩, hoff⟩
  · rintro ⟨⟨e, he, hon, hv⟩, hoff⟩
    obtain ⟨g, hg, hgon⟩ := ((h.placed e he).cut_on hn).mpr ⟨hon, hoff⟩
    exact ⟨g, List.mem_flatMap.mpr ⟨e, he, hg⟩, hgon, ((h.placed e he).mem_cut hn hg).2.1.trans hv⟩

end

theorem insertEntry_perm (e : NomEntry) (es : List NomEntry) : (insertEntry e es).Perm (e :: es) := by
  induction es with
  | nil => exact .refl _
  | cons x xs ih =>
    unfold insertEntry
    split
    · exact .refl _
    · exact (ih.cons x).trans (.swap e x xs)

/-- An entry inserted among entries that lie apart from it stands in order. -/
theorem InOrder.insert {b : Nat} {es : List NomEntry} {new : NomEntry} (h : InOrder b es) (hn : new.Placed b)
    (hapart : ∀ g ∈ es, g.Precedes b new ∨ new.Precedes b g) : InOrder b (insertEntry new es) := by
  induction es with
  | nil => exact inOrder_cons.mpr ⟨hn, List.forall_mem_nil _, h⟩
  | cons x xs ih =>
    obtain ⟨hx, hxs, hrest⟩ := inOrder_cons.mp h
    obtain ⟨hxapart, hapart⟩ := List.forall_mem_cons.mp hapart
    have hx1 := hx.start_lt_stop
    have hn1 := hn.start_lt_stop
    have hafter : hourAfter x.first new.first = true ↔ new.start b < x.start b := hourAfter_iff hx.start_lt hn.start_lt
    unfold insertEntry
    simp only [hafter]
    split
    · have hnx : new.Precedes b x := hxapart.resolve_left (fun (h : x.stop b ≤ new.start b) => by omega)
      refine inOrder_cons.mpr ⟨hn, List.forall_mem_cons.mpr ⟨hnx, fun f hf => ?_⟩, h⟩
      exact (hnx.trans (Nat.le_of_lt hx1)).trans (hxs f hf)
    · have hxn : x.Precedes b new := hxapart.resolve_right (fun (h : new.stop b ≤ x.start b) => by omega)
      refine inOrder_cons.mpr ⟨hx, fun f hf => ?_, ih hrest hapart⟩
      rcases List.mem_cons.mp ((insertEntry_perm new xs).mem_iff.mp hf) with rfl | hf
      · exact hxn
      · exact hxs f hf

theorem nominates_insert {b k : Nat} {es : List NomEntry} {new : NomEntry} {v : Dir × Nat} :
    Nominates b (insertEntry new es) k v ↔ (new.On b k ∧ (new.dir, new.quantity) = v) ∨ Nominates b es k v := by
  rw [← nominates_cons]
  simp only [Nominates, (insertEntry_perm new es).mem_iff]

/-! ### Joined neighbours (05 R74) -/

/-- No entry is joined with its neighbour (05 R68). -/
def Joined (es : List NomEntry) : Prop := es.IsChain (fun e f => e.joins f = false)

/-- An entry and the one that it joins, as one entry. -/
def NomEntry.through (e f : NomEntry) : NomEntry := { e with span := e.span + f.span }

/-- An entry before a joined list, joined with the first of the list where they join. -/
def joinFirst (e : NomEntry) : List NomEntry → List NomEntry
  | [] => [e]
  | f :: fs => if e.joins f = true then e.through f :: fs else e :: f :: fs

theorem joinFirst_cons (e f : NomEntry) (fs : List NomEntry) :
    joinFirst e (f :: fs) = if e.joins f = true then e.through f :: fs else e :: f :: fs := rfl

theorem joinEntries_cons (e : NomEntry) (es : List NomEntry) :
    joinEntries (e :: es) = joinFirst e (joinEntries es) := by
  rw [joinEntries]
  cases joinEntries es <;> rfl

/-- Each joined entry begins where one of the entries begins, with its direction and quantity. -/
theorem mem_joinEntries {g : NomEntry} {es : List NomEntry} (hg : g ∈ joinEntries es) :
    ∃ e ∈ es, g.first = e.first ∧ g.dir = e.dir ∧ g.quantity = e.quantity := by
  induction es with
  | nil => nomatch hg
  | cons e es ih =>
    have later (hg : g ∈ joinEntries es) := (ih hg).imp fun _ h => And.imp_left (List.mem_cons_of_mem e) h
    have first {g : NomEntry} (hg : g.first = e.first ∧ g.dir = e.dir ∧ g.quantity = e.quantity) :
        ∃ x ∈ e :: es, g.first = x.first ∧ g.dir = x.dir ∧ g.quantity = x.quantity := ⟨e, List.mem_cons_self, hg⟩
    rw [joinEntries_cons] at hg
    cases hj : joinEntries es with
    | nil =>
      rw [hj] at hg
      obtain rfl := List.mem_singleton.mp hg
      exact first ⟨rfl, rfl, rfl⟩
    | cons f fs =>
      rw [hj] at hg later
      rw [joinFirst_cons] at hg
      split at hg
      · rcases List.mem_cons.mp hg with rfl | hg
        · exact first ⟨rfl, rfl, rfl⟩
        · exact later (List.mem_cons_of_mem f hg)
      · rcases List.mem_cons.mp hg with rfl | hg
        · exact first ⟨rfl, rfl, rfl⟩
        · exact later hg

/-- An entry before a joined list in order: in order again with no neighbours to join, and every hour keeps its
nomination. -/
theorem InOrder.joined_first {b : Nat} {e : NomEntry} {es : List NomEntry} (h : InOrder b (e :: es)) (hj : Joined es) :
    InOrder b (joinFirst e es) ∧ Joined (joinFirst e es) ∧
    ∀ k v, Nominates b (joinFirst e es) k v ↔ Nominates b (e :: es) k v := by
  cases es with
  | nil => exact ⟨h, .singleton e, fun _ _ => .rfl⟩
  | cons f fs =>
    obtain ⟨he, hef, hfs⟩ := inOrder_cons.mp h
    obtain ⟨hf, hffs, hrest⟩ := inOrder_cons.mp hfs
    rw [joinFirst_cons]
    split
    · next hjoin =>
      obtain ⟨hadj, hdir, hq⟩ := (he.joins_iff hf).mp hjoin
      have hstop : (e.through f).stop b = f.stop b := by
        show e.start b + (e.span + f.span) = f.start b + f.span
        rw [← hadj, NomEntry.stop, Nat.add_assoc]
      have hthrough : (e.through f).Placed b := ⟨Nat.le_add_right_of_le he.span, hstop ▸ hf.stop, he.first⟩
      refine ⟨inOrder_cons.mpr ⟨hthrough, fun g hg => ?_, hrest⟩, ?_, fun k v => ?_⟩
      · exact hstop.trans_le (hffs g hg)
      · cases fs with
        | nil => exact .singleton _
        | cons g gs =>
          obtain ⟨hfg, hgs⟩ := List.isChain_cons_cons.mp hj
          have hg := hrest.placed g List.mem_cons_self
          refine List.isChain_cons_cons.mpr ⟨Bool.eq_false_iff.mpr fun hjoin => Bool.eq_false_iff.mp hfg ?_, hgs⟩
          obtain ⟨h1, h2, h3⟩ := (hthrough.joins_iff hg).mp hjoin
          exact (hf.joins_iff hg).mpr ⟨hstop.symm.trans h1, hdir.symm.trans h2, hq.symm.trans h3⟩
      · have hon : (e.through f).On b k ↔ e.On b k ∨ f.On b k := by
          have h1 := he.start_lt_stop
          have h2 := hf.start_lt_stop
          have h3 : (e.through f).start b = e.start b := rfl
          simp only [NomEntry.On, hstop, h3]
          omega
        rw [nominates_cons, nominates_cons, nominates_cons, hon, or_and_right, or_assoc]
        show (_ ∧ (e.dir, e.quantity) = v) ∨ (_ ∧ (e.dir, e.quantity) = v) ∨ _ ↔ _
        rw [hdir, hq]
    · next hjoin => exact ⟨h, List.isChain_cons_cons.mpr ⟨Bool.eq_false_iff.mpr hjoin, hj⟩, fun _ _ => .rfl⟩

/-- Joining a list in order leaves it in order with no neighbours to join, and every hour its nomination. -/
theorem InOrder.join {b : Nat} {es : List NomEntry} (h : InOrder b es) :
    InOrder b (joinEntries es) ∧ Joined (joinEntries es) ∧
    ∀ k v, Nominates b (joinEntries es) k v ↔ Nominates b es k v := by
  induction es with
  | nil => exact ⟨h, .nil, fun _ _ => .rfl⟩
  | cons e es ih =>
    obtain ⟨he, hes, hrest⟩ := inOrder_cons.mp h
    obtain ⟨hin, hjoined, hnom⟩ := ih hrest
    have hcons : InOrder b (e :: joinEntries es) := inOrder_cons.mpr ⟨he, fun g hg => by
      obtain ⟨f, hf, hfirst, -, -⟩ := mem_joinEntries hg
      have hstart : g.start b = f.start b := congrArg (hourDiff · b) hfirst
      exact (hes f hf).trans_eq hstart.symm, hin⟩
    obtain ⟨h1, h2, h3⟩ := hcons.joined_first hjoined
    rw [joinEntries_cons]
    exact ⟨h1, h2, fun k v => by rw [h3, nominates_cons, nominates_cons, hnom]⟩

/-! ### The edit (05 R72 to R74) -/

/-- An edit of a list in order: it stays in order with no neighbours to join, and the hours of the edit span carry the
new nomination, or none for quantity 0, every other hour the one it had. -/
theorem InOrder.edit {b : Nat} {es : List NomEntry} {new : NomEntry} (h : InOrder b es) (hn : new.Placed b) :
    InOrder b (editEntries es new) ∧ Joined (editEntries es new) ∧
    ∀ k v, Nominates b (editEntries es new) k v ↔
      if new.On b k then new.quantity ≠ 0 ∧ (new.dir, new.quantity) = v else Nominates b es k v := by
  unfold editEntries
  dsimp only
  by_cases hq : new.quantity = 0
  · rw [if_pos hq]
    obtain ⟨h1, h2, h3⟩ := (h.cut hn).join
    refine ⟨h1, h2, fun k v => ?_⟩
    rw [h3, h.nominates_cut hn]
    split <;> simp [*]
  · rw [if_neg hq]
    obtain ⟨h1, h2, h3⟩ := ((h.cut hn).insert hn (h.cut_apart hn)).join
    refine ⟨h1, h2, fun k v => ?_⟩
    rw [h3, nominates_insert, h.nominates_cut hn]
    split
    · next hon => exact ⟨fun hv => ⟨hq, (hv.resolve_right fun h => h.2 hon).2⟩, fun hv => .inl ⟨hon, hv.2⟩⟩
    · next hoff => exact ⟨fun hv => (hv.resolve_left fun h => hoff h.1).1, fun hv => .inr ⟨hv, hoff⟩⟩

/-- The nomination of each hour after an edit. -/
theorem InOrder.nomination_edit {b x : Nat} {p : Partition} {new : NomEntry} (h : InOrder b p.entries)
    (hn : new.Placed b) (hx : hourDiff x b < 786432) :
    Partition.nomination { p with entries := editEntries p.entries new } x =
      if new.On b (hourDiff x b) then (if new.quantity = 0 then none else some (new.dir, new.quantity))
      else p.nomination x := by
  obtain ⟨h1, -, h3⟩ := h.edit hn
  ext v
  rw [InOrder.nomination_iff (p := { p with entries := editEntries p.entries new }) h1 hx, h3]
  split
  · split <;> simp [*]
  · exact (h.nomination_iff hx).symm

/-- The first clause of O35: an edit acts hour by hour, and keeps the list in order, without overlap and joined. -/
theorem edit_actsByHour (p : Partition) (b : Nat) (new : NomEntry) (x : Nat) :
    let ahead (y : Nat) : Nat := (y + (1572864 - b % 1572864)) % 1572864
    inOrderFrom b p.entries = true → (∀ e ∈ p.entries, e.first < 1572864) → new.first < 1572864 →
    1 ≤ new.span → ahead new.first + new.span ≤ 786432 →
    x < 1572864 → ahead x < 786432 →
    let q : Partition := { p with entries := editEntries p.entries new }
    q.nomination x =
      (if ahead new.first ≤ ahead x ∧ ahead x < ahead new.first + new.span then
        (if new.quantity = 0 then none else some (new.dir, new.quantity))
       else p.nomination x) ∧
    inOrderFrom b q.entries = true ∧
    q.entries.IsChain (fun e f =>
      ¬ (ahead e.first + e.span = ahead f.first ∧ e.dir = f.dir ∧ e.quantity = f.quantity)) := by
  intro ahead hes hfirst hnew hspan hstop _ hx q
  have h := (inOrderFrom_iff hfirst).mp hes
  have hn : new.Placed b := ⟨hspan, hstop, hnew⟩
  obtain ⟨h1, h2, -⟩ := h.edit hn
  refine ⟨h.nomination_edit hn hx, (inOrderFrom_iff fun e he => (h1.placed e he).first).mpr h1, ?_⟩
  refine List.IsChain.imp_of_mem_imp (fun {e f} he hf hjoin hadj => Bool.eq_false_iff.mp hjoin ?_) h2
  exact ((h1.placed e he).joins_iff (h1.placed f hf)).mpr hadj

end Sys2Proof.Machine
end

section
/-! The law of 05 R68 for one partition: it is kept by an edit (R72 to R74) and by a retirement (R78), which is also
what a SET CLOCK does with the nominations that a reset kept (R80). -/

open Sys2Proof Sys2Proof.Machine

namespace Sys2Proof.Machine

/-! ### The law of one partition (05 R68) -/

/-- The entries of a partition lie in order from `b` on, joined, and with quantities of their range. -/
structure LawfulFrom (b : Nat) (es : List NomEntry) : Prop where
  inOrder : InOrder b es
  joined : Joined es
  quantities : ∀ e ∈ es, 1 ≤ e.quantity ∧ e.quantity ≤ 10000000

theorem entriesFrom_iff {b : Nat} {es : List NomEntry} : entriesFrom b es = true ↔ LawfulFrom b es := by
  simp only [entriesFrom, Bool.and_eq_true, List.all_eq_true, decide_eq_true_eq]
  constructor
  · rintro ⟨⟨ho, hj⟩, hf⟩
    exact ⟨(inOrderFrom_iff fun e he => (hf e he).1.1).mp ho, hj, fun e he => ⟨(hf e he).1.2, (hf e he).2⟩⟩
  · rintro ⟨ho, hj, hq⟩
    have hf := fun e he => (ho.placed e he).first
    exact ⟨⟨(inOrderFrom_iff hf).mpr ho, hj⟩, fun e he => ⟨⟨hf e he, (hq e he).1⟩, (hq e he).2⟩⟩

theorem lawfulFrom_nil (b : Nat) : LawfulFrom b [] := ⟨inOrder_nil b, .nil, List.forall_mem_nil _⟩

/-- A base hour counts by its hour number. -/
theorem LawfulFrom.congr {b c : Nat} {es : List NomEntry} (h : LawfulFrom b es) (hc : b % 1572864 = c % 1572864) :
    LawfulFrom c es := by
  have heq : ∀ e : NomEntry, e.start c = e.start b := fun e => hourDiff_congr hc.symm e.first
  refine ⟨⟨fun e he => ?_, h.inOrder.order.imp fun {e f} hef => ?_⟩, h.joined, h.quantities⟩
  · have hp := h.inOrder.placed e he
    exact ⟨hp.span, (congrArg (· + e.span) (heq e)).trans_le hp.stop, hp.first⟩
  · unfold NomEntry.Precedes NomEntry.stop at *
    rwa [heq, heq]

/-- Entries that lie from a later base hour on are in order from it. -/
theorem InOrder.rebase {b c : Nat} {es : List NomEntry} (h : InOrder b es)
    (hc : ∀ e ∈ es, hourDiff c b ≤ e.start b) : InOrder c es := by
  have heq : ∀ e ∈ es, e.start c = e.start b - hourDiff c b := fun e he => by
    have hbase := hourDiff_rebase e.first b c
    have hle := hc e he
    unfold NomEntry.start at *
    omega
  refine ⟨fun e he => ?_, List.Pairwise.imp_of_mem (fun {e f} he hf hef => ?_) h.order⟩
  · have hp := h.placed e he
    refine ⟨hp.span, ?_, hp.first⟩
    have hstop := hp.stop
    unfold NomEntry.stop at *
    rw [heq e he]
    omega
  · unfold NomEntry.Precedes NomEntry.stop at *
    rw [heq e he, heq f hf]
    have := hc e he
    omega

/-- What is in order from some hour on keeps the law with no current hour to count from. -/
theorem LawfulFrom.sound {b : Nat} {es : List NomEntry} (h : LawfulFrom b es) : entriesSound es = true := by
  refine entriesFrom_iff.mpr ⟨?_, h.joined, h.quantities⟩
  cases es with
  | nil => exact inOrder_nil _
  | cons e es =>
    obtain ⟨he, hes, -⟩ := inOrder_cons.mp h.inOrder
    refine h.inOrder.rebase (List.forall_mem_cons.mpr ⟨Nat.le_refl _, fun f hf => ?_⟩)
    exact (Nat.le_of_lt he.start_lt_stop).trans (hes f hf)

theorem entriesSound_iff {es : List NomEntry} : entriesSound es = true ↔ ∃ b, LawfulFrom b es :=
  ⟨fun h => ⟨_, entriesFrom_iff.mp h⟩, fun ⟨_, h⟩ => h.sound⟩

/-- An edit keeps the law of a partition. -/
theorem LawfulFrom.edit {b : Nat} {es : List NomEntry} {new : NomEntry} (h : LawfulFrom b es) (hn : new.Placed b)
    (hq : new.quantity ≤ 10000000) : LawfulFrom b (editEntries es new) := by
  obtain ⟨h1, h2, h3⟩ := h.inOrder.edit hn
  refine ⟨h1, h2, fun e he => ?_⟩
  have hnom : Nominates b (editEntries es new) (e.start b) (e.dir, e.quantity) :=
    ⟨e, he, ⟨Nat.le_refl _, (h1.placed e he).start_lt_stop⟩, rfl⟩
  rw [h3] at hnom
  split at hnom
  · obtain ⟨h0, hv⟩ := hnom
    have hv : new.quantity = e.quantity := congrArg Prod.snd hv
    omega
  · obtain ⟨f, hf, -, hv⟩ := hnom
    have hv : f.quantity = e.quantity := congrArg Prod.snd hv
    exact hv ▸ h.quantities f hf

/-! ### Retirement (05 R78) -/

/-- No entry joins a later one, neighbour or not: between two others there is an hour of the one between. -/
theorem InOrder.joined_pairwise {b : Nat} {es : List NomEntry} (h : InOrder b es) (hj : Joined es) :
    es.Pairwise (fun e f => e.joins f = false) := by
  induction es with
  | nil => exact .nil
  | cons e es ih =>
    obtain ⟨he, hes, hrest⟩ := inOrder_cons.mp h
    cases es with
    | nil => exact List.pairwise_singleton _ _
    | cons m ms =>
      obtain ⟨hem, hms⟩ := List.isChain_cons_cons.mp hj
      obtain ⟨hm, hmf, -⟩ := inOrder_cons.mp hrest
      refine List.pairwise_cons.mpr ⟨List.forall_mem_cons.mpr ⟨hem, fun f hf => Bool.eq_false_iff.mpr fun hjoin => ?_⟩,
        ih hrest hms⟩
      have hadj := ((he.joins_iff (hrest.placed f (List.mem_cons_of_mem m hf))).mp hjoin).1
      have h1 : e.stop b ≤ m.start b := hes m List.mem_cons_self
      have h2 : m.stop b ≤ f.start b := hmf f hf
      have h3 := hm.start_lt_stop
      omega

/-- What a retirement leaves of an entry: all of it where its first hour is later, or the hours that are, from the one
after the retired hours on; and in both cases its last hour stands. -/
theorem NomEntry.Placed.mem_retire {e g : NomEntry} {b h : Nat} (he : e.Placed b) (hg : g ∈ e.retire h) :
    g.Placed (hourAdd h 1) ∧ g.last = e.last ∧ g.dir = e.dir ∧ g.quantity = e.quantity ∧
    (g = e ∨ 786432 ≤ e.start (hourAdd h 1)) := by
  have hb := he.stop
  have hspan := he.span
  unfold NomEntry.retire at hg
  split at hg
  · nomatch hg
  · next hl =>
    have hlast := hourAtOrBefore_iff_le.not.mp hl
    split at hg
    · next hf =>
      obtain rfl := List.mem_singleton.mp hg
      have hspan : hourDiff e.last h = hourDiff e.last (hourAdd h 1) + 1 := by
        simp only [hourDiff_eq, hourAdd, hourCount] at *
        omega
      have hstart : hourDiff (hourAdd h 1) (hourAdd h 1) = 0 := hourDiff_self _
      refine ⟨⟨?_, ?_, hourAdd_lt _ _⟩, ?_, rfl, rfl, .inr (hourAtOrBefore_iff_le.mp hf)⟩
      · show 1 ≤ hourDiff e.last h
        omega
      · show hourDiff (hourAdd h 1) (hourAdd h 1) + hourDiff e.last h ≤ 786432
        omega
      · show hourAdd (hourAdd h 1) (hourDiff e.last h - 1) = e.last
        rw [hspan]
        refine eq_of_hourDiff_eq (b := hourAdd h 1) (hourAdd_lt _ _) (hourAdd_lt _ _) ?_
        rw [hourDiff_hourAdd_of_lt] <;> omega
    · next hf =>
      obtain rfl := List.mem_singleton.mp hg
      have hfirst := hourAtOrBefore_iff_le.not.mp hf
      refine ⟨⟨hspan, ?_, he.first⟩, rfl, rfl, rfl, .inl rfl⟩
      have hadd : hourDiff g.last (hourAdd h 1) = (hourDiff g.first (hourAdd h 1) + (g.span - 1)) % 1572864 :=
        hourDiff_hourAdd _ _ _
      unfold NomEntry.stop NomEntry.start at *
      omega

/-- Of two entries of which something is left, the later one is left whole, and they stay in order. -/
theorem NomEntry.Placed.retire_precedes {e f g g' : NomEntry} {b h : Nat} (he : e.Placed b) (hf : f.Placed b)
    (hef : e.Precedes b f) (hg : g ∈ e.retire h) (hg' : g' ∈ f.retire h) :
    g' = f ∧ g.Precedes (hourAdd h 1) g' := by
  obtain ⟨hp, hlast, -, -, -⟩ := he.mem_retire hg
  obtain ⟨hp', hlast', -, -, hfirst⟩ := hf.mem_retire hg'
  have hek : hourDiff e.last (hourAdd h 1) < 786432 := hlast ▸ hp.last_lt
  have hfk : hourDiff f.last (hourAdd h 1) < 786432 := hlast' ▸ hp'.last_lt
  have hel := hourDiff_rebase e.last b (hourAdd h 1)
  have hfl := hourDiff_rebase f.last b (hourAdd h 1)
  have hff := hourDiff_rebase f.first b (hourAdd h 1)
  rw [he.last] at hel
  rw [hf.last] at hfl
  have h1 := he.start_lt_stop
  have h2 := hf.start_lt_stop
  have h3 := hf.stop
  have h4 := hp.start_lt_stop
  have hstop := hp.last
  rw [hlast] at hstop
  have hef : e.stop b ≤ f.start b := hef
  have hstart : hourDiff f.first (hourAdd h 1) = f.start (hourAdd h 1) := rfl
  have hstart' : hourDiff f.first b = f.start b := rfl
  have hwhole : g' = f := hfirst.resolve_right fun hbefore => by omega
  subst hwhole
  have h5 := hp'.start_lt
  refine ⟨rfl, ?_⟩
  unfold NomEntry.Precedes
  omega

/-- An entry of which hours are retired at its head joins what it joined. -/
theorem NomEntry.joins_congr {e g : NomEntry} (hlast : g.last = e.last) (hdir : g.dir = e.dir)
    (hq : g.quantity = e.quantity) (f : NomEntry) : g.joins f = e.joins f := by
  rw [NomEntry.joins, NomEntry.joins, hlast, hdir, hq]

/-- A retirement leaves no two entries of one. -/
theorem NomEntry.retire_pairwise (e : NomEntry) (h : Nat) {R : NomEntry → NomEntry → Prop} :
    (e.retire h).Pairwise R := by
  match e.retire h, e.retire_length h with
  | [], _ => exact .nil
  | [g], _ => exact List.pairwise_singleton R g

/-- A retirement leaves a lawful partition lawful, from the hour after the retired ones on. -/
theorem LawfulFrom.retire {b : Nat} {es : List NomEntry} (hes : LawfulFrom b es) (h : Nat) :
    LawfulFrom (hourAdd h 1) (es.flatMap (fun e => e.retire h)) := by
  have hp := hes.inOrder.placed
  refine ⟨⟨fun g hg => ?_, List.pairwise_flatMap.mpr ⟨fun e _ => e.retire_pairwise h, ?_⟩⟩, ?_, fun g hg => ?_⟩
  · obtain ⟨e, he, hg⟩ := List.mem_flatMap.mp hg
    exact ((hp e he).mem_retire hg).1
  · exact List.Pairwise.imp_of_mem (fun {e f} he hf hef g hg g' hg' =>
      ((hp e he).retire_precedes (hp f hf) hef hg hg').2) hes.inOrder.order
  · refine List.Pairwise.isChain (List.pairwise_flatMap.mpr ⟨fun e _ => e.retire_pairwise h, ?_⟩)
    refine List.Pairwise.imp_of_mem (fun {e f} he hf ⟨hef, hjoin⟩ g hg g' hg' => ?_)
      (hes.inOrder.order.and (hes.inOrder.joined_pairwise hes.joined))
    obtain ⟨-, hlast, hdir, hq, -⟩ := (hp e he).mem_retire hg
    rw [((hp e he).retire_precedes (hp f hf) hef hg hg').1]
    exact (NomEntry.joins_congr hlast hdir hq f).trans hjoin
  · obtain ⟨e, he, hg⟩ := List.mem_flatMap.mp hg
    obtain ⟨-, -, -, hq, -⟩ := (hp e he).mem_retire hg
    exact hq ▸ hes.quantities e he

end Sys2Proof.Machine
end

section
/-! The law of the nominations over a state (05 R68, R78, R80), the hours that are not closed yet, and what the law
reads. -/

open Sys2Proof Sys2Proof.Machine

namespace Sys2Proof.Machine

/-! ### The hours that are not closed yet -/

/-- The hours that wait for their close: that of the close in flight and those of the waiting hand-overs. -/
def State.closingHours (s : State) : List Nat :=
  (s.hcu.close.map (·.hand.hour)).toList ++ s.hcu.handOvers.map (·.hour)

theorem State.openHours_eq (s : State) :
    s.openHours = s.closingHours ++ if s.clk.boundaryDue then [s.endedHour] else [] := rfl

theorem State.openHours_of_settled {s : State} (h : s.clk.boundaryDue = false) : s.openHours = s.closingHours := by
  rw [State.openHours_eq, h]
  exact List.append_nil _

theorem State.oldestHour_eq (s : State) : s.oldestHour = s.openHours.head?.getD s.currentHour := rfl

/-- The hours follow one another, and the hour `cur` follows the last of them. -/
def HoursFollow : List Nat → Nat → Prop
  | [], _ => True
  | x :: xs, cur => hourAdd x (xs.length + 1) = cur % 1572864 ∧ HoursFollow xs cur

theorem hoursFollow_iff (hs : List Nat) (cur : Nat) :
    hs.zipIdx.all (fun x => hourAdd x.1 (hs.length - x.2) == cur % 1572864) = true ↔ HoursFollow hs cur := by
  have key (k : Nat) : (hs.zipIdx k).all (fun x => hourAdd x.1 (hs.length + k - x.2) == cur % 1572864) = true ↔
      HoursFollow hs cur := by
    induction hs generalizing k with
    | nil => simp [HoursFollow]
    | cons x xs ih =>
      rw [HoursFollow, ← ih (k + 1), List.zipIdx_cons, List.all_cons, Bool.and_eq_true, beq_iff_eq, List.length_cons,
        Nat.add_sub_cancel, Nat.add_right_comm xs.length 1 k, Nat.add_assoc xs.length k 1]
  exact key 0

/-- A current hour counts by its hour number. -/
theorem HoursFollow.congr {hs : List Nat} {cur cur' : Nat} (h : HoursFollow hs cur)
    (hc : cur % 1572864 = cur' % 1572864) : HoursFollow hs cur' := by
  induction hs with
  | nil => trivial
  | cons x xs ih => exact ⟨h.1.trans hc, ih h.2⟩

/-- The oldest of the hours lies as many hours before the current one as there are hours. -/
theorem HoursFollow.oldest {hs : List Nat} {cur : Nat} (h : HoursFollow hs cur) :
    hourAdd (hs.head?.getD cur) hs.length = cur % 1572864 := by
  cases hs with
  | nil => rfl
  | cons x xs => exact h.1

/-- Once the oldest hour is closed the next one is the oldest. -/
theorem HoursFollow.next {x cur : Nat} {xs : List Nat} (h : HoursFollow (x :: xs) cur) :
    hourAdd x 1 % 1572864 = (xs.head?.getD cur) % 1572864 := by
  have h1 := h.1
  have h2 := h.2.oldest
  simp only [hourAdd, hourCount] at *
  omega

/-- At the end of the current hour it joins the hours that are not closed. -/
theorem HoursFollow.append {hs : List Nat} {cur cur' : Nat} (h : HoursFollow hs cur)
    (hc : (cur + 1) % 1572864 = cur' % 1572864) : HoursFollow (hs ++ [hourPred cur']) cur' := by
  induction hs with
  | nil =>
    refine ⟨?_, trivial⟩
    simp only [hourAdd, hourPred, hourCount, List.length_nil]
    omega
  | cons x xs ih =>
    refine ⟨?_, ih h.2⟩
    have h1 := h.1
    have hlen : (xs.append [hourPred cur']).length = xs.length + 1 := List.length_append
    rw [hlen]
    simp only [hourAdd, hourCount] at *
    omega

/-! ### The law -/

/-- The entries of every partition. -/
def State.entryLists (s : State) : List (List NomEntry) := s.nst.map (·.entries)

/-- The nominations of a snapshot keep the law of R68, for one partition of each of the 16 shippers. -/
structure Snapshot.NominationsLawful (c : Snapshot) : Prop where
  partitions : c.entries.length = 16
  sound : ∀ es ∈ c.entries, entriesSound es = true
  sized : ∀ es ∈ c.entries, es.length ≤ 256 / shipperCount c.settings.mode

/-- The law of R68 for every partition of a state and of its stored snapshots. -/
structure NominationsLawful (s : State) : Prop where
  partitions : s.entryLists.length = 16
  second : s.clk.valid = true → s.clk.second < 86400
  lawful : s.clk.valid = true → ∀ es ∈ s.entryLists, LawfulFrom s.oldestHour es
  follow : s.clk.valid = true → HoursFollow s.openHours s.currentHour
  closed : s.clk.valid = false → s.openHours = []
  sound : s.clk.valid = false → ∀ es ∈ s.entryLists, entriesSound es = true
  sized : ∀ es ∈ s.entryLists, es.length ≤ s.partitionSize
  empty : s.sts.state = .blank → ∀ es ∈ s.entryLists, es = []
  idle : s.sts.state = .blank → s.closingHours = []
  content : ∀ c ∈ s.sns.content, c.NominationsLawful
  copy : ∀ c ∈ s.sns.copy, c.NominationsLawful

theorem State.noNominations_iff (s : State) :
    s.noNominations = true ↔ (∀ es ∈ s.entryLists, es = []) ∧ s.closingHours = [] := by
  unfold State.noNominations State.closingHours State.entryLists
  cases s.hcu.close <;> simp [List.isEmpty_iff]

theorem State.nominationLaw_iff {s : State} (hs : s.shaped = true) : s.nominationLaw = true ↔ NominationsLawful s := by
  obtain ⟨-, ht⟩ := s.shaped_iff.mp hs
  have snapshot_iff (x : Option Snapshot) (hx : ∀ c ∈ x, c.shaped = true) :
      x.all (fun c => c.entries.all (fun es =>
        entriesSound es && decide (es.length ≤ 256 / shipperCount c.settings.mode))) = true ↔
      ∀ c ∈ x, c.NominationsLawful := by
    simp only [Option.all_eq_true, List.all_eq_true, Bool.and_eq_true, decide_eq_true_eq]
    exact forall₂_congr fun c hc =>
      ⟨fun h => ⟨(c.shaped_iff.mp (hx c hc)).2.1, fun es he => (h es he).1, fun es he => (h es he).2⟩,
        fun h es he => ⟨h.sound es he, h.sized es he⟩⟩
  have hlists (p : List NomEntry → Prop) : (∀ q ∈ s.nst, p q.entries) ↔ ∀ es ∈ s.entryLists, p es :=
    List.forall_mem_map.symm
  have hblank : (!s.isBlank || s.noNominations) = true ↔
      (s.sts.state = .blank → (∀ es ∈ s.entryLists, es = []) ∧ s.closingHours = []) := by
    rw [← s.noNominations_iff, State.isBlank, Bool.or_eq_true, Bool.not_eq_true', beq_eq_false_iff_ne, imp_iff_not_or]
  have hclock : (if s.clk.valid then
      decide (s.clk.second < 86400) && s.nst.all (fun p => entriesFrom s.oldestHour p.entries) &&
      s.openHours.zipIdx.all (fun x => hourAdd x.1 (s.openHours.length - x.2) == s.currentHour % 1572864)
      else s.openHours.isEmpty && s.nst.all (fun p => entriesSound p.entries)) = true ↔
      (s.clk.valid = true → s.clk.second < 86400 ∧ (∀ es ∈ s.entryLists, LawfulFrom s.oldestHour es) ∧
        HoursFollow s.openHours s.currentHour) ∧
      (s.clk.valid = false → s.openHours = [] ∧ ∀ es ∈ s.entryLists, entriesSound es = true) := by
    cases s.clk.valid <;>
      simp [← hlists, entriesFrom_iff, ← hoursFollow_iff, and_assoc]
  simp only [State.nominationLaw, Bool.and_eq_true, hblank, hclock, List.all_cons, List.all_nil,
    snapshot_iff _ ht.content, snapshot_iff _ ht.copy, and_true]
  simp only [List.all_eq_true (l := s.nst), decide_eq_true_eq, hlists (fun es => es.length ≤ s.partitionSize)]
  constructor
  · rintro ⟨⟨⟨⟨hvalid, hinvalid⟩, hsize⟩, hblank⟩, hcontent, hcopy⟩
    exact ⟨(List.length_map _).trans ht.partitions, fun hv => (hvalid hv).1, fun hv => (hvalid hv).2.1,
      fun hv => (hvalid hv).2.2, fun hv => (hinvalid hv).1, fun hv => (hinvalid hv).2, hsize, fun hb => (hblank hb).1,
      fun hb => (hblank hb).2, hcontent, hcopy⟩
  · intro h
    exact ⟨⟨⟨⟨fun hv => ⟨h.second hv, h.lawful hv, h.follow hv⟩, fun hv => ⟨h.closed hv, h.sound hv⟩⟩, h.sized⟩,
      fun hb => ⟨h.empty hb, h.idle hb⟩⟩, h.content, h.copy⟩

/-! ### What the law reads -/

/-- What the law reads of a state, besides whether the station is BLANK. -/
structure NominationView where
  valid : Bool
  gasDay : Nat
  second : Nat
  mode : Nat
  entries : List (List NomEntry)
  openHours : List Nat
  content : Option Snapshot
  copy : Option Snapshot

def State.nominationView (s : State) : NominationView :=
  { valid := s.clk.valid, gasDay := s.clk.gasDay, second := s.clk.second, mode := s.cfg.mode, entries := s.entryLists
    openHours := s.openHours, content := s.sns.content, copy := s.sns.copy }

/-- `t` has all that the law reads as `s` has it, is BLANK only where `s` is, and has a boundary due only where `s`
has. -/
structure NominationsKept (s t : State) : Prop where
  view : t.nominationView = s.nominationView
  blank : t.sts.state = .blank → s.sts.state = .blank ∧ t.closingHours = s.closingHours
  settled : s.clk.boundaryDue = false → t.clk.boundaryDue = false

theorem NominationsKept.of_eq {s t : State}
    (h : (t.nominationView, t.sts, t.closingHours, t.clk.boundaryDue) =
      (s.nominationView, s.sts, s.closingHours, s.clk.boundaryDue)) : NominationsKept s t := by
  obtain ⟨hview, hsts, hclosing, hdue⟩ : _ ∧ _ ∧ _ ∧ _ := by simpa only [Prod.mk.injEq] using h
  exact ⟨hview, fun hb => ⟨hsts ▸ hb, hclosing⟩, fun hs => hdue.trans hs⟩

theorem NominationsKept.refl (s : State) : NominationsKept s s := .of_eq rfl

theorem NominationsKept.trans {s t u : State} (h1 : NominationsKept s t) (h2 : NominationsKept t u) :
    NominationsKept s u := by
  refine ⟨h2.view.trans h1.view, fun hb => ?_, h2.settled ∘ h1.settled⟩
  obtain ⟨ht, hu⟩ := h2.blank hb
  exact ⟨(h1.blank ht).1, hu.trans (h1.blank ht).2⟩

theorem NominationsKept.ite {s a b : State} {p : Prop} [Decidable p] (h1 : NominationsKept s a)
    (h2 : NominationsKept s b) : NominationsKept s (if p then a else b) := by split <;> assumption

theorem NominationsKept.forEach {f : State → Nat → State} {ns : List Nat} (h : ∀ u n, NominationsKept u (f u n))
    (s : State) : NominationsKept s (s.forEach ns f) :=
  State.forEach_induct (P := NominationsKept s) (.refl s) (fun u n _ hu => hu.trans (h u n))

section
variable {s t : State} (h : NominationsKept s t)
include h

theorem NominationsKept.valid : t.clk.valid = s.clk.valid := congrArg NominationView.valid h.view
theorem NominationsKept.second : t.clk.second = s.clk.second := congrArg NominationView.second h.view
theorem NominationsKept.entryLists : t.entryLists = s.entryLists := congrArg NominationView.entries h.view
theorem NominationsKept.openHours : t.openHours = s.openHours := congrArg NominationView.openHours h.view
theorem NominationsKept.content : t.sns.content = s.sns.content := congrArg NominationView.content h.view
theorem NominationsKept.copy : t.sns.copy = s.sns.copy := congrArg NominationView.copy h.view

theorem NominationsKept.gasDay : t.clk.gasDay = s.clk.gasDay := congrArg NominationView.gasDay h.view

theorem NominationsKept.currentHour : t.currentHour = s.currentHour := by
  rw [State.currentHour, State.currentHour, h.gasDay, h.second]

theorem NominationsKept.partitionSize : t.partitionSize = s.partitionSize :=
  congrArg (fun v : NominationView => 256 / shipperCount v.mode) h.view

theorem NominationsKept.oldestHour : t.oldestHour = s.oldestHour := by
  rw [State.oldestHour_eq, State.oldestHour_eq, h.openHours, h.currentHour]

/-- The law follows what it reads. -/
theorem NominationsKept.law (hs : NominationsLawful s) : NominationsLawful t where
  partitions := h.entryLists ▸ hs.partitions
  second hv := h.second ▸ hs.second (h.valid ▸ hv)
  lawful hv := h.entryLists ▸ h.oldestHour ▸ hs.lawful (h.valid ▸ hv)
  follow hv := h.openHours ▸ h.currentHour ▸ hs.follow (h.valid ▸ hv)
  closed hv := h.openHours ▸ hs.closed (h.valid ▸ hv)
  sound hv := h.entryLists ▸ hs.sound (h.valid ▸ hv)
  sized := h.entryLists ▸ h.partitionSize ▸ hs.sized
  empty hb := h.entryLists ▸ hs.empty (h.blank hb).1
  idle hb := (h.blank hb).2.trans (hs.idle (h.blank hb).1)
  content := h.content ▸ hs.content
  copy := h.copy ▸ hs.copy

end

end Sys2Proof.Machine
end

section
/-! The operations that leave what the law of the nominations reads (05 R68): those of the plant, of the accounts and of
the link. -/

open Sys2Proof Sys2Proof.Machine

namespace Sys2Proof.Machine

/-! ### Reports and the plant -/

theorem PlantMoved.nominations {s t : State} (h : PlantMoved s t) : NominationsKept s t := by
  refine .of_eq ?_
  unfold State.nominationView State.entryLists State.openHours State.closingHours State.endedHour State.currentHour
  rw [h.clk, h.cfg, h.nst, h.hcu, h.sns, h.sts]

theorem Reported.nominations {s t : State} (h : Reported s t) : NominationsKept s t := h.plant.nominations

theorem State.raise_nominations (s : State) (k : AlertKind) (o : Nat) : NominationsKept s (s.raise k o) :=
  (s.raise_reported k o).nominations

theorem NominationsKept.of_smt (s : State) (x : List Point) : NominationsKept s { s with smt := x } := .of_eq rfl
theorem NominationsKept.of_mtu (s : State) (x : Meter) : NominationsKept s { s with mtu := x } := .of_eq rfl
theorem NominationsKept.of_act (s : State) (x : Accounts) : NominationsKept s { s with act := x } := .of_eq rfl
theorem NominationsKept.of_plu (s : State) (x : Planner) : NominationsKept s { s with plu := x } := .of_eq rfl
theorem NominationsKept.of_slk (s : State) (x : Link) : NominationsKept s { s with slk := x } := .of_eq rfl
theorem NominationsKept.of_ori (s : State) (x : List OrderEntry) : NominationsKept s { s with ori := x } := .of_eq rfl

theorem State.makePlanDue_nominations (s : State) : NominationsKept s s.makePlanDue := .of_eq rfl

theorem State.makeSnapshotDue_nominations (s : State) : NominationsKept s s.makeSnapshotDue := .of_eq rfl

theorem State.setAccount_nominations (s : State) (n : Nat) (a : Account) : NominationsKept s (s.setAccount n a) :=
  .of_eq rfl

/-- A command that sets the station state to one other than BLANK, and otherwise moves the plant. -/
theorem PlantMoved.nominations_of_station {s t : State} {st : StationState} (h : PlantMoved (s.setStation st) t)
    (hst : st ≠ .blank) : NominationsKept s t :=
  NominationsKept.trans (t := s.setStation st) ⟨rfl, fun hb => absurd hb hst, id⟩ h.nominations

/-! ### The station's commands (01 R7 to R11) -/

theorem State.tripAsserted_nominations (s : State) : NominationsKept s s.tripAsserted := by
  have hentry := s.tripEntry_plant.nominations_of_station (nofun)
  unfold State.tripAsserted
  cases s.sts.state
  case parked => exact hentry
  case running => exact hentry
  all_goals exact s.raise_nominations _ _

theorem State.command_nominations (s : State) (action : Nat) : NominationsKept s (s.command action) :=
  .ite (s.start_plant.nominations_of_station nofun) (.ite (s.park_plant.nominations_of_station nofun)
    (.ite s.tripAsserted_nominations (s.resume_plant.nominations_of_station nofun)))

theorem State.leaveBlank_nominations (s : State) : NominationsKept s s.leaveBlank :=
  .ite (.ite (s.tripEntry_plant.nominations_of_station nofun)
    ((State.makePlanDue_caverns _).plant.nominations_of_station (st := .parked) nofun)) (.refl s)

/-! ### The accounts (04 R51 to R55) and the completions (06 R97, 10 R168) -/

theorem State.setRights_nominations (s : State) (n : Nat) (r : Rights) : NominationsKept s (s.setRights n r) :=
  have hset := s.setAccount_nominations n (Account.moveImbalance { s.accountOf n with rights := appliedRights r } 0).1
  .ite (hset.trans (State.raise_nominations _ _ _)) hset

theorem State.setAccountState_nominations (s : State) (n : Nat) (st : AccountState) :
    NominationsKept s (s.setAccountState n st) := .ite (.refl s) (.of_eq rfl)

theorem State.forgetShipper_nominations (s : State) (n : Nat) : NominationsKept s (s.forgetShipper n) := by
  unfold State.forgetShipper
  repeat' split
  · exact .of_plu s _
  · exact .refl s
  · exact .refl s

theorem State.shipperAction_nominations (s : State) (n action : Nat) (r : Rights) :
    NominationsKept s (s.shipperAction n action r).1 := by
  refine NominationsKept.trans ?_ (State.makeSnapshotDue_nominations _)
  refine .ite (.of_eq rfl) (.ite (s.setRights_nominations n r) (.ite (s.setAccountState_nominations n _)
    (.ite (s.setAccountState_nominations n _) ?_)))
  exact ((s.setAccount_nominations n _).trans (State.forgetShipper_nominations _ n)).trans
    (State.makePlanDue_nominations _)

theorem State.loadInventory_nominations (s : State) (n inventory : Nat) :
    NominationsKept s (s.loadInventory n inventory) := by
  have h : NominationsKept s (s.loaded n inventory).makeSnapshotDue := .of_eq rfl
  rw [State.loadInventory_eq]
  exact .ite (h.trans (State.raise_nominations _ _ _)) h

theorem postShipper_nominations (rs : List (Option ShipperResult)) (s : State) (n : Nat) :
    NominationsKept s (postShipper rs s n) := by
  unfold postShipper
  split
  · exact .ite ((s.setAccount_nominations n _).trans (State.raise_nominations _ _ _)) (s.setAccount_nominations n _)
  · exact .refl s

theorem State.completePlan_nominations (s : State) : NominationsKept s s.completePlan := by
  unfold State.completePlan
  split
  · exact .refl s
  · next e _ =>
    refine .ite ?_ (.of_plu s _)
    refine NominationsKept.trans ?_ (State.planTaken_plant _).nominations
    refine NominationsKept.trans ?_ (NominationsKept.of_plu _ _)
    refine NominationsKept.trans ?_ (State.offerReport_reported _ _).nominations
    have h : ∀ a p, NominationsKept s { s with act := a, plu := p } := fun _ _ => .of_eq rfl
    exact .ite ((h _ _).trans (State.raise_nominations _ _ _)) (h _ _)

/-! ### Time -/

theorem State.gradeAll_nominations (s : State) (f : PointKind → Point → Point) : NominationsKept s (s.gradeAll f) :=
  (NominationsKept.of_smt s _).trans (s.gradeAll_plant f).nominations

theorem State.testRequirement_nominations (s : State) : NominationsKept s s.testRequirement := by
  unfold State.testRequirement
  dsimp only
  repeat' split
  · exact .refl s
  · exact .refl s
  · exact .of_eq rfl

theorem stepMinute_nominations (s : State) : NominationsKept s (stepMinute s) := by
  have h : NominationsKept s { s with clk := { s.clk with minuteDue := false } } := .of_eq rfl
  exact .ite ((h.trans (State.cavernMinute_moved _).plant.nominations).trans (State.testRequirement_nominations _))
    (.refl s)

theorem stepStatus_nominations (s : State) : NominationsKept s (stepStatus s) :=
  .ite ((s.offerReport_reported _).nominations.trans (.of_slk _ _)) (.refl s)

/-- A close that begins takes the first of the hours that wait (10 R158). -/
theorem stepCloseBegin_nominations (s : State) : NominationsKept s (stepCloseBegin s) := by
  unfold stepCloseBegin
  split
  · next hdue =>
    have hclose : s.hcu.close = none := by
      simp only [State.closeDue, Bool.and_eq_true, Option.isNone_iff_eq_none] at hdue
      exact hdue.1
    split
    · next hand rest hwait =>
      refine .of_eq ?_
      have hsame : [hand.hour] ++ rest.map (·.hour) = s.closingHours := by
        rw [State.closingHours, hclose, hwait]
        rfl
      exact congrArg (fun l => ({ s.nominationView with
        openHours := l ++ if s.clk.boundaryDue then [s.endedHour] else [] }, s.sts, l, s.clk.boundaryDue)) hsame
    · exact .refl s
  · exact .refl s

/-! ### The requests of the plant and of the link -/

theorem State.clearPoints_nominations (s : State) (ps : List Nat) : NominationsKept s (s.clearPoints ps) := by
  rw [State.clearPoints_eq]
  exact .of_smt s _

theorem State.takePairs_nominations (ps : List (Nat × Nat)) (s : State) : NominationsKept s (s.takePairs ps).1 :=
  State.takePairs_keeps (P := NominationsKept s)
    (fun u p k v c hu => hu.trans ((NominationsKept.of_smt u _).trans (u.storeSample_plant p k v c).nominations))
    ps (.refl s)

theorem State.applyCavern_nominations (s : State) (j : Nat) (f : CavernConfig) (ia : Nat) (v : Int) :
    NominationsKept s (s.applyCavern j f ia v) := by
  have hset := fun c => (s.setCavern_moved j c).plant.nominations
  unfold State.applyCavern
  dsimp only
  split
  · exact ((hset _).trans (.of_act _ _)).trans (State.cavernsChanged_moved _).plant.nominations
  · exact (hset _).trans (State.cavernsChanged_moved _).plant.nominations

theorem State.dropCavern_nominations (s : State) (j : Nat) : NominationsKept s (s.dropCavern j) :=
  ((s.setCavern_moved j none).plant.nominations.trans (State.clearPoints_nominations _ _)).trans
    (State.cavernsChanged_moved _).plant.nominations

theorem State.cavernAction_nominations (s : State) (j action : Nat) (f : CavernConfig) (ia : Nat) (v : Int) :
    NominationsKept s (s.cavernAction j action f ia v).1 := by
  unfold State.cavernAction
  split
  · exact (s.applyCavern_nominations j f ia v).trans (State.makeSnapshotDue_nominations _)
  · exact (s.dropCavern_nominations j).trans (State.makeSnapshotDue_nominations _)

theorem State.cavernModeAction_nominations (s : State) (j action : Nat) :
    NominationsKept s (s.cavernModeAction j action) :=
  NominationsKept.trans (.ite (s.cavernInService_moved j).plant.nominations
    (.ite (s.cavernOutOfService_moved j).plant.nominations (s.abandonSettle_moved j).plant.nominations))
    (State.makeSnapshotDue_nominations _)

theorem State.unitAction_nominations (s : State) (k action : Nat) (f : UnitFields) :
    NominationsKept s (s.unitAction k action f).1 := by
  have hset := fun u => (s.setUnit_moved k u).plant.nominations
  unfold State.unitAction
  split
  · exact (hset _).trans (State.makeSnapshotDue_nominations _)
  · exact ((hset none).trans (State.clearPoints_nominations _ _)).trans (State.makeSnapshotDue_nominations _)

theorem State.unitModeAction_nominations (s : State) (k action : Nat) :
    NominationsKept s (s.unitModeAction k action) :=
  NominationsKept.trans (.ite (s.unitAvailable_moved k).plant.nominations
    (.ite (s.unitUnavailable_moved k).plant.nominations (s.unitRelease_moved k).plant.nominations))
    (State.makeSnapshotDue_nominations _)

theorem State.trainAction_nominations (s : State) (t action : Nat) (f : TrainFields) :
    NominationsKept s (s.trainAction t action f).1 := by
  unfold State.trainAction
  split
  · exact (s.applyTrain_moved t f).plant.nominations.trans (State.makeSnapshotDue_nominations _)
  · refine NominationsKept.trans ?_ (State.makeSnapshotDue_nominations _)
    refine NominationsKept.trans ?_ (State.writeTrainStep_ordered _ _ _).plant.nominations
    refine NominationsKept.trans ?_ (State.writeTrainBed_ordered _ _ _).plant.nominations
    exact (s.setTrain_moved t none).plant.nominations.trans (State.clearPoints_nominations _ _)

theorem State.trainModeAction_nominations (s : State) (t action : Nat) :
    NominationsKept s (s.trainModeAction t action) :=
  NominationsKept.trans (.ite (s.trainInService_moved t).plant.nominations
    (.ite (s.trainOutOfService_moved t).plant.nominations (s.trainSwitch_moved t).plant.nominations))
    (State.makeSnapshotDue_nominations _)

theorem State.controlAlerts_nominations (s : State) (set clear pend : Nat) :
    NominationsKept s (s.controlAlerts set clear pend) := .ite (.of_eq rfl) (.of_eq rfl)

theorem State.clearLink_nominations (s : State) : NominationsKept s s.clearLink :=
  State.clearLink_keeps (P := NominationsKept s) (fun u _ hu => hu.trans (.of_slk u _))
    (fun u _ _ hu _ => hu.trans (.of_ori u _)) (.refl s)

end Sys2Proof.Machine
end

section
/-! Operations that change what the law of the nominations reads (05 R68): partitions written and retired, and the
clock. -/

open Sys2Proof Sys2Proof.Machine

namespace Sys2Proof.Machine

/-! ### What an operation keeps -/

/-- The law of the nominations, with at most three hours not closed, and with no boundary due where `settled` holds. -/
structure Steady (settled : Prop) (s : State) : Prop where
  law : NominationsLawful s
  few : s.openHours.length ≤ 3
  settled : settled → s.clk.boundaryDue = false

/-- From `s` to `t` the law stays, and where no boundary was due none is. -/
def KeepsNominations (s t : State) : Prop := ∀ settled, Steady settled s → Steady settled t

theorem KeepsNominations.refl (s : State) : KeepsNominations s s := fun _ => id

theorem KeepsNominations.trans {s t u : State} (h1 : KeepsNominations s t) (h2 : KeepsNominations t u) :
    KeepsNominations s u := fun c h => h2 c (h1 c h)

theorem KeepsNominations.ite {s a b : State} {p : Prop} [Decidable p] (h1 : KeepsNominations s a)
    (h2 : KeepsNominations s b) : KeepsNominations s (if p then a else b) := by split <;> assumption

theorem NominationsKept.keeps {s t : State} (h : NominationsKept s t) : KeepsNominations s t := fun _ hs =>
  ⟨h.law hs.law, h.openHours ▸ hs.few, h.settled ∘ hs.settled⟩

theorem PlantMoved.keepsNominations {s t : State} (h : PlantMoved s t) : KeepsNominations s t := h.nominations.keeps

/-! ### Facts of a lawful state -/

section
variable {s : State} (h : NominationsLawful s)
include h

/-- The clock is valid while an hour is not closed. -/
theorem NominationsLawful.valid_of_open (ho : s.openHours ≠ []) : s.clk.valid = true :=
  Bool.eq_true_of_not_eq_false fun hv => ho (h.closed hv)

theorem NominationsLawful.sound_lists : ∀ es ∈ s.entryLists, entriesSound es = true := fun es hes => by
  cases hv : s.clk.valid with
  | true => exact (h.lawful hv es hes).sound
  | false => exact h.sound hv es hes

/-- As many hours lead from the oldest hour to the current one as are not closed. -/
theorem NominationsLawful.hourDiff_oldest (hv : s.clk.valid = true) (hfew : s.openHours.length ≤ 3) :
    hourDiff s.currentHour s.oldestHour = s.openHours.length := by
  have hold := (h.follow hv).oldest
  rw [← State.oldestHour_eq] at hold
  simp only [hourDiff_eq, hourAdd, hourCount] at *
  omega

/-- With an invalid clock no hour ends and none waits for its close. -/
theorem NominationsLawful.closed_parts (hv : s.clk.valid = false) :
    s.closingHours = [] ∧ s.clk.boundaryDue = false := by
  have hopen := h.closed hv
  rw [State.openHours_eq, List.append_eq_nil_iff] at hopen
  refine ⟨hopen.1, ?_⟩
  cases hd : s.clk.boundaryDue with
  | false => rfl
  | true => simp [hd] at hopen

end

/-! ### Partitions written (05 R72 to R77) -/

theorem State.entryLists_setPartition (s : State) (n : Nat) (p : Partition) :
    (s.setPartition n p).entryLists = setNth s.entryLists n p.entries := by
  unfold State.entryLists State.setPartition setNth
  split
  · rfl
  · exact List.map_set

theorem State.nth_entryLists (s : State) (n : Nat) : nth s.entryLists n = (nth s.nst n).map (·.entries) := by
  cases n with
  | zero => rfl
  | succ n => exact List.getElem?_map

theorem setNth_of_nth_eq_none {α : Type} {l : List α} {n : Nat} (h : nth l n = none) (x : α) : setNth l n x = l := by
  cases n with
  | zero => rfl
  | succ n => exact List.set_eq_of_length_le (List.getElem?_eq_none_iff.mp h)

/-- A partition written with the entries that it has. -/
theorem State.setPartition_nominations (s : State) (n : Nat) {p : Partition} (h : p.entries = (s.partition n).entries) :
    NominationsKept s (s.setPartition n p) := by
  have hsame : (s.setPartition n p).entryLists = s.entryLists := by
    rw [State.entryLists_setPartition, h]
    cases hn : nth s.nst n with
    | none => exact setNth_of_nth_eq_none (by rw [State.nth_entryLists, hn]; rfl) _
    | some q =>
      refine setNth_of_nth ?_
      rw [State.nth_entryLists, State.partition, hn]
      rfl
  exact .of_eq (congrArg (fun l =>
    ({ s.nominationView with entries := l }, s.sts, s.closingHours, s.clk.boundaryDue)) hsame)

theorem State.checkWarning_nominations (s : State) (n before : Nat) : NominationsKept s (s.checkWarning n before) :=
  have hset (b : Bool) : NominationsKept s (s.setPartition n { s.partition n with disarmed := b }) :=
    s.setPartition_nominations n rfl
  .ite ((hset true).trans (State.raise_nominations _ _ _)) (.ite (hset false) (.refl s))

/-- A partition's entries are among the lists, or there are none. -/
theorem State.partition_entries (s : State) (n : Nat) :
    (s.partition n).entries ∈ s.entryLists ∨ (s.partition n).entries = [] := by
  unfold State.partition
  cases hn : nth s.nst n with
  | none => exact .inr rfl
  | some p => exact .inl (List.mem_map_of_mem (nth_mem hn))

/-- A partition written with lawful entries, in a state that nominates. -/
theorem NominationsLawful.setPartition {s : State} (h : NominationsLawful s) (hv : s.clk.valid = true)
    (hb : s.sts.state ≠ .blank) {n : Nat} {p : Partition} (hp : LawfulFrom s.oldestHour p.entries)
    (hsize : p.entries.length ≤ s.partitionSize) : NominationsLawful (s.setPartition n p) := by
  have hmem : ∀ es ∈ (s.setPartition n p).entryLists, es = p.entries ∨ es ∈ s.entryLists := fun es hes =>
    mem_setNth (s.entryLists_setPartition n p ▸ hes)
  have hinvalid : s.clk.valid ≠ false := fun hn => nomatch hv.symm.trans hn
  refine ⟨?_, h.second, fun _ es hes => ?_, h.follow, h.closed, fun hn => absurd hn hinvalid, fun es hes => ?_,
    fun hn => absurd hn hb, h.idle, h.content, h.copy⟩
  · rw [State.entryLists_setPartition, setNth_length]
    exact h.partitions
  · exact (hmem es hes).elim (· ▸ hp) (h.lawful hv es)
  · exact (hmem es hes).elim (· ▸ hsize) (h.sized es)

/-- The checks of an accepted NOMINATE that bound its entry (05 R70, R71). -/
structure NominationFits (s : State) (n : Nat) (e : NomEntry) : Prop where
  valid : s.clk.valid = true
  notBlank : s.sts.state ≠ .blank
  span : 1 ≤ e.span ∧ e.span ≤ 48
  quantity : e.quantity ≤ 10000000
  first : e.first < 1572864
  window : hourDiff e.first s.currentHour + (e.span - 1) ≤ hourDiff s.nextDayEnd s.currentHour
  size : (s.editedList n e).length ≤ s.partitionSize

theorem State.nominationFits {s : State} {n first span dir q : Nat} (h : s.nominateRefusal n first span dir q = none) :
    NominationFits s n (nominated first span dir q) := by
  unfold State.nominateRefusal at h
  simp only [firstFailure_eq_none, List.forall_mem_cons, State.isBlank, State.pastNextDay_eq_false, hourOutside,
    hourCount, beq_eq_false_iff_ne, Bool.not_eq_false', Bool.or_eq_false_iff, decide_eq_false_iff_not, Nat.not_lt] at h
  obtain ⟨hb, hv, -, -, ⟨hs0, hs⟩, hq, -, ⟨hf, hw⟩, -, hsize, -⟩ := h
  exact ⟨hv, hb, ⟨Nat.pos_of_ne_zero hs0, hs⟩, hq, Nat.not_le.mp (of_decide_eq_false hf), hw, hsize⟩

/-- The end of the next gas day is at most 47 hours ahead. -/
theorem State.hourDiff_nextDayEnd {s : State} (h : s.clk.second < 86400) :
    hourDiff s.nextDayEnd s.currentHour ≤ 47 := by
  unfold State.nextDayEnd State.currentHour hourOf
  rw [hourDiff_eq]
  split <;> omega

theorem State.applyNomination_keepsNominations {s : State} {n : Nat} {e : NomEntry} (hfit : NominationFits s n e) :
    KeepsNominations s (s.applyNomination n e) := by
  intro c hs
  have hlaw := hs.law
  have hold := hlaw.hourDiff_oldest hfit.valid hs.few
  have hend := State.hourDiff_nextDayEnd (hlaw.second hfit.valid)
  have hplaced : e.Placed s.oldestHour := by
    obtain ⟨hspan1, hspan48⟩ := hfit.span
    have hwindow := hfit.window
    have hbase := hourDiff_rebase e.first s.oldestHour s.currentHour
    have hfew := hs.few
    have hlt := hourDiff_lt e.first s.oldestHour
    refine ⟨hspan1, ?_, hfit.first⟩
    unfold NomEntry.stop NomEntry.start
    omega
  have hentries : LawfulFrom s.oldestHour (s.partition n).entries :=
    (s.partition_entries n).elim (hlaw.lawful hfit.valid _) (fun hnil => hnil ▸ lawfulFrom_nil _)
  have hset : Steady c (s.setPartition n { s.partition n with entries := s.editedList n e }) :=
    ⟨hlaw.setPartition hfit.valid hfit.notBlank (hentries.edit hplaced hfit.quantity) hfit.size, hs.few, hs.settled⟩
  have hwarn := (State.checkWarning_nominations _ n (s.partition n).entries.length).keeps c hset
  refine (State.makeSnapshotDue_nominations _).keeps c ?_
  split
  · exact (State.makePlanDue_nominations _).keeps c hwarn
  · exact hwarn

/-! ### Hours retired (05 R78) -/

theorem State.entryLists_retireHours {s : State} (hs : s.entryLists.length = 16) (h : Nat) :
    (s.retireHours h).entryLists = s.entryLists.map (fun es => es.flatMap (fun e => e.retire h)) := by
  have hlen : (s.retireHours h).nst.length = s.nst.length :=
    State.forEach_induct (P := fun u => u.nst.length = s.nst.length) rfl fun u n _ hu => by
      obtain ⟨b, e⟩ := u.retirePartition_eq h n
      rw [e, State.setPartition_nst, setNth_length, hu]
  have hs16 : s.nst.length = 16 := (List.length_map _).symm.trans hs
  unfold State.entryLists
  refine List.ext_getElem (by simp [hlen]) fun i hi hi' => ?_
  have hi16 : i < 16 := by simpa [hlen, hs16] using hi
  have hn : i + 1 ∈ shipperNumbers := by
    simp only [shipperNumbers, List.mem_cons]
    omega
  have hp := s.partition_retireHours h hn
  simp only [State.partition, nth_succ] at hp
  rw [List.getElem?_eq_getElem (by omega), List.getElem?_eq_getElem (by omega)] at hp
  simpa using hp

/-- A state in which the hours up to `h` are to be retired: hour `h` is the one before the oldest that is not closed,
and each partition keeps the law of R68, from whichever hour on. -/
structure RetirementDue (h : Nat) (s : State) : Prop where
  valid : s.clk.valid = true
  second : s.clk.second < 86400
  next : hourAdd h 1 % 1572864 = s.oldestHour % 1572864
  follow : HoursFollow s.openHours s.currentHour
  partitions : s.entryLists.length = 16
  sound : ∀ es ∈ s.entryLists, entriesSound es = true
  sized : ∀ es ∈ s.entryLists, es.length ≤ s.partitionSize
  empty : s.sts.state = .blank → ∀ es ∈ s.entryLists, es = []
  idle : s.sts.state = .blank → s.closingHours = []
  content : ∀ c ∈ s.sns.content, c.NominationsLawful
  copy : ∀ c ∈ s.sns.copy, c.NominationsLawful

theorem State.retireHours_eq (s : State) (h : Nat) : ∃ l, s.retireHours h = { s with nst := l } := by
  have hrest := s.retireHours_rest h
  generalize s.retireHours h = t at *
  exact ⟨t.nst, congrArg (fun x : State => { x with nst := t.nst }) hrest⟩

/-- Once they are retired the law holds. -/
theorem RetirementDue.retireHours {h : Nat} {s : State} (hs : RetirementDue h s) :
    NominationsLawful (s.retireHours h) := by
  have hlists := State.entryLists_retireHours hs.partitions h
  have hvalid : s.clk.valid ≠ false := fun hn => nomatch hs.valid.symm.trans hn
  obtain ⟨l, hl⟩ := s.retireHours_eq h
  rw [hl] at hlists ⊢
  have hmem (p : List NomEntry → Prop) (hp : ∀ es ∈ s.entryLists, p (es.flatMap (fun e => e.retire h))) :
      ∀ es ∈ ({ s with nst := l } : State).entryLists, p es := hlists ▸ List.forall_mem_map.mpr hp
  refine ⟨?_, fun _ => hs.second, fun _ => hmem _ fun es hes => ?_, fun _ => hs.follow, fun hn => absurd hn hvalid,
    fun hn => absurd hn hvalid, hmem _ fun es hes => ?_, fun hb => hmem _ fun es hes => ?_, hs.idle, hs.content,
    hs.copy⟩
  · rw [hlists, List.length_map]
    exact hs.partitions
  · obtain ⟨b, hes⟩ := entriesSound_iff.mp (hs.sound es hes)
    exact (hes.retire h).congr hs.next
  · exact (retire_length_le es h).trans (hs.sized es hes)
  · rw [hs.empty hb es hes]
    rfl

theorem RetirementDue.steady {h : Nat} {s : State} {c : Prop} (hs : RetirementDue h s) (hfew : s.openHours.length ≤ 3)
    (hsettled : c → s.clk.boundaryDue = false) : Steady c (s.retireHours h) := by
  have hlaw := hs.retireHours
  obtain ⟨l, hl⟩ := s.retireHours_eq h
  rw [hl] at hlaw ⊢
  exact ⟨hlaw, hfew, hsettled⟩

/-! ### The clock (01 R2 to R4) -/

/-- The state with a clock set to a gas day and a second of day. -/
def State.clockSet (s : State) (d t : Nat) : State :=
  { s with clk := { s.clk with valid := true, gasDay := d, second := t, trimSum := 0 } }

/-- An accepted SET CLOCK of an invalid clock retires what lies before the new current hour (01 R3, 05 R80). -/
theorem State.acceptClock_keepsNominations {s : State} (hv : s.clk.valid = false) (d : Nat) {t : Nat} (ht : t ≤ 86399) :
    KeepsNominations s (s.acceptClock d t) := by
  intro c hs
  have hlaw := hs.law
  obtain ⟨hclosing, hsettled⟩ := hlaw.closed_parts hv
  have hopen : (s.clockSet d t).openHours = [] :=
    (State.openHours_of_settled (s := s.clockSet d t) hsettled).trans hclosing
  have hold : (s.clockSet d t).oldestHour = hourOf d t := by
    rw [State.oldestHour_eq, hopen]
    rfl
  have hdue : RetirementDue (hourPred (hourOf d t)) (s.clockSet d t) := by
    refine ⟨rfl, Nat.lt_succ_of_le ht, ?_, hopen ▸ trivial, hlaw.partitions, hlaw.sound hv, hlaw.sized, hlaw.empty,
      hlaw.idle, hlaw.content, hlaw.copy⟩
    rw [hold]
    generalize hourOf d t = x
    simp only [hourAdd, hourPred, hourCount]
    omega
  have hretired := hdue.steady (c := c) (by simp [hopen]) (fun _ => hsettled)
  have hmarked := ((State.makePlanDue_nominations _).trans (State.makeSnapshotDue_nominations _)).keeps c hretired
  unfold State.acceptClock
  dsimp only
  split
  · exact hmarked
  · exact (State.gasDayRollover_plant _).keepsNominations c hmarked

/-- A change of the clock that leaves the oldest hour: what is to be seen of the hours that are not closed. -/
theorem NominationsLawful.of_clk {s : State} (h : NominationsLawful s) {x : Clock} (hvalid : x.valid = s.clk.valid)
    (hsec : x.valid = true → x.second < 86400)
    (hold : x.valid = true → s.oldestHour % 1572864 = ({ s with clk := x } : State).oldestHour % 1572864)
    (hfollow : x.valid = true →
      HoursFollow ({ s with clk := x } : State).openHours ({ s with clk := x } : State).currentHour)
    (hclosed : x.valid = false → ({ s with clk := x } : State).openHours = []) :
    NominationsLawful { s with clk := x } :=
  ⟨h.partitions, hsec, fun hv es hes => (h.lawful (hvalid.symm.trans hv) es hes).congr (hold hv), hfollow, hclosed,
   fun hv => h.sound (hvalid.symm.trans hv), h.sized, h.empty, h.idle, h.content, h.copy⟩

/-- A trim stays within the current hour (01 R4). -/
theorem State.trimClock_keepsNominations {s : State} (hv : s.clk.valid = true) {d t : Nat}
    (h : s.trimRefusal d t = none) : KeepsNominations s (s.trimClock d t) := by
  intro c hs
  unfold State.trimRefusal at h
  simp only [firstFailure_eq_none, List.forall_mem_cons, decide_eq_false_iff_not, bne_eq_false_iff_eq, Nat.not_lt] at h
  obtain ⟨ht, -, hhour, -, -⟩ := h
  have hsec := hs.law.second hv
  have hcur : (s.trimClock d t).currentHour = s.currentHour := by
    show hourOf s.clk.gasDay t = s.currentHour
    simp only [State.currentHour, hourOf] at *
    omega
  have hopen : (s.trimClock d t).openHours = s.openHours := by
    rw [State.openHours_eq, State.openHours_eq, State.endedHour, State.endedHour, hcur]
    rfl
  have hold : (s.trimClock d t).oldestHour = s.oldestHour := by
    rw [State.oldestHour_eq, State.oldestHour_eq, hopen, hcur]
  refine ⟨hs.law.of_clk rfl (fun _ => Nat.lt_of_le_of_lt ht (by decide)) (fun _ => ?_) (fun hv => ?_)
    (fun hv => hopen.trans (hs.law.closed hv)), (congrArg List.length hopen).trans_le hs.few, hs.settled⟩
  · exact congrArg (· % 1572864) hold.symm
  · rw [show ({ s with clk := _ } : State).openHours = s.openHours from hopen]
    exact (hs.law.follow hv).congr (congrArg (· % 1572864) hcur.symm)

/-- CLK's second of a valid clock: the current hour stands and has not ended, or it has ended and is the hour before the
current one. -/
theorem Clock.tickSecond_hour {x : Clock} (hv : x.valid = true) (hsec : x.second < 86400) :
    x.tickSecond.valid = true ∧ x.tickSecond.second < 86400 ∧
    ((x.tickSecond.boundaryDue = false ∧
        hourOf x.tickSecond.gasDay x.tickSecond.second % 1572864 = hourOf x.gasDay x.second % 1572864) ∨
      (x.tickSecond.boundaryDue = true ∧
        (hourOf x.gasDay x.second + 1) % 1572864 = hourOf x.tickSecond.gasDay x.tickSecond.second % 1572864)) := by
  unfold Clock.tickSecond
  rw [if_pos hv]
  refine ⟨hv, ?_⟩
  dsimp only
  by_cases hwrap : 86399 ≤ x.second
  · simp only [hwrap, decide_true, if_true, hourOf]
    exact ⟨by decide, .inr ⟨rfl, by omega⟩⟩
  · simp only [hwrap, decide_false, Bool.false_eq_true, if_false, hourOf]
    refine ⟨by omega, ?_⟩
    by_cases hhour : (x.second + 1) % 3600 = 0
    · exact .inr ⟨by simp [hhour], by omega⟩
    · exact .inl ⟨by simp [hhour], by omega⟩

/-- The oldest hour stands while the current hour does. -/
theorem oldest_congr {hs : List Nat} {cur cur' : Nat} (h : cur % 1572864 = cur' % 1572864) :
    (hs.head?.getD cur) % 1572864 = (hs.head?.getD cur') % 1572864 := by
  cases hs with
  | nil => exact h
  | cons x xs => rfl

theorem head_append {hs : List Nat} {cur cur' y : Nat} (h : cur % 1572864 = y % 1572864) :
    (hs.head?.getD cur) % 1572864 = ((hs ++ [y]).head?.getD cur') % 1572864 := by
  cases hs with
  | nil => exact h
  | cons x xs => rfl

theorem hourPred_of_next {cur cur' : Nat} (h : (cur + 1) % 1572864 = cur' % 1572864) :
    cur % 1572864 = hourPred cur' % 1572864 := by
  rw [hourPred, hourCount]
  omega

/-- A second event of CLK, with no boundary due before it: at the end of an hour that hour is not closed (01 R1, R2). -/
theorem State.clockSecond_law {s : State} (hs : Steady True s) : NominationsLawful s.clockSecond := by
  have hlaw := hs.law
  have hopen := State.openHours_of_settled (hs.settled trivial)
  cases hv : s.clk.valid with
  | false =>
    have htick : s.clk.tickSecond.valid = false ∧ s.clk.tickSecond.boundaryDue = false := by
      simp [Clock.tickSecond, hv]
    have hinvalid : s.clk.tickSecond.valid ≠ true := fun h => nomatch h.symm.trans htick.1
    refine hlaw.of_clk (htick.1.trans hv.symm) (absurd · hinvalid) (absurd · hinvalid) (absurd · hinvalid) (fun _ => ?_)
    exact (State.openHours_of_settled (s := s.clockSecond) htick.2).trans (hopen.symm.trans (hlaw.closed hv))
  | true =>
    have hfollow := hlaw.follow hv
    obtain ⟨hvalid, hsec, hhour⟩ := Clock.tickSecond_hour hv (hlaw.second hv)
    have hinvalid : s.clk.tickSecond.valid ≠ false := fun h => nomatch hvalid.symm.trans h
    have hcur : s.clockSecond.currentHour = hourOf s.clk.tickSecond.gasDay s.clk.tickSecond.second := rfl
    have hopen' := State.openHours_eq s.clockSecond
    rw [← hcur, show hourOf s.clk.gasDay s.clk.second = s.currentHour from rfl] at hhour
    have hparts : s.oldestHour % 1572864 = s.clockSecond.oldestHour % 1572864 ∧
        HoursFollow s.clockSecond.openHours s.clockSecond.currentHour := by
      rw [State.oldestHour_eq, State.oldestHour_eq, hopen]
      rw [hopen] at hfollow
      obtain ⟨hdue, hsame⟩ | ⟨hdue, hnext⟩ := hhour
      · rw [show s.clockSecond.openHours = s.closingHours from State.openHours_of_settled (s := s.clockSecond) hdue]
        exact ⟨oldest_congr hsame.symm, hfollow.congr hsame.symm⟩
      · rw [show s.clockSecond.clk.boundaryDue = true from hdue, if_pos rfl] at hopen'
        rw [hopen']
        exact ⟨head_append (hourPred_of_next hnext), hfollow.append hnext⟩
    exact hlaw.of_clk (hvalid.trans hv.symm) (fun _ => hsec) (fun _ => hparts.1) (fun _ => hparts.2) (absurd · hinvalid)

end Sys2Proof.Machine
end

section
/-! Hours that are handed over and closed, the settings, the snapshots and the releases keep the law of the
nominations (05 R68, R78, 10 R157, R168, 01 R6, R14 to R18). -/

open Sys2Proof Sys2Proof.Machine

namespace Sys2Proof.Machine

/-! ### The hours that are handed over (01 R2) and closed (10 R168) -/

/-- The state with the ended hour among those that wait for their close, and the new hour metered from 0 (03 R43). -/
def State.hourHanded (s : State) : State :=
  { s with hcu := { s.hcu with handOvers := s.hcu.handOvers ++ [s.handOver s.endedHour] }, mtu := s.mtu.newHour }

theorem State.hourHanded_plant {s : State} (hb : s.sts.state ≠ .blank) : PlantMoved s.hourHanded s.handHour := by
  unfold State.handHour State.isBlank
  rw [if_neg (by simpa using hb)]
  exact s.hourHanded.zeroVolumes_moved.plant

/-- Outside BLANK a boundary that is due makes the hour that has ended one of those that wait for their close. -/
theorem State.hourHanded_nominations {s : State} (hb : s.sts.state ≠ .blank) (hdue : s.clk.boundaryDue = true) :
    NominationsKept s s.boundaryTaken.hourHanded := by
  refine ⟨?_, (absurd · hb), fun _ => rfl⟩
  refine congrArg (fun l => { s.nominationView with openHours := l }) ?_
  have hopen := State.openHours_eq s
  rw [if_pos hdue] at hopen
  refine (State.openHours_of_settled rfl).trans (.trans ?_ hopen.symm)
  unfold State.closingHours
  rw [List.append_assoc]
  exact congrArg _ List.map_append

/-- An hour that is due waits for its close once it is handed over, and in BLANK no nomination stands in it; so a
boundary leaves the hours that are not closed, and none that is due. -/
theorem State.handHour_steady {c : Prop} {s : State} (hs : Steady c s) (hdue : s.clk.boundaryDue = true) :
    Steady True s.boundaryTaken.handHour := by
  have hlaw := hs.law
  by_cases hb : s.sts.state = .blank
  · have hhand : s.boundaryTaken.handHour = s.boundaryTaken := by
      unfold State.handHour State.isBlank
      exact if_pos (by simpa [State.boundaryTaken] using hb)
    have hopen : s.boundaryTaken.openHours = [] := (State.openHours_of_settled rfl).trans (hlaw.idle hb)
    rw [hhand]
    refine ⟨⟨hlaw.partitions, hlaw.second, fun _ es hes => ?_, fun _ => hopen ▸ trivial, fun _ => hopen, hlaw.sound,
      hlaw.sized, hlaw.empty, hlaw.idle, hlaw.content, hlaw.copy⟩, by simp [hopen], fun _ => rfl⟩
    exact hlaw.empty hb es hes ▸ lawfulFrom_nil _
  · have hmoved := (State.hourHanded_plant (s := s.boundaryTaken) hb).nominations
    obtain ⟨hlaw, hfew, -⟩ := ((State.hourHanded_nominations hb hdue).trans hmoved).keeps c hs
    exact ⟨hlaw, hfew, fun _ => hmoved.settled rfl⟩

theorem stepBoundary_steady {c : Prop} {s : State} (hs : Steady c s) : Steady True (stepBoundary s) := by
  unfold stepBoundary
  split
  · next hdue =>
    have hhand := State.handHour_steady hs hdue
    dsimp only
    split
    · exact (State.gasDayRollover_plant _).keepsNominations _ hhand
    · exact hhand
  · next hdue => exact ⟨hs.law, hs.few, fun _ => by simpa using hdue⟩

/-- The state once no close is in flight. -/
def State.closeEnded (s : State) : State := { s with hcu := { s.hcu with close := none } }

/-- The end of the close in flight: its hour is retired, and the next one is the oldest that is not closed (05 R78). -/
theorem State.endClose_keepsNominations {s : State} {f : CloseFigures} (hf : s.hcu.close = some f) :
    KeepsNominations s (s.endClose f.hand.hour) := by
  intro c hs
  have hlaw := hs.law
  have hclosing : s.closingHours = f.hand.hour :: s.closeEnded.closingHours := by
    unfold State.closingHours
    rw [hf]
    rfl
  have hopen : s.openHours = f.hand.hour :: s.closeEnded.openHours := by
    rw [State.openHours_eq, State.openHours_eq, hclosing]
    rfl
  have hvalid := hlaw.valid_of_open (by rw [hopen]; nofun)
  have hnotBlank (hb : s.sts.state = .blank) : False := by
    have hidle := hlaw.idle hb
    rw [hclosing] at hidle
    nomatch hidle
  have hfollow := hlaw.follow hvalid
  rw [hopen] at hfollow
  have hnext : hourAdd f.hand.hour 1 % 1572864 = s.closeEnded.oldestHour % 1572864 := hfollow.next
  have hdue : RetirementDue f.hand.hour s.closeEnded :=
    ⟨hvalid, hlaw.second hvalid, hnext, hfollow.2, hlaw.partitions, hlaw.sound_lists, hlaw.sized,
     fun hb => (hnotBlank hb).elim, fun hb => (hnotBlank hb).elim, hlaw.content, hlaw.copy⟩
  have hfew : s.closeEnded.openHours.length ≤ 3 := by
    have hfew := hs.few
    rw [hopen, List.length_cons] at hfew
    omega
  exact ((State.makePlanDue_nominations _).trans (State.makeSnapshotDue_nominations _)).keeps c
    (hdue.steady hfew hs.settled)

/-- What a completion posts and reports before the close ends (10 R168). -/
def State.closePosted (s : State) (f : CloseFigures) : State :=
  (((s.postClose f f.allocate).recordClose f.allocate.record).raiseClose f.allocate).offerReport
    (closeReport f.allocate.record)

theorem State.completeClose_eq {s : State} {f : CloseFigures} (hf : s.hcu.close = some f) :
    s.completeClose = (s.closePosted f).endClose f.hand.hour := by
  unfold State.completeClose
  rw [hf]
  rfl

/-- From `s` to `t` nothing that the law reads changes, nor the close in flight. -/
def PostedFor (s t : State) : Prop := NominationsKept s t ∧ t.hcu.close = s.hcu.close

theorem PostedFor.trans {s t u : State} (h1 : PostedFor s t) (h2 : PostedFor t u) : PostedFor s u :=
  ⟨h1.1.trans h2.1, h2.2.trans h1.2⟩

theorem PostedFor.forEach {f : State → Nat → State} {ns : List Nat} (h : ∀ u n, PostedFor u (f u n)) (s : State) :
    PostedFor s (s.forEach ns f) :=
  State.forEach_induct (P := PostedFor s) ⟨.refl s, rfl⟩ (fun u n _ hu => hu.trans (h u n))

theorem PlantMoved.postedFor {s t : State} (h : PlantMoved s t) : PostedFor s t :=
  ⟨h.nominations, congrArg (·.close) h.hcu⟩

/-- The postings leave the nominations and the close in flight. -/
theorem State.closePosted_postedFor (s : State) (f : CloseFigures) : PostedFor s (s.closePosted f) := by
  have hshippers : PostedFor s (s.forEach shipperNumbers (postShipper f.allocate.shippers)) :=
    .forEach (fun u n =>
      ⟨postShipper_nominations _ u n, congrArg (fun x => x.hcu.close) (postShipper_books _ u n).rest⟩) s
  have hstation (u : State) (x : Accounts) : PostedFor u { u with act := x } := ⟨.of_act u x, rfl⟩
  have hcaverns (u : State) : PostedFor u (u.forEach cavernNumbers (postCavern f.allocate.caverns)) :=
    .forEach (fun u j => (postCavern_moved _ u j).plant.postedFor) u
  have hrecord (u : State) (r : CloseRecord) : PostedFor u (u.recordClose r) := ⟨.of_eq rfl, rfl⟩
  have hposted : PostedFor s (s.postClose f f.allocate) := (hshippers.trans (hstation _ _)).trans (hcaverns _)
  exact ((hposted.trans (hrecord _ _)).trans (State.raiseClose_reported _ _).plant.postedFor).trans
    (State.offerReport_reported _ _).plant.postedFor

theorem State.completeClose_keepsNominations (s : State) : KeepsNominations s s.completeClose := by
  cases hf : s.hcu.close with
  | none =>
    unfold State.completeClose
    rw [hf]
    exact .refl s
  | some f =>
    obtain ⟨hkept, hclose⟩ := s.closePosted_postedFor f
    rw [State.completeClose_eq hf]
    exact hkept.keeps.trans (State.endClose_keepsNominations (hclose.trans hf))

/-! ### The settings (01 R6, 05 R67) -/

theorem State.noShippers_entries {s : State} (h : s.noShippers = true) : ∀ es ∈ s.entryLists, es = [] := by
  simp only [State.noShippers, Bool.and_eq_true, List.all_eq_true, List.isEmpty_iff] at h
  exact List.forall_mem_map.mpr h.1

/-- The partition mode, which bounds the entries, changes only while there are none. -/
theorem State.applySettings_keepsNominations {s : State} {f : Settings} (h : s.settingsRefusal f = none) :
    KeepsNominations s (s.applySettings f) := by
  intro c hs
  have hlaw := hs.law
  have hlists : (s.applySettings f).entryLists = s.entryLists := List.map_map
  have hsized : ∀ es ∈ s.entryLists, es.length ≤ 256 / shipperCount f.mode := by
    have hnone (hempty : ∀ es ∈ s.entryLists, es = []) : ∀ es ∈ s.entryLists, es.length ≤ 256 / shipperCount f.mode :=
      fun es hes => hempty es hes ▸ Nat.zero_le _
    unfold State.settingsRefusal at h
    simp only [firstFailure_eq_none, List.forall_mem_cons, Bool.and_eq_false_iff, bne_eq_false_iff_eq,
      Bool.not_eq_false', Bool.or_eq_true, State.isBlank, beq_iff_eq] at h
    obtain ⟨-, hmode | hblank | hshippers, -⟩ := h
    · rw [hmode]
      exact hlaw.sized
    · exact hnone (hlaw.empty hblank)
    · exact hnone (State.noShippers_entries hshippers)
  exact ⟨⟨hlists ▸ hlaw.partitions, hlaw.second, hlists ▸ hlaw.lawful, hlaw.follow, hlaw.closed, hlists ▸ hlaw.sound,
    hlists ▸ hsized, hlists ▸ hlaw.empty, hlaw.idle, hlaw.content, hlaw.copy⟩, hs.few, hs.settled⟩

theorem State.acceptSettings_keepsNominations {s : State} {f : Settings} (h : s.settingsRefusal f = none) :
    KeepsNominations s (s.acceptSettings f) :=
  (State.applySettings_keepsNominations h).trans
    (((State.gradeAll_nominations _ _).trans (State.leaveBlank_nominations _)).trans
      (State.makeSnapshotDue_nominations _)).keeps

/-! ### The snapshots (01 R14 to R18) -/

theorem NominationsLawful.snapshot {s : State} (h : NominationsLawful s) : s.snapshot.NominationsLawful :=
  ⟨h.partitions, h.sound_lists, h.sized⟩

/-- A store whose snapshots are lawful. -/
theorem Steady.of_sns {c : Prop} {s : State} (hs : Steady c s) {x : Store}
    (hcontent : ∀ c ∈ x.content, c.NominationsLawful) (hcopy : ∀ c ∈ x.copy, c.NominationsLawful) :
    Steady c { s with sns := x } :=
  have h := hs.law
  ⟨⟨h.partitions, h.second, h.lawful, h.follow, h.closed, h.sound, h.sized, h.empty, h.idle, hcontent, hcopy⟩, hs.few,
   hs.settled⟩

theorem no_snapshot {p : Snapshot → Prop} : ∀ c ∈ (none : Option Snapshot), p c :=
  fun _ hc => (Option.not_mem_none _ hc).elim

theorem State.beginWrite_keepsNominations (s : State) : KeepsNominations s s.beginWrite := fun _ hs =>
  hs.of_sns no_snapshot (fun _ hc => by cases hc; exact hs.law.snapshot)

theorem State.completeWrite_keepsNominations (s : State) (v : Bool) : KeepsNominations s (s.completeWrite v) := by
  refine .ite (.ite (fun _ hs => hs.of_sns hs.law.copy no_snapshot) ?_) (.refl s)
  exact KeepsNominations.trans (fun _ hs => hs.of_sns no_snapshot no_snapshot) (State.raise_nominations _ _ _).keeps

/-- A state as a reset leaves it, with lawful snapshots in its store. -/
theorem steady_reset {x : Store} (hcontent : ∀ c ∈ x.content, c.NominationsLawful)
    (hcopy : ∀ c ∈ x.copy, c.NominationsLawful) (c : Prop) (st : Station) (l : Link) (q : List Instr) :
    Steady c { State.reset with sts := st, slk := l, sns := x, pending := q } := by
  have hempty : ∀ es ∈ State.reset.entryLists, es = [] := List.forall_mem_map.mpr fun p hp =>
    congrArg Partition.entries (List.eq_of_mem_replicate hp)
  exact ⟨⟨rfl, nofun, nofun, nofun, fun _ => rfl, fun _ es hes => hempty es hes ▸ rfl,
    fun es hes => hempty es hes ▸ Nat.zero_le _, fun _ => hempty, fun _ => rfl, hcontent, hcopy⟩, Nat.zero_le 3,
    fun _ => rfl⟩

/-- The store read at a reset holds lawful snapshots where it held such. -/
theorem Steady.read {c : Prop} {s : State} (hs : Steady c s) (crc : Bool) :
    (∀ x ∈ (s.sns.read crc).content, x.NominationsLawful) ∧ ∀ x ∈ (s.sns.read crc).copy, x.NominationsLawful := by
  obtain ⟨hread, hnone⟩ := s.sns.read_content crc
  exact ⟨fun x hx => hs.law.content x (hread x hx), hnone ▸ no_snapshot⟩

theorem State.assertReset_keepsNominations (s : State) : KeepsNominations s s.assertReset := fun c hs =>
  have ⟨hcontent, hcopy⟩ := hs.read true
  steady_reset hcontent hcopy c _ _ _

/-- A snapshot restored over a state with no hour to close (01 R17). -/
theorem Steady.restored {p : Prop} {s : State} {c : Snapshot} (hs : Steady p s) (hv : s.clk.valid = false)
    (hc : c.NominationsLawful) : Steady p (restored s c) := by
  have hlists : (Machine.restored s c).entryLists = c.entries := by
    unfold Machine.restored State.entryLists
    exact (List.map_map).trans (List.map_id _)
  obtain ⟨hclosing, hdue⟩ := hs.law.closed_parts hv
  have hopen : (Machine.restored s c).openHours = [] :=
    (State.openHours_of_settled (s := Machine.restored s c) hdue).trans hclosing
  have hinvalid : (Machine.restored s c).clk.valid ≠ true := fun h => nomatch h.symm.trans hv
  exact ⟨⟨hlists ▸ hc.partitions, (absurd · hinvalid), (absurd · hinvalid), (absurd · hinvalid), fun _ => hopen,
    fun _ => hlists ▸ hc.sound, hlists ▸ hc.sized, nofun, fun _ => hclosing, hs.law.content, hs.law.copy⟩,
    (congrArg List.length hopen).trans_le (Nat.zero_le 3), fun _ => hdue⟩

theorem State.release_keepsNominations (s : State) (crc trip b1 b0 : Bool) :
    KeepsNominations s (s.release crc trip b1 b0) := by
  intro p hs
  obtain ⟨hcontent, hcopy⟩ := hs.read crc
  have hreset : Steady p { s.released trip b1 b0 with sns := s.sns.read crc } := steady_reset hcontent hcopy p _ _ _
  unfold State.release
  dsimp only
  split
  · next c _ hc =>
    have hrestored := hreset.restored rfl (hcontent c hc)
    refine (State.serveHeater_moved _).plant.keepsNominations p ?_
    split
    · exact ((State.tripEntry_plant _).nominations_of_station nofun).keeps p hrestored
    · exact hrestored
  · refine KeepsNominations.ite (.trans ?_ (State.raise_nominations _ _ _).keeps) ?_ p hreset <;>
    exact .ite (State.raise_nominations _ _ _).keeps (.refl _)

end Sys2Proof.Machine
end

section
/-! Every answer to a request, every settling and every command keeps the law of the nominations (05 R68); with it the
statement of the nomination store is settled. -/

open Sys2Proof Sys2Proof.Machine

namespace Sys2Proof.Machine

/-! ### The answers -/

theorem State.setRefusal_second {s : State} {d t : Nat} (h : s.setRefusal d t = none) : t ≤ 86399 := by
  unfold State.setRefusal at h
  simp only [firstFailure_eq_none, List.forall_mem_cons, decide_eq_false_iff_not, Nat.not_lt] at h
  exact h.1

theorem State.setClock_keepsNominations (s : State) (d t : Nat) : KeepsNominations s (s.setClock d t).state := by
  unfold State.setClock
  split
  · next hv =>
    exact answerBy_keeps (P := KeepsNominations s) (.refl s) (State.trimClock_keepsNominations hv)
  · next hv =>
    exact answerBy_keeps (P := KeepsNominations s) (.refl s) fun h =>
      State.acceptClock_keepsNominations (Bool.eq_false_of_not_eq_true hv) d (State.setRefusal_second h)

theorem State.nominate_keepsNominations (s : State) (n first span dir q : Nat) :
    KeepsNominations s (s.nominate n first span dir q).state := by
  unfold State.nominate
  dsimp only
  split
  · exact .refl s
  · exact .refl s
  · next h => exact State.applyNomination_keepsNominations (State.nominationFits h)

theorem State.requestTransfer_nominations (s : State) (a b x y : Nat) :
    NominationsKept s (s.requestTransfer a b x y).state := by
  unfold State.requestTransfer
  dsimp only
  split
  · exact .refl s
  · exact (NominationsKept.of_act s _).trans (State.makeSnapshotDue_nominations _)

theorem State.accountQuery_nominations (s : State) (n : Nat) (c : Bool) :
    NominationsKept s (s.accountQuery n c).state := by
  unfold State.accountQuery
  repeat' split
  · exact .refl s
  · exact .refl s
  · exact s.setAccount_nominations n _
  · exact .refl s

theorem State.answer_keepsNominations (b : ReqBody) (s : State) : KeepsNominations s (s.answer b).state := by
  have by_checks {refusal : Option Result} {effect : State × Result} {items : State → List Item}
      (he : NominationsKept s effect.1) : KeepsNominations s (answerBy s refusal effect items).state :=
    answerBy_keeps (P := KeepsNominations s) (.refl s) (fun _ => he.keeps)
  cases b <;> simp only [State.answer]
  case setClock d t => exact s.setClock_keepsNominations d t
  case stationCommand a => exact by_checks (s.command_nominations a)
  case configureStation f =>
    exact answerBy_keeps (P := KeepsNominations s) (.refl s) State.acceptSettings_keepsNominations
  case sample ps =>
    split
    · exact (s.takePairs_nominations ps).keeps
    · exact .refl s
  case pointQuery f c => unfold State.pointQuery; split <;> exact .refl s
  case configureShipper n a r => exact by_checks (s.shipperAction_nominations n a r)
  case loadBalance n x => exact by_checks (s.loadInventory_nominations n x)
  case transfer a b x y => exact (s.requestTransfer_nominations a b x y).keeps
  case accountQuery n c => exact (s.accountQuery_nominations n c).keeps
  case nominate n f sp d q => exact s.nominate_keepsNominations n f sp d q
  case nominationQuery n f => unfold State.nominationQuery; split <;> exact .refl s
  case configureCavern j a f ia v => exact by_checks (s.cavernAction_nominations j a f ia v)
  case cavernMode j a =>
    unfold State.cavernMode
    dsimp only
    split
    · exact .refl s
    · exact (s.cavernModeAction_nominations j a).keeps
  case configureUnit k a f => exact by_checks (s.unitAction_nominations k a f)
  case unitMode k a =>
    unfold State.unitMode
    dsimp only
    split
    · exact .refl s
    · exact (s.unitModeAction_nominations k a).keeps
  case configureTrain t a f => exact by_checks (s.trainAction_nominations t a f)
  case trainMode t a => exact by_checks (s.trainModeAction_nominations t a)
  case orderQuery f c => unfold State.orderQuery; split <;> exact .refl s
  case alertControl a b c => exact by_checks (s.controlAlerts_nominations a b c)
  case linkReset => exact s.clearLink_nominations.keeps
  all_goals exact .refl s

/-! ### The receive queue (11 R173 to R175) -/

theorem KeepsNominations.of_slk (s : State) (x : Link) : KeepsNominations s { s with slk := x } :=
  (NominationsKept.of_slk s x).keeps

theorem State.resendUnsent_keepsNominations (s : State) : KeepsNominations s s.resendUnsent :=
  s.resendUnsent_ordered.plant.keepsNominations

theorem State.handle_keepsNominations (s : State) (r : Request) : KeepsNominations s (s.handle r) := by
  have hreply : KeepsNominations s ((s.answer r.body).state.pushRecord (replyTo r (s.answer r.body))) :=
    (s.answer_keepsNominations r.body).trans (.of_slk _ _)
  exact .ite (hreply.trans (State.resendUnsent_keepsNominations _)) hreply

theorem State.takeHead_keepsNominations (s : State) : KeepsNominations s s.takeHead := by
  unfold State.takeHead
  repeat' split
  · exact .refl s
  · exact (s.handle_keepsNominations _).trans (.of_slk _ _)
  · exact .refl s

theorem State.enqueue_takeHead_keepsNominations (s : State) (r : Request) :
    KeepsNominations s (s.enqueue r).takeHead := by
  refine KeepsNominations.trans ?_ (State.takeHead_keepsNominations _)
  unfold State.enqueue
  split <;> exact .of_slk s _

theorem State.byteEvent_keepsNominations (s : State) (e : ByteEvent) : KeepsNominations s (s.byteEvent e) := by
  cases e with
  | none => exact .refl s
  | badLength => exact .of_slk s _
  | badCheck => exact .of_slk s _
  | frame r => exact s.enqueue_takeHead_keepsNominations r

theorem State.takeByte_keepsNominations (s : State) (x : Byte) : KeepsNominations s (s.takeByte x) :=
  (KeepsNominations.of_slk s _).trans (State.byteEvent_keepsNominations _ _)

theorem State.parserTimeout_keepsNominations (s : State) : KeepsNominations s s.parserTimeout := by
  unfold State.parserTimeout
  split
  · exact .refl s
  · exact .of_slk s _

theorem State.recordSent_keepsNominations (s : State) : KeepsNominations s s.recordSent := by
  obtain ⟨_, e⟩ | ⟨x, rest, _, ⟨_, e⟩ | ⟨_, e⟩⟩ := s.recordSent_eq <;> rw [e]
  · exact .refl s
  · exact ((KeepsNominations.of_slk s _).trans (State.resendUnsent_keepsNominations _)).trans
      (State.takeHead_keepsNominations _)
  · exact (KeepsNominations.of_slk s _).trans (State.takeHead_keepsNominations _)

/-! ### Settling -/

theorem stepPlanBegin_keepsNominations (s : State) : KeepsNominations s (stepPlanBegin s) :=
  .ite (NominationsKept.of_plu s _).keeps (.refl s)

theorem stepSnapshotBegin_keepsNominations (s : State) : KeepsNominations s (stepSnapshotBegin s) :=
  .ite s.beginWrite_keepsNominations (.refl s)

theorem takeAndBegin_keepsNominations (s : State) : KeepsNominations s (takeAndBegin s) :=
  (s.takeHead_keepsNominations.trans (stepPlanBegin_keepsNominations _)).trans (stepSnapshotBegin_keepsNominations _)

theorem drain_keepsNominations (n : Nat) (s : State) : KeepsNominations s (drain n s) := by
  induction n generalizing s with
  | zero => exact .refl s
  | succ n ih => exact (takeAndBegin_keepsNominations s).trans (ih _)

theorem beginAndDrain_keepsNominations (s : State) : KeepsNominations s (beginAndDrain s) := by
  refine KeepsNominations.trans ?_ (drain_keepsNominations 8 _)
  exact ((stepCloseBegin_nominations s).keeps.trans (stepPlanBegin_keepsNominations _)).trans
    (stepSnapshotBegin_keepsNominations _)

/-- Settled, a state has no boundary due. -/
theorem Steady.settle {c : Prop} {s : State} (hs : Steady c s) : Steady True (Machine.settle s) := by
  refine beginAndDrain_keepsNominations (runSteps secondSteps s) True ?_
  unfold runSteps secondSteps
  rw [List.foldl_append, List.foldl_cons, List.foldl_cons, List.foldl_cons, List.foldl_nil]
  refine (stepStatus_nominations _).keeps True (stepBoundary_steady ((stepMinute_nominations _).keeps c ?_))
  refine runSteps_keeps (P := Steady c) ?_ hs
  simp only [List.forall_mem_append, List.forall_mem_map, List.forall_mem_cons]
  exact ⟨⟨⟨⟨⟨⟨⟨⟨⟨fun j _ s => (stepSettleExpiry_moved j s).plant.keepsNominations c,
    fun j _ s => (stepValveFault_moved j s).plant.keepsNominations c⟩,
    fun k _ s => (stepTimeoutExpiry_moved k s).plant.keepsNominations c⟩,
    fun k _ s => (stepMinRunExpiry_moved k s).plant.keepsNominations c⟩,
    fun k _ s => (stepMinStopExpiry_moved k s).plant.keepsNominations c⟩,
    fun k _ s => (stepStartListDrop_moved k s).plant.keepsNominations c⟩,
    fun s => (stepHeatingExpiry_moved s).plant.keepsNominations c, List.forall_mem_nil _⟩,
    fun t _ s => (stepCoolingExpiry_moved t s).plant.keepsNominations c⟩,
    fun t _ s => (stepOffspecEntry_moved t s).plant.keepsNominations c⟩,
    fun t _ s => (stepOffspecRecovery_moved t s).plant.keepsNominations c⟩

/-! ### Every command -/

/-- A settled state's second event (01 R1). -/
theorem State.second_law {s : State} (hs : Steady True s) : NominationsLawful s.second := by
  rw [State.second_eq]
  obtain ⟨m, hm⟩ := s.clockSecond.meterSecond_eq
  have hmeter : NominationsKept s.clockSecond s.clockSecond.meterSecond := hm ▸ .of_mtu _ m
  have hstatus (u : State) : NominationsKept u u.statusSecond := u.statusSecond_eq ▸ .of_slk u _
  exact (((hmeter.trans (State.plantSecond_plant _).nominations).trans (hstatus _)).trans
    (State.gradeAll_nominations _ _)).law (State.clockSecond_law hs)

/-- The trip pin is no part of what the law reads. -/
theorem State.tripPin_nominations (s : State) (active : Bool) :
    NominationsKept s { s with sts := { s.sts with tripActive := active } } := ⟨rfl, fun hb => ⟨hb, rfl⟩, id⟩

theorem State.closeCompleted_keepsNominations (s : State) : KeepsNominations s s.closeCompleted :=
  .ite (s.completeClose_keepsNominations.trans (beginAndDrain_keepsNominations _)) (.refl s)

theorem external_law {s : State} (hs : Steady False s) {f : State → State}
    (hf : ∀ u, Steady True u → NominationsLawful (f u)) : NominationsLawful (external s f) := by
  unfold external
  split
  · exact hs.law
  · exact hf _ hs.settle

theorem external_keepsNominations {s : State} (hs : Steady False s) {f : State → State}
    (hf : ∀ u, KeepsNominations u (f u)) : NominationsLawful (external s f) :=
  external_law hs fun u hu => (hf u True hu).law

theorem internal_keepsNominations {s : State} (hs : Steady False s) {f : State → State}
    (hf : ∀ u, KeepsNominations u (f u)) : NominationsLawful (internal s f) :=
  (internal_keeps (P := Steady False) (fun u => hf u False) hs).law

theorem stepBoundary_keepsNominations (s : State) : KeepsNominations s (stepBoundary s) := fun _ hs =>
  have ht := stepBoundary_steady hs
  ⟨ht.law, ht.few, fun _ => ht.settled trivial⟩

theorem exec_law {s : State} (hs : Steady False s) (c : Instr) : ∃ t, exec c s = .next t ∧ NominationsLawful t := by
  have ext {f : State → State} (hf : ∀ u, KeepsNominations u (f u)) := external_keepsNominations hs hf
  have int {f : State → State} (hf : ∀ u, KeepsNominations u (f u)) := internal_keepsNominations hs hf
  have plant {f : State → State} (hf : ∀ u, PlantMoved u (f u)) := int fun u => (hf u).keepsNominations
  cases hr : requestOf c with
  | some r => exact ⟨_, exec_of_request hr s, ext fun u => u.enqueue_takeHead_keepsNominations r⟩
  | none =>
    cases c
    case powerOnOrReset crc trip b1 b0 =>
      refine ⟨_, rfl, (State.release_keepsNominations _ crc trip b1 b0 False ?_).law⟩
      split
      · exact hs
      · have hsettled := hs.settle
        exact State.assertReset_keepsNominations _ False ⟨hsettled.law, hsettled.few, False.elim⟩
    case resetAsserted => exact ⟨_, rfl, ext State.assertReset_keepsNominations⟩
    case tripNAssertion => exact ⟨_, rfl, ext fun u => .ite (.refl u)
      ((u.tripPin_nominations true).trans (State.tripAsserted_nominations _)).keeps⟩
    case tripNRelease => exact ⟨_, rfl, ext fun u => (u.tripPin_nominations false).keeps⟩
    case secondEvent => exact ⟨_, rfl, external_law hs fun _ => State.second_law⟩
    case minuteEvent => exact ⟨_, rfl, int fun u => (stepMinute_nominations u).keeps⟩
    case hourBoundary => exact ⟨_, rfl, int stepBoundary_keepsNominations⟩
    case hourCloseBegin => exact ⟨_, rfl, int fun u => (stepCloseBegin_nominations u).keeps⟩
    case hourCloseComplete => exact ⟨_, rfl, ext State.closeCompleted_keepsNominations⟩
    case planEvaluationBegin => exact ⟨_, rfl, int stepPlanBegin_keepsNominations⟩
    case planEvaluationComplete => exact ⟨_, rfl, ext fun u => u.completePlan_nominations.keeps⟩
    case snapshotWriteBegin => exact ⟨_, rfl, int stepSnapshotBegin_keepsNominations⟩
    case snapshotWriteComplete v => exact ⟨_, rfl, ext fun u => u.completeWrite_keepsNominations v⟩
    case settleTimerExpiry j => exact ⟨_, rfl, plant fun u => (stepSettleExpiry_moved j u).plant⟩
    case valveFault j => exact ⟨_, rfl, plant fun u => (stepValveFault_moved j u).plant⟩
    case minRunExpiry k => exact ⟨_, rfl, plant fun u => (stepMinRunExpiry_moved k u).plant⟩
    case minStopExpiry k => exact ⟨_, rfl, plant fun u => (stepMinStopExpiry_moved k u).plant⟩
    case timeoutExpiry k => exact ⟨_, rfl, plant fun u => (stepTimeoutExpiry_moved k u).plant⟩
    case startListEntryDrop k => exact ⟨_, rfl, plant fun u => (stepStartListDrop_moved k u).plant⟩
    case heatingExpiry => exact ⟨_, rfl, plant fun u => (stepHeatingExpiry_moved u).plant⟩
    case coolingExpiry t => exact ⟨_, rfl, plant fun u => (stepCoolingExpiry_moved t u).plant⟩
    case offspecEntry t => exact ⟨_, rfl, plant fun u => (stepOffspecEntry_moved t u).plant⟩
    case offspecRecovery t => exact ⟨_, rfl, plant fun u => (stepOffspecRecovery_moved t u).plant⟩
    case statusCountdownExpiry => exact ⟨_, rfl, int fun u => (stepStatus_nominations u).keeps⟩
    case frameReceived x => exact ⟨_, rfl, ext fun u => u.takeByte_keepsNominations x⟩
    case byteReceived x => exact ⟨_, rfl, ext fun u => u.takeByte_keepsNominations x⟩
    case parserTimeout => exact ⟨_, rfl, ext State.parserTimeout_keepsNominations⟩
    case recordSent => exact ⟨_, rfl, ext State.recordSent_keepsNominations⟩
    all_goals cases hr

theorem step_law {s t : State} (hs : Steady False s) (ht : step s = .next t) : NominationsLawful t := by
  unfold step at ht
  cases hc : s.pending with
  | nil =>
    simp only [hc] at ht
    cases ht
    exact hs.law
  | cons c rest =>
    simp only [hc] at ht
    have hrest : KeepsNominations s { s with pending := rest } := NominationsKept.keeps (.of_eq rfl)
    obtain ⟨u, hu, hlaw⟩ := exec_law (hrest False hs) c
    rw [hu] at ht
    cases ht
    exact hlaw

/-- The close in flight, the one waiting hand-over and a boundary that is due: at most three hours are not closed
(log 20). -/
theorem State.openHours_few {s : State} (h : s.hcu.handOvers.length ≤ 1) : s.openHours.length ≤ 3 := by
  unfold State.openHours
  rw [List.length_append, List.length_append, List.length_map]
  have hclose : (s.hcu.close.map (·.hand.hour)).toList.length ≤ 1 := by cases s.hcu.close <;> simp
  have hdue : (if s.clk.boundaryDue then [s.endedHour] else []).length ≤ 1 := by split <;> simp
  omega

/-- Settles O35: the edit hour by hour (`edit_actsByHour`), and the law in every command (`exec_law`): an accepted
NOMINATE lies within the hours counted from the oldest that is not closed, and each hour that ends is one of those until
its close retires it. -/
theorem nominationsStayOrderedAndEditsActByHour : Obligations.NominationsStayOrderedAndEditsActByHour := by
  refine ⟨edit_actsByHour, fun s t hshape hlaw hwait ht => ?_⟩
  have hsteady : Steady False s :=
    ⟨(State.nominationLaw_iff hshape).mp hlaw, State.openHours_few hwait, False.elim⟩
  exact (State.nominationLaw_iff (stepKeepsShape s t hshape ht)).mpr (step_law hsteady ht)

end Sys2Proof.Machine
end

section
/-! NOMINATE: its checks in their order, and what an accepted one leaves of the partition, its warning and the marks of
PLU and SNS (05 R70 to R77). -/

open Sys2Proof Sys2Proof.Machine

namespace Sys2Proof.Machine

/-! ### A partition by number (05 R66) -/

/-- The partition that a number from 1 to P names, once it is written. -/
theorem State.partition_setPartition_named {s : State} {n : Nat} (hn : s.namesShipper n) (hs : s.shaped = true)
    (p : Partition) : (s.setPartition n p).partition n = p := by
  obtain ⟨h0, hp⟩ := not_or.mp hn
  have hle := s.shippers_le
  obtain ⟨q, hq⟩ := Option.isSome_iff_exists.mp (nth_isSome (l := s.nst) (n := n) |>.mpr
    ⟨Nat.pos_of_ne_zero h0, by rw [(s.shaped_iff.mp hs).2.partitions]; omega⟩)
  unfold State.partition
  rw [State.setPartition_nst, nth_setNth_self p hq]
  rfl

theorem State.setPartition_eq (s : State) {n : Nat} (h : n ≠ 0) (p : Partition) :
    s.setPartition n p = { s with nst := s.nst.set (n - 1) p } := by
  rw [← setNth_of_ne_zero _ h]
  rfl

/-! ### The near-full warning (05 R77) -/

/-- A partition's count that becomes `after` gives the warning. -/
def State.warns (s : State) (n after : Nat) : Bool :=
  !(s.partition n).disarmed && decide ((s.partition n).entries.length < after) && decide (s.warnEntries ≤ after)

/-- The warning mark that it leaves. -/
def State.markAt (s : State) (n after : Nat) : Bool :=
  if s.warns n after then true else if after < s.warnEntries then false else (s.partition n).disarmed

theorem State.checkWarning_setPartition {s : State} {n : Nat} (hn : s.namesShipper n) (hs : s.shaped = true)
    (es : List NomEntry) :
    (s.setPartition n { s.partition n with entries := es }).checkWarning n (s.partition n).entries.length =
      if s.warns n es.length then (s.setPartition n ⟨es, s.markAt n es.length⟩).raise .nomStoreNearFull n
      else s.setPartition n ⟨es, s.markAt n es.length⟩ := by
  unfold State.checkWarning
  rw [State.partition_setPartition_named hn hs]
  dsimp only
  rw [State.setPartition_setPartition, State.setPartition_setPartition]
  by_cases hw : s.warns n es.length = true
  · rw [if_pos hw, State.markAt, if_pos hw]
    exact if_pos hw
  · rw [if_neg hw, State.markAt, if_neg hw]
    refine (if_neg hw).trans ?_
    show (if (s.partition n).disarmed && decide (es.length < s.warnEntries) then _ else _) = _
    by_cases hlow : es.length < s.warnEntries
    · rw [if_pos hlow]
      cases hd : (s.partition n).disarmed <;> simp [hlow]
    · rw [if_neg hlow]
      simp [hlow]

/-! ### The effect (05 R76) -/

/-- The marks of PLU and SNS that a nomination leaves. -/
def State.nominationMarked (s : State) (touches : Bool) : State :=
  { s with plu := { s.plu with due := s.plu.due || touches }, sns := { s.sns with due := true } }

theorem State.nominationMarked_eq (s : State) (touches : Bool) :
    (if touches then s.makePlanDue else s).makeSnapshotDue = s.nominationMarked touches := by
  cases touches with
  | true =>
    rw [State.nominationMarked, Bool.or_true]
    rfl
  | false =>
    rw [State.nominationMarked, Bool.or_false]
    rfl

theorem State.raise_nominationMarked (s : State) (k : AlertKind) (o : Nat) (touches : Bool) :
    (s.nominationMarked touches).raise k o = (s.raise k o).nominationMarked touches := by
  simp only [State.raise, State.offerReport, State.noteDropped, apply_ite (State.nominationMarked · touches)]
  rfl

theorem State.applyNomination_eq {s : State} {n : Nat} (hn : s.namesShipper n) (hs : s.shaped = true) (e : NomEntry) :
    s.applyNomination n e =
      let es := s.editedList n e
      let t := (s.setPartition n ⟨es, s.markAt n es.length⟩).nominationMarked (s.touchesPlan e)
      if s.warns n es.length then t.raise .nomStoreNearFull n else t := by
  unfold State.applyNomination
  dsimp only
  rw [State.checkWarning_setPartition hn hs, State.nominationMarked_eq, State.raise_nominationMarked]
  exact apply_ite (State.nominationMarked · _) _ _ _

theorem State.applyNomination_rx {s : State} {n : Nat} (hn : s.namesShipper n) (hs : s.shaped = true) (e : NomEntry) :
    (s.applyNomination n e).slk.rx = s.slk.rx := by
  rw [State.applyNomination_eq hn hs]
  dsimp only
  split
  · exact State.raise_rx _ _ _
  · rfl

theorem State.applyNomination_withRx {s : State} {n : Nat} (hn : s.namesShipper n) (hs : s.shaped = true) (e : NomEntry)
    (l : List Request) : (s.withRx l).applyNomination n e = (s.applyNomination n e).withRx l := by
  rw [State.applyNomination_eq (s := s.withRx l) hn hs, State.applyNomination_eq hn hs]
  dsimp only
  rw [apply_ite (State.withRx · l), ← State.raise_withRx]
  rfl

/-! ### The checks (05 R70, R71, R75) -/

theorem nominated_eq {first span dir q : Nat} (hdir : ¬ 1 < dir) :
    nominated first span dir q = ⟨first, span, if dir = 1 then .withdraw else .inject, q⟩ := by
  obtain rfl | rfl : dir = 0 ∨ dir = 1 := by omega
  · rfl
  · rfl

/-- The checks of NOMINATE for an hour number of R2 (log 11). -/
theorem State.nominateRefusal_eq (s : State) (n : Nat) {first : Nat} (span dir q : Nat) (hf : first < 1572864) :
    s.nominateRefusal n first span dir q =
      if s.sts.state = .blank ∨ s.clk.valid = false then some .wrongState
      else if n = 0 ∨ s.shippers < n then some .noSuch
      else if 1 < dir ∨ span = 0 ∨ 48 < span ∨ 10000000 < q then some .badRange
      else if hourBefore first (hourAdd s.currentHour s.cfg.lead) = true then some .tooLate
      else if hourDiff s.nextDayEnd s.currentHour < hourDiff first s.currentHour + (span - 1) then some .badRange
      else if (s.accountOf n).state = .vacant then some .noSuch
      else if s.partitionSize < (s.editedList n (nominated first span dir q)).length then some .storeFull
      else none := by
  have hin : hourOutside first = false := decide_eq_false (Nat.not_le.mpr hf)
  unfold State.nominateRefusal
  simp only [firstFailure_cons, firstFailure_nil, hin, Bool.not_false, Bool.true_and, Bool.false_or, State.isBlank,
    State.pastNextDay, State.noShipper, Bool.or_eq_true, Bool.not_eq_true', beq_iff_eq, decide_eq_true_eq, ite_or]

theorem State.entryCount_eq (s : State) (n : Nat) :
    s.entryCount n = if n = 0 ∨ s.shippers < n then 0 else (s.partition n).entries.length := by
  unfold State.entryCount
  simp only [s.noShipper_iff n]

theorem State.nominate_refused {s : State} {n first span dir q : Nat} {res : Result}
    (hr : s.nominateRefusal n first span dir q = some res) (hfull : res ≠ .storeFull) :
    s.nominate n first span dir q =
      { state := s, result := res, items := s.nominateItems n (s.entryCount n) (s.entryCount n) false } := by
  unfold State.nominate
  rw [hr]
  cases res
  case storeFull => exact absurd rfl hfull
  all_goals rfl

theorem State.nominate_full {s : State} {n first span dir q : Nat}
    (hr : s.nominateRefusal n first span dir q = some .storeFull) :
    s.nominate n first span dir q =
      { state := s, result := .storeFull
        items := s.nominateItems n (s.entryCount n) (s.editedList n (nominated first span dir q)).length false } := by
  unfold State.nominate
  rw [hr]

theorem State.nominate_accepted {s : State} {n first span dir q : Nat}
    (hr : s.nominateRefusal n first span dir q = none) :
    s.nominate n first span dir q =
      let e := nominated first span dir q
      { state := s.applyNomination n e, result := .ok
        items := s.nominateItems n (s.entryCount n) (s.editedList n e).length (s.touchesPlan e) } := by
  unfold State.nominate
  rw [hr]

/-- Settles O34: the checks in their order (`State.nominateRefusal_eq`), and else the effect of
`State.applyNomination_eq`. -/
theorem nominateEditsThePartition : Obligations.NominateEditsThePartition := by
  intro tag n first span dir q s h hcl hs hf run size before e ahead edited refused
  have hcheck := s.nominateRefusal_eq n span dir q hf
  have hheld := State.held_of_no_close hcl ⟨tag, .nominate n first span dir q⟩
  have hbefore : s.entryCount n = before := s.entryCount_eq n
  have refuse {res} (hfull : res ≠ .storeFull) (hr : s.nominateRefusal n first span dir q = some res) :
      run = refused res before := by
    refine exec_answered (b := .nominate n first span dir q) rfl h hheld nofun rfl
      ((State.nominate_refused (s := s.withRx [⟨tag, .nominate n first span dir q⟩]) hr hfull).trans ?_)
    rw [← hbefore]
    rfl
  refine ite_of_check hcheck (refuse nofun) fun _ hc => ite_of_check hc (refuse nofun) fun hn hc =>
    ite_of_check hc (refuse nofun) fun hrange hc => ite_of_check hc (refuse nofun) fun _ hc =>
    ite_of_check hc (refuse nofun) fun _ hc => ite_of_check hc (refuse nofun) fun _ hc => ?_
  have hentry : nominated first span dir q = e := nominated_eq (not_or.mp hrange).1
  rw [hentry] at hc
  refine ite_of_check hc (fun hr => ?_) fun _ hr => ?_
  · refine exec_answered (b := .nominate n first span dir q) rfl h hheld nofun rfl
      ((State.nominate_full (s := s.withRx [⟨tag, .nominate n first span dir q⟩]) hr).trans ?_)
    rw [hentry, ← hbefore]
    rfl
  · intro touches p level warned mark t
    have ht : t = (s.setPartition n ⟨edited, mark⟩).nominationMarked touches := by
      rw [State.setPartition_eq _ (not_or.mp hn).1]
      rfl
    have heffect : s.applyNomination n e = if warned then t.raise .nomStoreNearFull n else t := by
      rw [State.applyNomination_eq hn hs, ht]
      rfl
    rw [← heffect]
    refine exec_accepted (b := .nominate n first span dir q) rfl h hheld nofun rfl (State.applyNomination_rx hn hs e)
      ((State.nominate_accepted (s := s.withRx [⟨tag, .nominate n first span dir q⟩]) hr).trans ?_)
    dsimp only
    rw [hentry, State.applyNomination_withRx hn hs, ← hbefore]
    rfl

end Sys2Proof.Machine
end
